-- ==== Sys2Proof/Word.lean ====
section
/-!
DEFINITION. The names of the part's fixed things (lanes, ports, arms, lines, channels, outlets, targets,
outputs), one small record with named fields for each, so that "one of these per lane" is plain data, and
the plainest arithmetic (00_scope.md, "Units and naming" and "Conventions").
-/

namespace Sys2Proof

/-- One byte of a link (10_formats_and_settings.md). -/
abbrev Byte := BitVec 8

/-- Lanes and bars, A = 0 and B = 1 (00_scope.md; 10_formats_and_settings.md). -/
inductive Lane | a | b
  deriving DecidableEq, Repr, Inhabited

/-- The ports, in the order of the port code: S = 0, A = 1, B = 2 (10_formats_and_settings.md). -/
inductive Port | s | a | b
  deriving DecidableEq, Repr, Inhabited

/-- The three arms, which are also the three claimants of the hub: lane A (its carrier), lane B, the
conditioner (R59; coded 0, 1, 2 by 10_formats_and_settings.md). -/
inductive Arm | a | b | cond
  deriving DecidableEq, Repr, Inhabited

/-- The supply lines (00_scope.md). -/
inductive Line | l1 | l2 | l3
  deriving DecidableEq, Repr, Inhabited

/-- The six pressure channels of a head: the membrane zones and the retaining ring (R73). -/
inductive Chan | z1 | z2 | z3 | z4 | z5 | ring
  deriving DecidableEq, Repr, Inhabited

/-- The outlets of a dispense bar (R133). -/
inductive Outlet | inner | middle | outer
  deriving DecidableEq, Repr, Inhabited

/-- The interlock targets, in the order of their mask's number (R150; 10_formats_and_settings.md 10.4). -/
inductive Target | holdA | holdB | stationTrip | slurryStop
  deriving DecidableEq, Repr, Inhabited

/-- The discrete outputs, in the order of their polarity's number (R162). -/
inductive Output | armStop | slurryShutoff | stationReady
  deriving DecidableEq, Repr, Inhabited

/-- One thing per lane. -/
structure Lanes (α : Type) where
  a : α
  b : α
  deriving DecidableEq, Repr, Inhabited

/-- One thing per port. -/
structure Ports (α : Type) where
  s : α
  a : α
  b : α
  deriving DecidableEq, Repr, Inhabited

/-- One thing per arm. -/
structure Arms (α : Type) where
  a : α
  b : α
  cond : α
  deriving DecidableEq, Repr, Inhabited

/-- One thing per supply line. -/
structure Lines (α : Type) where
  l1 : α
  l2 : α
  l3 : α
  deriving DecidableEq, Repr, Inhabited

/-- One thing per pressure channel. -/
structure Six (α : Type) where
  z1 : α
  z2 : α
  z3 : α
  z4 : α
  z5 : α
  ring : α
  deriving DecidableEq, Repr, Inhabited

/-- One thing per outlet of a bar. -/
structure Three (α : Type) where
  inner : α
  middle : α
  outer : α
  deriving DecidableEq, Repr, Inhabited

/-- One thing per interlock target. -/
structure Targets (α : Type) where
  holdA : α
  holdB : α
  stationTrip : α
  slurryStop : α
  deriving DecidableEq, Repr, Inhabited

/-- One thing per discrete output. -/
structure Outputs (α : Type) where
  armStop : α
  slurryShutoff : α
  stationReady : α
  deriving DecidableEq, Repr, Inhabited

namespace Lanes
variable {α β : Type}
def get (x : Lanes α) : Lane → α
  | .a => x.a
  | .b => x.b
def set (x : Lanes α) (l : Lane) (v : α) : Lanes α :=
  match l with
  | .a => { x with a := v }
  | .b => { x with b := v }
def map (f : α → β) (x : Lanes α) : Lanes β := ⟨f x.a, f x.b⟩
def all (v : α) : Lanes α := ⟨v, v⟩
end Lanes

namespace Ports
variable {α : Type}
def get (x : Ports α) : Port → α
  | .s => x.s
  | .a => x.a
  | .b => x.b
def set (x : Ports α) (p : Port) (v : α) : Ports α :=
  match p with
  | .s => { x with s := v }
  | .a => { x with a := v }
  | .b => { x with b := v }
def map {β : Type} (f : α → β) (x : Ports α) : Ports β := ⟨f x.s, f x.a, f x.b⟩
def all (v : α) : Ports α := ⟨v, v, v⟩
end Ports

namespace Arms
variable {α : Type}
def get (x : Arms α) : Arm → α
  | .a => x.a
  | .b => x.b
  | .cond => x.cond
def set (x : Arms α) (m : Arm) (v : α) : Arms α :=
  match m with
  | .a => { x with a := v }
  | .b => { x with b := v }
  | .cond => { x with cond := v }
def all (v : α) : Arms α := ⟨v, v, v⟩
end Arms

namespace Lines
variable {α β : Type}
def get (x : Lines α) : Line → α
  | .l1 => x.l1
  | .l2 => x.l2
  | .l3 => x.l3
def set (x : Lines α) (k : Line) (v : α) : Lines α :=
  match k with
  | .l1 => { x with l1 := v }
  | .l2 => { x with l2 := v }
  | .l3 => { x with l3 := v }
def map (f : α → β) (x : Lines α) : Lines β := ⟨f x.l1, f x.l2, f x.l3⟩
def all (v : α) : Lines α := ⟨v, v, v⟩
end Lines

namespace Six
variable {α β γ : Type}
def get (x : Six α) : Chan → α
  | .z1 => x.z1
  | .z2 => x.z2
  | .z3 => x.z3
  | .z4 => x.z4
  | .z5 => x.z5
  | .ring => x.ring
def set (x : Six α) (c : Chan) (v : α) : Six α :=
  match c with
  | .z1 => { x with z1 := v }
  | .z2 => { x with z2 := v }
  | .z3 => { x with z3 := v }
  | .z4 => { x with z4 := v }
  | .z5 => { x with z5 := v }
  | .ring => { x with ring := v }
def map (f : α → β) (x : Six α) : Six β := ⟨f x.z1, f x.z2, f x.z3, f x.z4, f x.z5, f x.ring⟩
def zip (f : α → β → γ) (x : Six α) (y : Six β) : Six γ :=
  ⟨f x.z1 y.z1, f x.z2 y.z2, f x.z3 y.z3, f x.z4 y.z4, f x.z5 y.z5, f x.ring y.ring⟩
def all (v : α) : Six α := ⟨v, v, v, v, v, v⟩
def toList (x : Six α) : List α := [x.z1, x.z2, x.z3, x.z4, x.z5, x.ring]
end Six

namespace Three
variable {α β γ : Type}
def get (x : Three α) : Outlet → α
  | .inner => x.inner
  | .middle => x.middle
  | .outer => x.outer
def set (x : Three α) (o : Outlet) (v : α) : Three α :=
  match o with
  | .inner => { x with inner := v }
  | .middle => { x with middle := v }
  | .outer => { x with outer := v }
def map (f : α → β) (x : Three α) : Three β := ⟨f x.inner, f x.middle, f x.outer⟩
def zip (f : α → β → γ) (x : Three α) (y : Three β) : Three γ :=
  ⟨f x.inner y.inner, f x.middle y.middle, f x.outer y.outer⟩
def all (v : α) : Three α := ⟨v, v, v⟩
def toList (x : Three α) : List α := [x.inner, x.middle, x.outer]
def sum (x : Three Nat) : Nat := x.inner + x.middle + x.outer
end Three

namespace Targets
variable {α : Type}
def get (x : Targets α) : Target → α
  | .holdA => x.holdA
  | .holdB => x.holdB
  | .stationTrip => x.stationTrip
  | .slurryStop => x.slurryStop
def set (x : Targets α) (t : Target) (v : α) : Targets α :=
  match t with
  | .holdA => { x with holdA := v }
  | .holdB => { x with holdB := v }
  | .stationTrip => { x with stationTrip := v }
  | .slurryStop => { x with slurryStop := v }
def all (v : α) : Targets α := ⟨v, v, v, v⟩
end Targets

namespace Outputs
variable {α : Type}
def get (x : Outputs α) : Output → α
  | .armStop => x.armStop
  | .slurryShutoff => x.slurryShutoff
  | .stationReady => x.stationReady
def set (x : Outputs α) (o : Output) (v : α) : Outputs α :=
  match o with
  | .armStop => { x with armStop := v }
  | .slurryShutoff => { x with slurryShutoff := v }
  | .stationReady => { x with stationReady := v }
def all (v : α) : Outputs α := ⟨v, v, v⟩
end Outputs

/-- A lane's own port (00_scope.md, "How the outside reaches the part"). -/
def Lane.port : Lane → Port
  | .a => .a
  | .b => .b

/-- A lane's carrier arm, which is also the lane as a claimant of the hub (R59). -/
def Lane.arm : Lane → Arm
  | .a => .a
  | .b => .b

/-- The lane of a carrier port; port S has none. -/
def Port.lane? : Port → Option Lane
  | .s => none
  | .a => some .a
  | .b => some .b

/-- The lane a claimant stands for; the conditioner stands for none. -/
def Arm.lane? : Arm → Option Lane
  | .a => some .a
  | .b => some .b
  | .cond => none

/-- The lane whose hold target this is (R150). -/
def Lane.holdTarget : Lane → Target
  | .a => .holdA
  | .b => .holdB

/-- The interlock input numbered 0 to 7 (input 1 is bit 0 and input 8 bit 7 of a mask, 10.4). -/
abbrev InputIndex := Fin 8

end Sys2Proof
end

