-- ==== Sys2Proof/Config.lean ====
section
/-!
DEFINITION. What one part fixes: its identification, and the values the manual leaves open.
An open value is an opaque constant: nothing can be proved of it, so a claim holds whatever it is.
-/

namespace Sys2Proof.Config

/-- Vendor code of IDENT READ (10_formats_and_settings.md 10.1). -/
def vendorCode : Nat := 0x3A17
/-- Part code of IDENT READ (10.1). -/
def partCode : Nat := 0x7320
/-- Revision of IDENT READ (10.1). -/
def revision : Nat := 0x01

/-- FREE VALUE (log 11). The 48-bit station serial, fixed in each part at manufacture (R175). -/
opaque stationSerial : BitVec 48

/-- FREE VALUE (log 10). The speed, held to 65535, taken at a clean close whose period is 0: R34 divides
600,000,000 by the period and states no result for a period of 0. -/
opaque speedAtPeriodZero : BitVec 16

/-- FREE VALUE (log 12). The two bytes in which a status page carries a measured flow above 65535: the flow
of R132 has no stated top, and 10_formats_and_settings.md gives a flow two bytes. -/
opaque flowFieldAbove65535 : Nat → BitVec 16

end Sys2Proof.Config
end

