-- ==== Sys2Proof/Syntax.lean ====
section
/-!
DEFINITION. The commands: one constructor of `Instr` for each row of spec/opcode_table.json, with the row's
operands. `Request` is the same for the requests alone, without the port, because a request also reaches the
part inside a frame (R166 to R169). Operand values that a request carries are plain numbers: a value out of
range is a request like any other, and the rule that decides it refuses it with RANGE (log 28).
-/

namespace Sys2Proof

/-- An entry of MAP RESTORE: a band index, a wear value and a height in µm (R14). -/
structure RestoreEntry where
  band : Nat
  wear : Nat
  heightUm : Nat
  deriving DecidableEq, Repr, Inhabited

/-- The request kinds, in the order of the role table (R169); the kind codes 0x01 to 0x1F follow it (10.1). -/
inductive Kind
  | identRead | statusRead | noticesRead | noteSend | noteTake | get
  | set | mapRead | mapRestore | padReset | chordLoad | hubClaim
  | hubRelease | hubForceRelease | profileStage | touchdown | release | gainLoad
  | condMode | condReset | diskReset | lineStart | lineRestart | lineStop
  | feedSelect | rateSet | remoteHold | remoteTrip | resume | tripClear
  | stationRestart
  deriving DecidableEq, Repr, Inhabited

/-- The requests of the role table (R169), with the values of their payloads (10.1). -/
inductive Request where
  | identRead
  | statusRead (page : Option Nat)
  | noticesRead
  | noteSend (recipient : Nat) (bytes : List Byte)
  | noteTake
  | get (item inst : Nat)
  | set (item inst value : Nat)
  | mapRead (first count : Nat)
  | mapRestore (entries : List RestoreEntry)
  | padReset
  | chordLoad (lane : Nat) (chords : List Nat)
  | hubClaim
  | hubRelease
  | hubForceRelease
  | profileStage (targets : Six Nat) (mode : Nat)
  | touchdown
  | release
  | gainLoad (lane enable : Nat) (gains : List Nat)
  | condMode (mode : Nat)
  | condReset
  | diskReset (count : Nat)
  | lineStart (line : Nat)
  | lineRestart (line : Nat)
  | lineStop (line : Nat)
  | feedSelect (line : Nat)
  | rateSet (rate : Nat) (weights : Three Nat)
  | remoteHold (lane : Option Nat) (action : Nat)
  | remoteTrip (action : Nat)
  | resume (lane : Option Nat)
  | tripClear
  | stationRestart
  deriving DecidableEq, Repr, Inhabited

/-- The kind of a request. -/
def Request.kind : Request → Kind
  | .identRead => .identRead
  | .statusRead _ => .statusRead
  | .noticesRead => .noticesRead
  | .noteSend _ _ => .noteSend
  | .noteTake => .noteTake
  | .get _ _ => .get
  | .set _ _ _ => .set
  | .mapRead _ _ => .mapRead
  | .mapRestore _ => .mapRestore
  | .padReset => .padReset
  | .chordLoad _ _ => .chordLoad
  | .hubClaim => .hubClaim
  | .hubRelease => .hubRelease
  | .hubForceRelease => .hubForceRelease
  | .profileStage _ _ => .profileStage
  | .touchdown => .touchdown
  | .release => .release
  | .gainLoad _ _ _ => .gainLoad
  | .condMode _ => .condMode
  | .condReset => .condReset
  | .diskReset _ => .diskReset
  | .lineStart _ => .lineStart
  | .lineRestart _ => .lineRestart
  | .lineStop _ => .lineStop
  | .feedSelect _ => .feedSelect
  | .rateSet _ _ => .rateSet
  | .remoteHold _ _ => .remoteHold
  | .remoteTrip _ => .remoteTrip
  | .resume _ => .resume
  | .tripClear => .tripClear
  | .stationRestart => .stationRestart

/-- What a receiver finds wrong with a frame at a byte (R166). -/
inductive FrameFinding | lengthAbove60 | stopBitMissing | crcMismatch
  deriving DecidableEq, Repr, Inhabited

/-- An edge on a platen quadrature channel: forward (A leads B), reverse (B leads A), or both channels together,
which has no direction (R21). -/
inductive PlatenEdge | forward | reverse | undirected
  deriving DecidableEq, Repr, Inhabited

/-- A count of an arm's scale (R36). -/
inductive ArmEdge | outward | inward
  deriving DecidableEq, Repr, Inhabited

/-- The commands, one per row of spec/opcode_table.json, in the table's order. -/
inductive Instr where
  | hardReset
  | identRead (p : Port)
  | statusRead (p : Port) (page : Option Nat)
  | noticesRead (p : Port)
  | noteSend (p : Port) (recipient : Nat) (bytes : List Byte)
  | noteTake (p : Port)
  | get (p : Port) (item inst : Nat)
  | set (p : Port) (item inst value : Nat)
  | mapRead (p : Port) (first count : Nat)
  | mapRestore (p : Port) (entries : List RestoreEntry)
  | padReset (p : Port)
  | chordLoad (p : Port) (lane : Nat) (chords : List Nat)
  | hubClaim (p : Port)
  | hubRelease (p : Port)
  | hubForceRelease (p : Port)
  | profileStage (p : Port) (targets : Six Nat) (mode : Nat)
  | touchdown (p : Port)
  | release (p : Port)
  | gainLoad (p : Port) (lane enable : Nat) (gains : List Nat)
  | condMode (p : Port) (mode : Nat)
  | condReset (p : Port)
  | diskReset (p : Port) (count : Nat)
  | lineStart (p : Port) (line : Nat)
  | lineRestart (p : Port) (line : Nat)
  | lineStop (p : Port) (line : Nat)
  | feedSelect (p : Port) (line : Nat)
  | rateSet (p : Port) (rate : Nat) (weights : Three Nat)
  | remoteHold (p : Port) (lane : Option Nat) (action : Nat)
  | remoteTrip (p : Port) (action : Nat)
  | resume (p : Port) (lane : Option Nat)
  | tripClear (p : Port)
  | stationRestart (p : Port)
  /-- A request frame and its CRC bytes, complete at its last byte (R166). -/
  | validFrame (p : Port) (tag kind : Byte) (payload : List Byte) (crc : BitVec 16)
  | frameError (p : Port) (finding : FrameFinding)
  | interByteTimeout (p : Port)
  | replySent (p : Port)
  | silenceTimerExpiry (l : Lane)
  | platenEncoderCount (e : PlatenEdge)
  /-- The index edge, with the microseconds the time base has counted since the period timer's value in State
  (R34, log 5). -/
  | indexEdge (elapsed : Nat)
  | condMapUpdated
  | gainRecompute
  | dryCountUpdate
  | indexProfileApply
  | stallTimerExpiry
  | armEncoderCount (m : Arm) (e : ArmEdge)
  | homeSwitchEdge (m : Arm)
  | hubEntry (m : Arm)
  | hubExit (m : Arm)
  /-- The 1 ms update, with the converter values of the twelve head sensors and the supply sensor (R82, R83, R91). -/
  | pressureUpdate (adc : Lanes (Six (BitVec 12))) (supply : BitVec 12)
  | touchdownDone (l : Lane)
  | releaseDone (l : Lane)
  | supplyTimeExpiry
  | deviationTimeExpiry (l : Lane) (c : Chan)
  | hardHoldVent (l : Lane)
  | softHoldCap (l : Lane)
  | hardHoldBarEmpty (l : Lane)
  | hardHoldWithdraw (l : Lane)
  | tripBarEmpty
  | condTripHalt
  | condTripClear
  | mapReplaced
  | condGrant
  | condGrantLost
  | condStep
  | moveArrival
  | settleTimeout
  /-- The 1 ms update of the downforce channel, with the converter value of its sensor and the level of the disk-up
  sensor input (R111, R114). -/
  | downforceUpdate (adc : BitVec 12) (diskUp : Bool)
  | loweringComplete
  | liftComplete
  | liftTimeout
  | homingTimeout
  | downforceFault
  | flowMeterPulse (k : Line)
  | stopTimeoutExpiry (k : Line)
  | flowWindowEnd
  | slurryStop
  | interlockPinChange (i : InputIndex) (level : Bool)
  | debounceExpiry (i : InputIndex)
  /-- The 1 ms step of HOMING, with the level of the home switch input (R109). -/
  | homingStep (homeActive : Bool)
  | resetAsserted
  | syncByte (p : Port)
  deriving DecidableEq, Repr, Inhabited

/-- The command that is this request taken on port `p`. -/
def Request.command (p : Port) : Request → Instr
  | .identRead => .identRead p
  | .statusRead page => .statusRead p page
  | .noticesRead => .noticesRead p
  | .noteSend recipient bytes => .noteSend p recipient bytes
  | .noteTake => .noteTake p
  | .get item inst => .get p item inst
  | .set item inst value => .set p item inst value
  | .mapRead first count => .mapRead p first count
  | .mapRestore entries => .mapRestore p entries
  | .padReset => .padReset p
  | .chordLoad lane chords => .chordLoad p lane chords
  | .hubClaim => .hubClaim p
  | .hubRelease => .hubRelease p
  | .hubForceRelease => .hubForceRelease p
  | .profileStage targets mode => .profileStage p targets mode
  | .touchdown => .touchdown p
  | .release => .release p
  | .gainLoad lane enable gains => .gainLoad p lane enable gains
  | .condMode mode => .condMode p mode
  | .condReset => .condReset p
  | .diskReset count => .diskReset p count
  | .lineStart line => .lineStart p line
  | .lineRestart line => .lineRestart p line
  | .lineStop line => .lineStop p line
  | .feedSelect line => .feedSelect p line
  | .rateSet rate weights => .rateSet p rate weights
  | .remoteHold lane action => .remoteHold p lane action
  | .remoteTrip action => .remoteTrip p action
  | .resume lane => .resume p lane
  | .tripClear => .tripClear p
  | .stationRestart => .stationRestart p

end Sys2Proof
end

