-- ==== Sys2Proof/Decode.lean ====
section
/-!
DEFINITION. The bytes of the links (10_formats_and_settings.md): numbers most significant byte first, the frame
CRC of R166, the kind codes, and the request payloads both ways. Then `decodeTableWord`, which the host asks for:
the table gives no row any bits, so no word spells a command (log 32).
-/

namespace Sys2Proof

/-- The number of a run of bytes, most significant byte first (10_formats_and_settings.md). -/
def beNat : List Byte → Nat := List.foldl (fun n b => n * 256 + b.toNat) 0

/-- A number in `w` bytes, most significant byte first. -/
def beBytes : Nat → Nat → List Byte
  | 0, _ => []
  | w + 1, n => beBytes w (n / 256) ++ [BitVec.ofNat 8 n]

/-- One bit of the CRC register: generator x^16 + x^12 + x^5 + 1 (R166). -/
def crcShift (r : BitVec 16) : BitVec 16 :=
  if r.getLsbD 15 then (r <<< 1) ^^^ 0x1021#16 else r <<< 1

/-- One byte into the CRC register, most significant bit first (R166). -/
def crcByte (r : BitVec 16) (b : Byte) : BitVec 16 :=
  Nat.repeat crcShift 8 (r ^^^ (b.zeroExtend 16 <<< 8))

/-- The CRC of a run of bytes, from a register of all ones, with no final inversion (R166). -/
def crc16 (bs : List Byte) : BitVec 16 := bs.foldl crcByte 0xFFFF#16

/-- The two CRC bytes, high byte first (R166). -/
def crcBytes (c : BitVec 16) : List Byte := beBytes 2 c.toNat

/-- The sync byte (10.1). -/
def syncByteValue : Byte := 0xC3

/-- The CRC of a request frame, over the tag, the kind, the length and the payload (R166). -/
def requestCrc (tag kind : Byte) (payload : List Byte) : BitVec 16 :=
  crc16 ([tag, kind, BitVec.ofNat 8 payload.length] ++ payload)

/-- The kinds in the order of the role table (R169). -/
def Kind.all : List Kind :=
  [.identRead, .statusRead, .noticesRead, .noteSend, .noteTake, .get,
   .set, .mapRead, .mapRestore, .padReset, .chordLoad, .hubClaim,
   .hubRelease, .hubForceRelease, .profileStage, .touchdown, .release, .gainLoad,
   .condMode, .condReset, .diskReset, .lineStart, .lineRestart, .lineStop,
   .feedSelect, .rateSet, .remoteHold, .remoteTrip, .resume, .tripClear,
   .stationRestart]

/-- The kind of a kind byte: 0x01 to 0x1F, in the order of the role table; any other byte is unknown (10.1). -/
def Kind.ofByte (b : Byte) : Option Kind :=
  if b.toNat = 0 then none else Kind.all[b.toNat - 1]?

/-- The kind byte of a kind (10.1). -/
def Kind.byte (k : Kind) : Byte := BitVec.ofNat 8 (Kind.all.idxOf k + 1)

/-- A run of two-byte numbers. -/
def beWords : List Byte → List Nat
  | h :: l :: rest => beNat [h, l] :: beWords rest
  | _ => []

/-- The entries of a MAP RESTORE payload: band (1), wear (2), height in µm (2) (10.1). -/
def restoreEntries : List Byte → List RestoreEntry
  | b :: w1 :: w0 :: h1 :: h0 :: rest => ⟨b.toNat, beNat [w1, w0], beNat [h1, h0]⟩ :: restoreEntries rest
  | _ => []

/-- The request a payload spells for a kind on a port, by the table of request payloads; none where the payload's
length is not one the kind allows (10.1, R169 step 3). -/
def Request.ofPayload (p : Port) (k : Kind) (bs : List Byte) : Option Request :=
  match k, bs with
  | .identRead, [] => some .identRead
  | .statusRead, [] => some (.statusRead none)
  | .statusRead, [page] => some (.statusRead (some page.toNat))
  | .noticesRead, [] => some .noticesRead
  | .noteSend, r :: bytes => if 1 ≤ bytes.length ∧ bytes.length ≤ 16 then some (.noteSend r.toNat bytes) else none
  | .noteTake, [] => some .noteTake
  | .get, [i, n] => some (.get i.toNat n.toNat)
  | .set, [i, n, v3, v2, v1, v0] => some (.set i.toNat n.toNat (beNat [v3, v2, v1, v0]))
  | .mapRead, [f, c] => some (.mapRead f.toNat c.toNat)
  | .mapRestore, bs =>
      if bs.length % 5 = 0 ∧ 5 ≤ bs.length ∧ bs.length ≤ 35 then some (.mapRestore (restoreEntries bs)) else none
  | .padReset, [] => some .padReset
  | .chordLoad, l :: chords => if chords.length = 40 then some (.chordLoad l.toNat (beWords chords)) else none
  | .hubClaim, [] => some .hubClaim
  | .hubRelease, [] => some .hubRelease
  | .hubForceRelease, [] => some .hubForceRelease
  | .profileStage, [a1, a0, b1, b0, c1, c0, d1, d0, e1, e0, r1, r0, m] =>
      some (.profileStage ⟨beNat [a1, a0], beNat [b1, b0], beNat [c1, c0], beNat [d1, d0], beNat [e1, e0],
        beNat [r1, r0]⟩ m.toNat)
  | .touchdown, [] => some .touchdown
  | .release, [] => some .release
  | .gainLoad, l :: e :: gains =>
      if gains.length = 8 then some (.gainLoad l.toNat e.toNat (gains.map BitVec.toNat)) else none
  | .condMode, [m] => some (.condMode m.toNat)
  | .condReset, [] => some .condReset
  | .diskReset, [c2, c1, c0] => some (.diskReset (beNat [c2, c1, c0]))
  | .lineStart, [l] => some (.lineStart l.toNat)
  | .lineRestart, [l] => some (.lineRestart l.toNat)
  | .lineStop, [l] => some (.lineStop l.toNat)
  | .feedSelect, [l] => some (.feedSelect l.toNat)
  | .rateSet, [r1, r0, i, m, o] => some (.rateSet (beNat [r1, r0]) ⟨i.toNat, m.toNat, o.toNat⟩)
  | .remoteHold, [x] => if p.lane?.isSome then some (.remoteHold none x.toNat) else none
  | .remoteHold, [l, x] => if p.lane?.isSome then none else some (.remoteHold (some l.toNat) x.toNat)
  | .remoteTrip, [x] => some (.remoteTrip x.toNat)
  | .resume, [] => if p.lane?.isSome then some (.resume none) else none
  | .resume, [l] => if p.lane?.isSome then none else some (.resume (some l.toNat))
  | .tripClear, [] => some .tripClear
  | .stationRestart, [] => some .stationRestart
  | _, _ => none

/-- The payload bytes of a request (10.1): the sender's side of `Request.ofPayload`. -/
def Request.payload : Request → List Byte
  | .statusRead none => []
  | .statusRead (some page) => beBytes 1 page
  | .noteSend r bytes => beBytes 1 r ++ bytes
  | .get i n => beBytes 1 i ++ beBytes 1 n
  | .set i n v => beBytes 1 i ++ beBytes 1 n ++ beBytes 4 v
  | .mapRead f c => beBytes 1 f ++ beBytes 1 c
  | .mapRestore es => es.flatMap fun e => beBytes 1 e.band ++ beBytes 2 e.wear ++ beBytes 2 e.heightUm
  | .chordLoad l cs => beBytes 1 l ++ cs.flatMap (beBytes 2)
  | .profileStage t m => t.toList.flatMap (beBytes 2) ++ beBytes 1 m
  | .gainLoad l e gs => beBytes 1 l ++ beBytes 1 e ++ gs.flatMap (beBytes 1)
  | .condMode m => beBytes 1 m
  | .diskReset c => beBytes 3 c
  | .lineStart l | .lineRestart l | .lineStop l | .feedSelect l => beBytes 1 l
  | .rateSet r w => beBytes 2 r ++ w.toList.flatMap (beBytes 1)
  | .remoteHold none x => beBytes 1 x
  | .remoteHold (some l) x => beBytes 1 l ++ beBytes 1 x
  | .remoteTrip x => beBytes 1 x
  | .resume none => []
  | .resume (some l) => beBytes 1 l
  | .identRead | .noticesRead | .noteTake | .padReset | .hubClaim | .hubRelease | .hubForceRelease | .touchdown
  | .release | .condReset | .tripClear | .stationRestart => []

/-- The frame that carries a request with a tag, as the command VALID_FRAME (R166). -/
def Request.frame (p : Port) (tag : Byte) (r : Request) : Instr :=
  .validFrame p tag r.kind.byte r.payload (requestCrc tag r.kind.byte r.payload)

/-- The command a word of spec/opcode_table.json's bits spells. No row of the table gives bits: none (log 32). -/
def decodeTableWord (_nbits _w : Nat) : Option Instr := none

end Sys2Proof
end

