-- ==== Sys2Proof/Machine/State.lean ====
section
/-!
DEFINITION. The whole state of the part, block by block, as plain data, and its value after a hard reset.
Where a chapter names a piece of state, the field's comment cites the rule. INVENTORY.md lists them all.
-/

namespace Sys2Proof.Machine

/-- Reasons for which the part would stop. There is none: every command is answered by a next state, and what the
manual calls a fault (R118, R93, R166) is state. -/
inductive Fault where
  deriving DecidableEq, Repr

/-- Commands the model would not run. -/
inductive Refusal where
  /-- Raised by `exec` alone, for a command that has no meaning yet; no arm raises it now. Safe. -/
  | notModelled (mnemonic : String)
  deriving DecidableEq, Repr

/-! ### Settings (10_formats_and_settings.md 10.4) -/

/-- Whether conditioning may work under a lane that is down (R103). -/
inductive Policy | shared | clear
  deriving DecidableEq, Repr, Inhabited

/-- The severity of a hold or a cause (R150, R152). -/
inductive Severity | soft | hard
  deriving DecidableEq, Repr, Inhabited

/-- An output's polarity (R162). -/
inductive Polarity | high | low
  deriving DecidableEq, Repr, Inhabited

/-- The map's thresholds (R8). -/
structure MapSettings where
  glazeWarn : Nat
  glazeLimit : Nat
  condStart : Nat
  condStop : Nat
  cutGain : Nat
  heightGain : Nat
  padLife : Nat
  deriving DecidableEq, Repr, Inhabited

/-- The tracker's settings (R31, R35, R36, R37, R39). -/
structure TrackerSettings where
  stallLimit : Nat
  windowLower : Nat
  windowUpper : Nat
  homePreset : Lanes Nat
  hubSize : Nat
  laneReach : Lanes Nat
  condReach : Nat
  deriving DecidableEq, Repr, Inhabited

/-- The head pressure controller's settings (R96). -/
structure PressureSettings where
  limit : Lanes (Six Nat)
  rampRate : Lanes Nat
  softHold : Lanes Nat
  supplyMin : Nat
  supplyTime : Nat
  tolerance : Nat
  deviationTime : Nat
  deriving DecidableEq, Repr, Inhabited

/-- The conditioner controller's settings (R121). -/
structure CondSettings where
  policy : Policy
  parkRadius : Nat
  sweepSpeed : Nat
  sweepInner : Nat
  sweepOuter : Nat
  downforce : Nat
  downforceLimit : Nat
  dwellLimit : Nat
  diskLifeLimit : Nat
  deriving DecidableEq, Repr, Inhabited

/-- The slurry unit's settings (R145). -/
structure SlurrySettings where
  maxFlow : Lines Nat
  recirculation : Lines Nat
  primeCount : Lines Nat
  primeFlow : Lines Nat
  stopTimeout : Lines Nat
  fallback : Lines (Option Line)
  pulsesPerLitre : Lines Nat
  barMax : Lanes Nat
  outletFirst : Lanes (Three Nat)
  outletCount : Lanes (Three Nat)
  outletMax : Lanes (Three Nat)
  deriving DecidableEq, Repr, Inhabited

/-- The interlock matrix's settings (R148, R149, R150, R154, R162). -/
structure MatrixSettings where
  debounceTime : Nat
  invertMask : BitVec 8
  masks : Targets (BitVec 8)
  severity : Lanes Severity
  dryLimit : Nat
  polarity : Outputs Polarity
  deriving DecidableEq, Repr, Inhabited

/-- Every setting (R180, R181). -/
structure Settings where
  map : MapSettings
  tracker : TrackerSettings
  press : PressureSettings
  cond : CondSettings
  slurry : SlurrySettings
  matrix : MatrixSettings
  /-- link silence time (R177) -/
  linkSilence : Nat
  deriving DecidableEq, Repr, Inhabited

/-! ### The pad band map -/

/-- A band's classification (R1, R2). -/
inductive BandState | fresh | glazing | glazed | worn
  deriving DecidableEq, Repr, Inhabited

/-- A band record (R1); the band's index is its place in the list. -/
structure Band where
  wear : Nat
  /-- height loss in nm -/
  height : Nat
  state : BandState
  glazedSince : Option (BitVec 32)
  deriving DecidableEq, Repr, Inhabited

/-- A lane's chord table (R5). -/
structure ChordTable where
  entries : List Nat
  loaded : Bool
  deriving DecidableEq, Repr, Inhabited

/-- The pad band map and the accounting of the revolution in flight (R1, R5, R10, R11, R15, R19, R41). -/
structure PadMap where
  /-- twenty records, band 0 first -/
  bands : List Band
  chords : Lanes ChordTable
  /-- VALID is true -/
  valid : Bool
  /-- the restored-band set, one flag a band -/
  restored : List Bool
  revCount : BitVec 32
  tally : List Nat
  cut : List Nat
  dryMarks : Lanes Nat
  suspect : Bool
  cutMark : Bool
  deriving DecidableEq, Repr, Inhabited

/-! ### The tracker -/

/-- The tracker's states (02, section 2.3), in the order of their codes. -/
inductive TrackerState | unhomed | tracking | lost | stalled
  deriving DecidableEq, Repr, Inhabited

/-- One arm as the tracker follows it (R36, R37). -/
structure ArmTrack where
  count : BitVec 32
  referenced : Bool
  inside : Bool
  deriving DecidableEq, Repr, Inhabited

/-- The platen and arm tracker (R21 to R40). -/
structure Tracker where
  state : TrackerState
  /-- the angle counter (R21) -/
  angle : Int
  /-- the next-mark pointer (R22) -/
  nextMark : Nat
  reversed : Bool
  platenSuspect : Bool
  /-- this revolution had a reverse crossing, an edge without direction or a stall (R30, R34) -/
  disturbed : Bool
  suspectRun : Nat
  /-- absent while stopped (R31) -/
  stallTimer : Option Nat
  /-- microseconds (R34) -/
  periodTimer : Nat
  period : Nat
  speed : Nat
  inWindow : Bool
  arms : Arms ArmTrack
  deriving DecidableEq, Repr, Inhabited

/-! ### The hub arbiter -/

/-- The hub arbiter (R59). -/
structure Hub where
  holder : Option Arm
  /-- oldest first -/
  waitList : List Arm
  /-- the intruder set, one flag an arm -/
  intruders : Arms Bool
  deriving DecidableEq, Repr, Inhabited

/-! ### The head pressure controller -/

/-- Lane states, in the order of their codes (R73). -/
inductive LaneState | raised | touchdown | polish | releasing
  deriving DecidableEq, Repr, Inhabited

/-- A pending apply (R73). -/
inductive PendingApply | atIndex | nextTouchdown
  deriving DecidableEq, Repr, Inhabited

/-- A lane position as carried by map updated: clamped to 0..45000, with its referenced flag (R55, R73). -/
structure CarriedPosition where
  position : Nat
  referenced : Bool
  deriving DecidableEq, Repr, Inhabited

/-- One pressure channel (R73). -/
structure Channel where
  effective : Nat
  drive : Nat
  command : Nat
  /-- thousandths of a unit -/
  remainder : Nat
  readback : Nat
  devTimer : Nat
  fault : Bool
  deriving DecidableEq, Repr, Inhabited

/-- A lane of the head pressure controller (R73). -/
structure LanePressure where
  state : LaneState
  staged : Six Nat
  pending : Option PendingApply
  active : Six Nat
  gain : Nat
  bucket : Nat
  gainTable : List Nat
  compEnable : Bool
  compPosition : Option CarriedPosition
  compClamped : Bool
  supplyLow : Bool
  channels : Six Channel
  deriving DecidableEq, Repr, Inhabited

/-- The head pressure controller (R73, R91, R92). -/
structure Pressure where
  lanes : Lanes LanePressure
  supplyReading : Nat
  supplyTimer : Nat
  /-- the SUPPLY_LOW condition as last reported to the matrix (R92) -/
  supplyLowActive : Bool
  deriving DecidableEq, Repr, Inhabited

/-! ### The conditioner controller -/

/-- The conditioner's mode, in the order of the codes (R100). -/
inductive CondMode | off | sweep | map
  deriving DecidableEq, Repr, Inhabited

/-- The conditioner's thirteen states, in the order of the table of section 6.1. -/
inductive CondState
  | unreferenced | homing | parked | waitHub | waitClear | moving | lowering | dwelling | sweeping | lifting
  | returning | halted | fault
  deriving DecidableEq, Repr, Inhabited

/-- The current target (R100). -/
inductive CondTarget
  | band (k : Nat)
  | sweepStart
  | sweepResume
  | park
  deriving DecidableEq, Repr, Inhabited

/-- What follows a lift (R100). -/
inductive LiftPurpose | select | sweep | waitHub | returnToPark | halt
  deriving DecidableEq, Repr, Inhabited

/-- The direction of a sweep stroke (R100). -/
inductive SweepDir | outward | inward
  deriving DecidableEq, Repr, Inhabited

/-- The fault kinds (R100, R118). -/
inductive FaultKind | following | settle | lift | homing | downforce
  deriving DecidableEq, Repr, Inhabited

/-- An entry of the conditioning queue (R104). -/
structure QueueEntry where
  band : Nat
  rankedWear : Nat
  rest : Option Nat
  deriving DecidableEq, Repr, Inhabited

/-- The conditioner controller (R100). -/
structure Conditioner where
  mode : CondMode
  state : CondState
  target : Option CondTarget
  liftPurpose : Option LiftPurpose
  sweepDir : Option SweepDir
  queue : List QueueEntry
  dwell : Nat
  stepPos : BitVec 32
  dfCommand : Nat
  dfReadback : Nat
  dfDevTimer : Nat
  /-- absent while stopped, as the next two -/
  settleTimer : Option Nat
  liftTimer : Option Nat
  homingTimer : Option Nat
  faultKind : Option FaultKind
  diskLife : Nat
  spent : Bool
  /-- a TRIP CLEAR was noted during a lift to HALT (R117) -/
  clearNoted : Bool
  deriving DecidableEq, Repr, Inhabited

/-! ### The slurry unit -/

/-- Supply line states, in the order of their codes (R124). -/
inductive LineState | off | priming | ready | stopped
  deriving DecidableEq, Repr, Inhabited

/-- A supply line (R124). -/
structure SupplyLine where
  state : LineState
  /-- prime progress -/
  prime : Nat
  lastPulse : Nat
  /-- pulses in the current one-second window -/
  window : Nat
  measured : Nat
  demand : Nat
  servedLow : Bool
  setpoint : Nat
  duty : Nat
  deriving DecidableEq, Repr, Inhabited

/-- An outlet of a bar (R133). -/
structure OutletFlow where
  demand : Nat
  served : Nat
  valve : Nat
  deriving DecidableEq, Repr, Inhabited

/-- A resume record (R133, R141). -/
structure ResumeRecord where
  line : Line
  fallback : Bool
  deriving DecidableEq, Repr, Inhabited

/-- A dispense bar (R133). -/
structure Bar where
  /-- NONE is none -/
  feed : Option Line
  fallback : Bool
  resume : Option ResumeRecord
  rate : Nat
  weights : Three Nat
  outlets : Three OutletFlow
  deriving DecidableEq, Repr, Inhabited

/-- The slurry unit (R124, R132, R133). -/
structure Slurry where
  lines : Lines SupplyLine
  bars : Lanes Bar
  /-- milliseconds into the running window (R132) -/
  windowMs : Nat
  deriving DecidableEq, Repr, Inhabited

/-! ### The interlock matrix -/

/-- One interlock input: the pin's level, the accepted level, the debounce timer and the debounce time that the
running timer uses (R148, R149). -/
structure InterlockInput where
  pin : Bool
  accepted : Bool
  timer : Nat
  limit : Nat
  deriving DecidableEq, Repr, Inhabited

/-- The lane cause kinds, in the order of the table of R152. -/
inductive CauseKind | input | remote | pressureFault | dry | linkSilent | supplyLow | trip
  deriving DecidableEq, Repr, Inhabited

/-- A cause entry (R152). The channels are those of PRESSURE_FAULT, none otherwise. -/
structure CauseEntry where
  kind : CauseKind
  severity : Severity
  channels : Six Bool
  deriving DecidableEq, Repr, Inhabited

/-- The hold levels, in the order of their codes (R153). -/
inductive HoldLevel | none | soft | hard
  deriving DecidableEq, Repr, Inhabited

/-- The trip causes, in the order of the table of R157. -/
inductive TripCause | input | remote | hubIntrusion | platenStall | platenLost
  deriving DecidableEq, Repr, Inhabited

/-- The station states (R157). -/
inductive StationState | normal | tripped
  deriving DecidableEq, Repr, Inhabited

/-- The interlock matrix (R148). -/
structure Matrix where
  /-- eight inputs, input 1 first -/
  inputs : List InterlockInput
  remoteHold : Lanes (Option Severity)
  /-- one entry a kind at most -/
  causes : Lanes (List CauseEntry)
  dryCount : Lanes Nat
  remoteTrip : Bool
  station : StationState
  /-- no cause twice -/
  tripCauses : List TripCause
  deriving DecidableEq, Repr, Inhabited

/-! ### The link interface -/

/-- The notices, in the order of the notice table (section 9.7). -/
inductive Notice
  | glaze | glazeUnder | padSpent | platenReverse | platenState | speedWindow | hubGranted | hubLost
  | profileApplied | touchdownDone | releaseDone | condFault | diskSpent | lineReady | lineStopped
  | feedFallback | feedLost | holdEntered | tripEntered | noteArrived | noteTaken
  deriving DecidableEq, Repr, Inhabited

/-- The results, in the order of the results table (section 9.6; codes 0x00 to 0x19). -/
inductive Result
  | ok | accepted | granted | queued | held | withdrawn | notHeld | state | range | busy | role | unknownKind
  | length | notReady | inUse | causeActive | mapInvalid | noChord | platen | speed | notHomed | padSpent | dry
  | stillInside | boxFull | boxEmpty
  deriving DecidableEq, Repr, Inhabited

/-- The reply flags, in the order of the flags byte (R168, 10.1). -/
structure ReplyFlags where
  overrun : Bool
  crcSeen : Bool
  attention : Bool
  clamped : Bool
  noWeight : Bool
  feedNotRestored : Bool
  deriving DecidableEq, Repr, Inhabited

/-- A composed reply but for the tag, which the frame in process gives (R168). -/
structure Reply where
  kind : Byte
  result : Result
  flags : ReplyFlags
  payload : List Byte
  deriving DecidableEq, Repr, Inhabited

/-- A request as a slot holds it (R166, R167). -/
structure SlotRequest where
  tag : Byte
  kind : Byte
  payload : List Byte
  deriving DecidableEq, Repr, Inhabited

/-- A note (R173). -/
structure Note where
  sender : Port
  bytes : List Byte
  deriving DecidableEq, Repr, Inhabited

/-- One port of the link interface (R166 to R173). -/
structure PortLink where
  /-- collecting a frame, or hunting -/
  collecting : Bool
  inProcess : Option SlotRequest
  waiting : Option SlotRequest
  overrun : Bool
  crcSeen : Bool
  /-- the notice set: no name twice, and the order means nothing -/
  notices : List Notice
  noteBox : Option Note
  /-- the reply frame being transmitted -/
  sending : Option (List Byte)
  /-- the last reply composed -/
  reply : Option Reply
  deriving DecidableEq, Repr, Inhabited

/-- A carrier link's silence timer and flag (R177). -/
structure Silence where
  timer : Nat
  silent : Bool
  /-- silent since an expiry that added LINK_SILENT: set at that expiry, cleared by the next valid frame (R152, R155) -/
  cause : Bool
  deriving DecidableEq, Repr, Inhabited

/-- The link interface. -/
structure Links where
  ports : Ports PortLink
  silence : Lanes Silence
  deriving DecidableEq, Repr, Inhabited

/-! ### Events between blocks -/

/-- What a map updated event carries (R55). -/
structure MapUpdated where
  dry : Lanes Bool
  positions : Lanes CarriedPosition
  diskCut : Bool
  deriving DecidableEq, Repr, Inhabited

/-- An event one block has raised and another has not yet taken (log 2). Each is taken by the row of the same name. -/
inductive Event where
  | hubEntry (m : Arm)
  | hubExit (m : Arm)
  | condMapUpdated (u : MapUpdated)
  | gainRecompute (u : MapUpdated)
  | dryCountUpdate (u : MapUpdated)
  | indexProfileApply
  | hardHoldVent (l : Lane)
  | softHoldCap (l : Lane)
  | hardHoldBarEmpty (l : Lane)
  | hardHoldWithdraw (l : Lane)
  | tripBarEmpty
  | condTripHalt
  | condTripClear
  | mapReplaced
  | condGrant
  | condGrantLost
  | slurryStop
  deriving DecidableEq, Repr, Inhabited

/-! ### The state -/

end Sys2Proof.Machine

namespace Sys2Proof.Machine
open Sys2Proof

/-- The whole machine. -/
structure State where
  map : PadMap
  tracker : Tracker
  hub : Hub
  press : Pressure
  cond : Conditioner
  slurry : Slurry
  matrix : Matrix
  links : Links
  settings : Settings
  /-- raised and not yet taken, oldest first (log 2) -/
  events : List Event
  /-- the RESET input is asserted (R162, R165, R168) -/
  resetAsserted : Bool
  /-- the commands that are waiting, first in, first out -/
  pending : List Instr
  deriving DecidableEq, Repr, Inhabited

/-! ### Hard reset -/

/-- The settings' defaults (10.4). -/
def Settings.default : Settings where
  map :=
    { glazeWarn := 24576, glazeLimit := 49152, condStart := 16384, condStop := 8192
      cutGain := 64, heightGain := 16, padLife := 1500 }
  tracker :=
    { stallLimit := 5000, windowLower := 200, windowUpper := 1500, homePreset := .all 44000
      hubSize := 3, laneReach := .all 16500, condReach := 5000 }
  press :=
    { limit := .all { (Six.all 700) with ring := 900 }, rampRate := .all 200, softHold := .all 50
      supplyMin := 2000, supplyTime := 2000, tolerance := 20, deviationTime := 200 }
  cond :=
    { policy := .clear, parkRadius := 43000, sweepSpeed := 40, sweepInner := 12000, sweepOuter := 36000
      downforce := 200, downforceLimit := 500, dwellLimit := 8, diskLifeLimit := 200000 }
  slurry :=
    { maxFlow := .all 1000, recirculation := .all 100, primeCount := .all 256, primeFlow := .all 500
      stopTimeout := .all 500, fallback := .all none, pulsesPerLitre := .all 2000, barMax := .all 300
      outletFirst := .all ⟨0, 7, 14⟩, outletCount := .all ⟨7, 7, 6⟩, outletMax := .all (.all 200) }
  matrix :=
    { debounceTime := 5, invertMask := 0, masks := .all 0, severity := .all .hard, dryLimit := 2
      polarity := .all .high }
  linkSilence := 250

/-- A band record after hard reset (R20). -/
def Band.fresh : Band := { wear := 0, height := 0, state := .fresh, glazedSince := none }

/-- The map after hard reset (R20, R58). -/
def PadMap.reset : PadMap where
  bands := List.replicate 20 Band.fresh
  chords := .all { entries := List.replicate 20 0, loaded := false }
  valid := false
  restored := List.replicate 20 false
  revCount := 0
  tally := List.replicate 20 0
  cut := List.replicate 20 0
  dryMarks := .all 0
  suspect := false
  cutMark := false

/-- The tracker after hard reset (R40). -/
def Tracker.reset : Tracker where
  state := .unhomed
  angle := 0
  nextMark := 1024
  reversed := false
  platenSuspect := false
  disturbed := false
  suspectRun := 0
  stallTimer := none
  periodTimer := 0
  period := 0
  speed := 0
  inWindow := false
  arms := .all { count := 0, referenced := false, inside := false }

/-- The arbiter after hard reset (R71). -/
def Hub.reset : Hub where
  holder := none
  waitList := []
  intruders := .all false

/-- A channel after hard reset (R98; the readback by log 9). -/
def Channel.reset : Channel where
  effective := 0
  drive := 0
  command := 0
  remainder := 0
  readback := 0
  devTimer := 0
  fault := false

/-- A lane after hard reset (R98). -/
def LanePressure.reset : LanePressure where
  state := .raised
  staged := .all 0
  pending := none
  active := .all 0
  gain := 0
  bucket := 0
  gainTable := List.replicate 8 0
  compEnable := false
  compPosition := none
  compClamped := false
  supplyLow := false
  channels := .all Channel.reset

/-- The head pressure controller after hard reset (R98; the supply reading by log 9). -/
def Pressure.reset : Pressure where
  lanes := .all LanePressure.reset
  supplyReading := 0
  supplyTimer := 0
  supplyLowActive := false

/-- The conditioner controller after hard reset (R123; the readback by log 9). -/
def Conditioner.reset : Conditioner where
  mode := .off
  state := .unreferenced
  target := none
  liftPurpose := none
  sweepDir := none
  queue := []
  dwell := 0
  stepPos := 0
  dfCommand := 0
  dfReadback := 0
  dfDevTimer := 0
  settleTimer := none
  liftTimer := none
  homingTimer := none
  faultKind := none
  diskLife := 0
  spent := false
  clearNoted := false

/-- A supply line after hard reset (R147). -/
def SupplyLine.reset : SupplyLine where
  state := .off
  prime := 0
  lastPulse := 0
  window := 0
  measured := 0
  demand := 0
  servedLow := false
  setpoint := 0
  duty := 0

/-- A bar after hard reset (R147). -/
def Bar.reset : Bar where
  feed := none
  fallback := false
  resume := none
  rate := 0
  weights := .all 1
  outlets := .all { demand := 0, served := 0, valve := 0 }

/-- The slurry unit after hard reset (R147). -/
def Slurry.reset : Slurry where
  lines := .all SupplyLine.reset
  bars := .all Bar.reset
  windowMs := 0

/-- An interlock input after hard reset, with the pin's level low (R164; the pin by log 9, the limit by the default of
the debounce time). -/
def InterlockInput.reset : InterlockInput where
  pin := false
  accepted := false
  timer := 0
  limit := 5

/-- The interlock matrix after hard reset (R164). -/
def Matrix.reset : Matrix where
  inputs := List.replicate 8 InterlockInput.reset
  remoteHold := .all none
  causes := .all []
  dryCount := .all 0
  remoteTrip := false
  station := .normal
  tripCauses := []

/-- A port after hard reset (R178). -/
def PortLink.reset : PortLink where
  collecting := false
  inProcess := none
  waiting := none
  overrun := false
  crcSeen := false
  notices := []
  noteBox := none
  sending := none
  reply := none

/-- The link interface after hard reset (R178). -/
def Links.reset : Links where
  ports := .all PortLink.reset
  silence := .all { timer := 0, silent := false, cause := false }

/-- The machine right after a hard reset: the reset table of every chapter. -/
def State.reset : State where
  map := PadMap.reset
  tracker := Tracker.reset
  hub := Hub.reset
  press := Pressure.reset
  cond := Conditioner.reset
  slurry := Slurry.reset
  matrix := Matrix.reset
  links := Links.reset
  settings := Settings.default
  events := []
  resetAsserted := false
  pending := []

end Sys2Proof.Machine
end

