-- ==== Sys2Proof/Machine/Ops.lean ====
section
/-!
DEFINITION. The named operations over State: replacing one block, filing a notice (R171), raising an event for
another block and taking it (log 2), and the answer a block gives to a request (R168).
-/

namespace Sys2Proof.Machine
open Sys2Proof

/-! ### Replacing one block -/

def State.modMap (f : PadMap → PadMap) (s : State) : State := { s with map := f s.map }
def State.modTracker (f : Tracker → Tracker) (s : State) : State := { s with tracker := f s.tracker }
def State.modHub (f : Hub → Hub) (s : State) : State := { s with hub := f s.hub }
def State.modPress (f : Pressure → Pressure) (s : State) : State := { s with press := f s.press }
def State.modCond (f : Conditioner → Conditioner) (s : State) : State := { s with cond := f s.cond }
def State.modSlurry (f : Slurry → Slurry) (s : State) : State := { s with slurry := f s.slurry }
def State.modMatrix (f : Matrix → Matrix) (s : State) : State := { s with matrix := f s.matrix }
def State.modLinks (f : Links → Links) (s : State) : State := { s with links := f s.links }
def State.modSettings (f : Settings → Settings) (s : State) : State := { s with settings := f s.settings }
def State.modEvents (f : List Event → List Event) (s : State) : State := { s with events := f s.events }

/-- A lane of the head pressure controller. -/
def State.lane (s : State) (l : Lane) : LanePressure := s.press.lanes.get l
def State.modLane (l : Lane) (f : LanePressure → LanePressure) (s : State) : State :=
  s.modPress fun p => { p with lanes := p.lanes.set l (f (p.lanes.get l)) }

/-- A dispense bar. -/
def State.bar (s : State) (l : Lane) : Bar := s.slurry.bars.get l
def State.modBar (l : Lane) (f : Bar → Bar) (s : State) : State :=
  s.modSlurry fun q => { q with bars := q.bars.set l (f (q.bars.get l)) }

/-- A supply line. -/
def State.line (s : State) (k : Line) : SupplyLine := s.slurry.lines.get k
def State.modLine (k : Line) (f : SupplyLine → SupplyLine) (s : State) : State :=
  s.modSlurry fun q => { q with lines := q.lines.set k (f (q.lines.get k)) }

/-- An arm as the tracker follows it. -/
def State.arm (s : State) (m : Arm) : ArmTrack := s.tracker.arms.get m
def State.modArm (m : Arm) (f : ArmTrack → ArmTrack) (s : State) : State :=
  s.modTracker fun t => { t with arms := t.arms.set m (f (t.arms.get m)) }

/-- A port of the link interface. -/
def State.port (s : State) (p : Port) : PortLink := s.links.ports.get p
def State.modPort (p : Port) (f : PortLink → PortLink) (s : State) : State :=
  s.modLinks fun k => { k with ports := k.ports.set p (f (k.ports.get p)) }

/-- A lane's cause set (R152). -/
def State.causes (s : State) (l : Lane) : List CauseEntry := s.matrix.causes.get l

/-! ### Notices (R171) -/

/-- Filing adds the name to the set; a name already present stays (R171). -/
def fileInto (n : Notice) (set : List Notice) : List Notice := if n ∈ set then set else set ++ [n]

/-- File a notice with a port (R171). -/
def State.file (p : Port) (n : Notice) (s : State) : State :=
  s.modPort p fun k => { k with notices := fileInto n k.notices }

/-- File a notice to ports S, A and B. -/
def State.fileAll (n : Notice) (s : State) : State := ((s.file .s n).file .a n).file .b n

/-! ### Events between blocks (log 2) -/

/-- Raise an event for another block. -/
def State.raise (e : Event) (s : State) : State := s.modEvents (· ++ [e])

/-- Take the oldest outstanding event of a channel, when it is of the kind wanted: the event and the state without it.
A channel is one block telling one block about one thing, so what is told there is taken in the order told (log 2). -/
def State.takeEvent (channel wanted : Event → Bool) (s : State) : Option (Event × State) :=
  match s.events.find? channel with
  | some e => if wanted e then some (e, s.modEvents (·.erase e)) else none
  | none => none

/-- Take an event that is a channel of its own. -/
def State.takeKind (wanted : Event → Bool) (s : State) : Option (Event × State) := s.takeEvent wanted wanted

/-! ### Answers to requests (R168) -/

/-- What a block answers to a request: the state after the request's own effects, the result, the request flags
(CLAMPED, NO_WEIGHT, FEED_NOT_RESTORED) and the reply payload. -/
structure Answer where
  state : State
  result : Result
  clamped : Bool := false
  noWeight : Bool := false
  feedNotRestored : Bool := false
  payload : List Byte := []
  deriving DecidableEq, Repr

/-- "Refused with X": the result X, the state as it was, an empty payload (00_scope.md; R170). -/
def refuse (r : Result) (s : State) : Answer := { state := s, result := r }

/-- An answer with result OK and an empty payload. -/
def done (s : State) : Answer := { state := s, result := .ok }

end Sys2Proof.Machine
end

