-- ==== Sys2Proof/Machine/Operands.lean ====
section
/-!
DEFINITION. Operand codes and reply encodings (10_formats_and_settings.md): an enumerated value is one byte whose
code is its place in the list that defines it, a set is a bit field in the fewest whole bytes, an absent optional
field is its presence byte 0 followed by zeros.
-/

namespace Sys2Proof.Machine
open Sys2Proof

/-! ### Codes read from a request -/

/-- Lanes and bars are A = 0 and B = 1. -/
def laneOfCode : Nat → Option Lane
  | 0 => some .a
  | 1 => some .b
  | _ => none

/-- A recipient or port code is S = 0, A = 1 and B = 2. -/
def portOfCode : Nat → Option Port
  | 0 => some .s
  | 1 => some .a
  | 2 => some .b
  | _ => none

/-- NONE, L1, L2 and L3 are 0 to 3: a feed or a fallback line; none where the code is bad. -/
def feedOfCode : Nat → Option (Option Line)
  | 0 => some none
  | 1 => some (some .l1)
  | 2 => some (some .l2)
  | 3 => some (some .l3)
  | _ => none

/-- A line code that names a line (R125). -/
def lineOfCode (n : Nat) : Option Line := (feedOfCode n).join

/-- The apply modes NOW 0, AT_INDEX 1, NEXT_TOUCHDOWN 2 (10.1): the pending apply of the mode, NOW giving none. -/
def applyOfCode : Nat → Option (Option PendingApply)
  | 0 => some none
  | 1 => some (some .atIndex)
  | 2 => some (some .nextTouchdown)
  | _ => none

/-- The conditioner modes OFF, SWEEP, MAP (R100, R101). -/
def condModeOfCode : Nat → Option CondMode
  | 0 => some .off
  | 1 => some .sweep
  | 2 => some .map
  | _ => none

/-- The REMOTE HOLD actions SET SOFT 0, SET HARD 1 and CLEAR 2 (10.1): the remote hold asked for, CLEAR giving none. -/
def holdActionOfCode : Nat → Option (Option Severity)
  | 0 => some (some .soft)
  | 1 => some (some .hard)
  | 2 => some none
  | _ => none

/-- The lane a request acts on: on a carrier port the port's own, on port S the one the payload names (R151, R156,
R169). None is a lane code that names no lane. -/
def requestLane (p : Port) (code : Option Nat) : Option Lane :=
  match p.lane?, code with
  | some l, _ => some l
  | none, some n => laneOfCode n
  | none, none => none

/-! ### Codes written to a reply -/

def laneCode : Lane → Nat
  | .a => 0
  | .b => 1
def portCode : Port → Nat
  | .s => 0
  | .a => 1
  | .b => 2
def armCode : Arm → Nat
  | .a => 0
  | .b => 1
  | .cond => 2
def feedCode : Option Line → Nat
  | none => 0
  | some .l1 => 1
  | some .l2 => 2
  | some .l3 => 3
def BandState.code : BandState → Nat
  | .fresh => 0
  | .glazing => 1
  | .glazed => 2
  | .worn => 3
def TrackerState.code : TrackerState → Nat
  | .unhomed => 0
  | .tracking => 1
  | .lost => 2
  | .stalled => 3
def LaneState.code : LaneState → Nat
  | .raised => 0
  | .touchdown => 1
  | .polish => 2
  | .releasing => 3
/-- DESIGN CHOICE (log 37): a pending apply is an optional field, and its code its place among AT_INDEX and NEXT_TOUCHDOWN. -/
def PendingApply.code : PendingApply → Nat
  | .atIndex => 0
  | .nextTouchdown => 1
def CondMode.code : CondMode → Nat
  | .off => 0
  | .sweep => 1
  | .map => 2
def CondState.code : CondState → Nat
  | .unreferenced => 0
  | .homing => 1
  | .parked => 2
  | .waitHub => 3
  | .waitClear => 4
  | .moving => 5
  | .lowering => 6
  | .dwelling => 7
  | .sweeping => 8
  | .lifting => 9
  | .returning => 10
  | .halted => 11
  | .fault => 12
def FaultKind.code : FaultKind → Nat
  | .following => 0
  | .settle => 1
  | .lift => 2
  | .homing => 3
  | .downforce => 4
def Policy.code : Policy → Nat
  | .shared => 0
  | .clear => 1
def LineState.code : LineState → Nat
  | .off => 0
  | .priming => 1
  | .ready => 2
  | .stopped => 3
def Severity.code : Severity → Nat
  | .soft => 0
  | .hard => 1
def Polarity.code : Polarity → Nat
  | .high => 0
  | .low => 1
def HoldLevel.code : HoldLevel → Nat
  | .none => 0
  | .soft => 1
  | .hard => 2
def StationState.code : StationState → Nat
  | .normal => 0
  | .tripped => 1

/-- The notices in the order of the notice table (section 9.7). -/
def Notice.all : List Notice :=
  [.glaze, .glazeUnder, .padSpent, .platenReverse, .platenState, .speedWindow, .hubGranted, .hubLost,
   .profileApplied, .touchdownDone, .releaseDone, .condFault, .diskSpent, .lineReady, .lineStopped,
   .feedFallback, .feedLost, .holdEntered, .tripEntered, .noteArrived, .noteTaken]

/-- The results in the order of the results table (section 9.6). -/
def Result.all : List Result :=
  [.ok, .accepted, .granted, .queued, .held, .withdrawn, .notHeld, .state, .range, .busy, .role, .unknownKind,
   .length, .notReady, .inUse, .causeActive, .mapInvalid, .noChord, .platen, .speed, .notHomed, .padSpent, .dry,
   .stillInside, .boxFull, .boxEmpty]

/-- The result byte (10.1). -/
def Result.byte (r : Result) : Byte := BitVec.ofNat 8 (Result.all.idxOf r)

/-- The cause kinds in the order of the table of R152. -/
def CauseKind.all : List CauseKind := [.input, .remote, .pressureFault, .dry, .linkSilent, .supplyLow, .trip]

/-- The trip causes in the order of the table of R157. -/
def TripCause.all : List TripCause := [.input, .remote, .hubIntrusion, .platenStall, .platenLost]

/-! ### Bytes -/

/-- One byte of a number. -/
def byte1 (n : Nat) : List Byte := beBytes 1 n

/-- A flag, or an item that is so or not, in one byte. 10.1 gives it for COMP_CLAMPED and the enable of GAIN LOAD and for the
map's validity; DESIGN CHOICE (log 37): the same for every other such item of a status page, 1 for set or yes. -/
def boolByte (b : Bool) : List Byte := byte1 b.toNat

/-- The number of a bit field whose bit i says whether member i belongs (10.1). -/
def bitField : List Bool → Nat
  | [] => 0
  | b :: rest => b.toNat + 2 * bitField rest

/-- A set in `w` bytes, the first member in bit 0 of the last byte (10.1). -/
def setBytes (w : Nat) (members : List Bool) : List Byte := beBytes w (bitField members)

/-- DESIGN CHOICE (log 37): the presence byte of an optional field that is present is 1. 10.1 gives 0 for an absent one. -/
def presentByte : List Byte := byte1 1

/-- An optional one-byte code: the presence byte, then the code, or zeros (10_formats_and_settings.md). -/
def optCode : Option Nat → List Byte
  | none => [0, 0]
  | some n => presentByte ++ byte1 n

/-- A radial position: four bytes, signed (10_formats_and_settings.md). -/
def positionBytes (p : BitVec 32) : List Byte := beBytes 4 p.toNat

/-- The notice set in three bytes, one bit a notice (10.2). -/
def noticeBytes (set : List Notice) : List Byte := setBytes 3 (Notice.all.map fun n => decide (n ∈ set))

/-- The flags byte (10.1). -/
def ReplyFlags.byte (f : ReplyFlags) : Byte :=
  BitVec.ofNat 8 (bitField [f.overrun, f.crcSeen, f.attention, f.clamped, f.noWeight, f.feedNotRestored])

/-- A reply frame: sync, tag, kind, result, flags, length, payload and CRC (10.1, R168). -/
def replyFrame (tag : Byte) (r : Reply) : List Byte :=
  let body := [tag, r.kind, Result.byte r.result, r.flags.byte, BitVec.ofNat 8 r.payload.length] ++ r.payload
  [syncByteValue] ++ body ++ crcBytes (crc16 body)

end Sys2Proof.Machine
end

