-- ==== Sys2Proof/Machine/Flags.lean ====
section
/-!
DEFINITION. Everything the part derives from its state on the spot: lane and hold tests, wetness, input and target
activity, cause and trip conditions, and the outputs that follow the state (log 29).
-/

namespace Sys2Proof.Machine
open Sys2Proof

/-! ### Lanes -/

/-- A lane is down in TOUCHDOWN, POLISH and RELEASING (05, section 5.1). -/
def LaneState.down : LaneState → Bool
  | .raised => false
  | .touchdown => true
  | .polish => true
  | .releasing => true

def State.laneDown (s : State) (l : Lane) : Bool := (s.lane l).state.down

def State.laneRaised (s : State) (l : Lane) : Bool := decide ((s.lane l).state = .raised)

def State.bothRaised (s : State) : Bool := s.laneRaised .a && s.laneRaised .b

/-- The PRESSURE_FAULT condition of a lane: the fault flag of any of its channels is set (R94). -/
def State.pressureFault (s : State) (l : Lane) : Bool := (s.lane l).channels.toList.any (·.fault)

/-- A lane's fault channel set (R94). -/
def State.faultChannels (s : State) (l : Lane) : Six Bool := (s.lane l).channels.map (·.fault)

/-! ### Slurry -/

/-- A bar is wet while its feed is not NONE and its outlets' served flows sum to more than 0 (R140). -/
def Bar.wet (b : Bar) : Bool := b.feed.isSome && decide (0 < (b.outlets.map (·.served)).sum)

/-! ### Conditioner -/

/-- The states in which the disk motor runs (R100). -/
def CondState.motorOn : CondState → Bool
  | .waitHub | .waitClear | .moving | .lowering | .dwelling | .sweeping | .lifting | .returning => true
  | .unreferenced | .homing | .parked | .halted | .fault => false

/-- PARKED, UNREFERENCED or FAULT: the states in which PAD RESET, DISK RESET and STATION RESTART are taken
(R12, R120, R160). -/
def CondState.atRest : CondState → Bool
  | .parked | .unreferenced | .fault => true
  | _ => false

/-! ### Hub -/

/-- Hub quiet: the holder is absent and the wait list empty (R59). -/
def Hub.quiet (h : Hub) : Bool := h.holder.isNone && h.waitList.isEmpty

/-- The intruder set is not empty (R68). -/
def Hub.intrusion (h : Hub) : Bool := h.intruders.a || h.intruders.b || h.intruders.cond

/-- A referenced arm inside the hub. The inside flag is clear for an unreferenced arm (R37). -/
def State.armInside (s : State) (m : Arm) : Bool := (s.arm m).referenced && (s.arm m).inside

/-- The arms inside the hub. -/
def State.armsInside (s : State) : List Arm := [Arm.a, Arm.b, Arm.cond].filter s.armInside

/-! ### Interlock inputs and targets (R149, R150) -/

def Matrix.input (m : Matrix) (i : InputIndex) : InterlockInput := m.inputs.getD i.val InterlockInput.reset

/-- An input is active when its accepted level, inverted if the invert mask marks it, is 1 (R149). -/
def State.inputActive (s : State) (i : InputIndex) : Bool :=
  (s.matrix.input i).accepted != s.settings.matrix.invertMask.getLsbD i.val

/-- A target is active while at least one input in its mask is active (R150). -/
def State.targetActive (s : State) (t : Target) : Bool :=
  (List.finRange 8).any fun i => (s.settings.matrix.masks.get t).getLsbD i.val && s.inputActive i

/-! ### Causes, levels and conditions (R152, R153, R157) -/

/-- The hold level is the highest severity in the cause set, NONE when it is empty (R153). -/
def levelOf (causes : List CauseEntry) : HoldLevel :=
  if causes.any (fun e => decide (e.severity = .hard)) then .hard
  else if causes.isEmpty then .none
  else .soft

def State.holdLevel (s : State) (l : Lane) : HoldLevel := levelOf (s.causes l)

/-- Whether a lane cause's condition is active, judged afresh (R152). LINK_SILENT's is active while
the silent flag is set (R177) in the silence that began with the expiry that added it (R152), to the next valid frame (R155).
DESIGN CHOICE (log 30): in a later silence, of which R177 says otherwise than R152 and R155, it is as these two say. -/
def State.causeActive (s : State) (l : Lane) : CauseKind → Bool
  | .input => s.targetActive l.holdTarget
  | .remote => (s.matrix.remoteHold.get l).isSome
  | .pressureFault => s.pressureFault l
  | .dry => s.laneDown l && !(s.bar l).wet
  | .linkSilent =>
      let x := s.links.silence.get l
      x.silent && x.cause
  | .supplyLow => s.press.supplyLowActive
  | .trip => decide (s.matrix.station = .tripped)

/-- Whether a trip cause's condition is active (R157). -/
def State.tripActive (s : State) : TripCause → Bool
  | .input => s.targetActive .stationTrip
  | .remote => s.matrix.remoteTrip
  | .hubIntrusion => s.hub.intrusion
  | .platenStall => decide (s.tracker.state = .stalled)
  | .platenLost => decide (s.tracker.state = .lost)

/-- The members of a lane's cause set whose condition is active (R156). -/
def State.activeCauses (s : State) (l : Lane) : List CauseKind :=
  CauseKind.all.filter fun k => (s.causes l).any (fun e => decide (e.kind = k)) && s.causeActive l k

/-- The trip causes whose condition is active, whether or not in the trip cause set (R159). -/
def State.activeTrips (s : State) : List TripCause := TripCause.all.filter s.tripActive

/-! ### Outputs that follow the state (R83, R162, R165, R171) -/

/-- The duty, out of 4095, of a regulator output at a command (R83). -/
def regulatorDuty (command : Nat) : Nat := command * 4095 / 1000

/-- Whether an output is asserted (R162). -/
def State.asserted (s : State) : Output → Bool
  | .armStop => decide (s.matrix.station = .tripped)
  | .slurryShutoff => s.targetActive .slurryStop
  | .stationReady =>
      decide (s.matrix.station = .normal) && s.map.valid && decide (s.tracker.state = .tracking)

/-- The level of an output pin: by the polarity, and low while RESET is asserted (R162). -/
def State.pinLevel (s : State) (o : Output) : Bool :=
  !s.resetAsserted &&
    match s.settings.matrix.polarity.get o with
    | .high => s.asserted o
    | .low => !s.asserted o

/-- Whether a port's attention line is asserted: while its notice set is not empty, and not while RESET is asserted
(R165, R171). -/
def State.attention (s : State) (p : Port) : Bool := !s.resetAsserted && !(s.port p).notices.isEmpty

/-- The bytes on a port's transmit pair; it idles while RESET is asserted (R165, R168). -/
def State.transmitting (s : State) (p : Port) : Option (List Byte) :=
  if s.resetAsserted then none else (s.port p).sending

/-- The duty of a head regulator output (R83). -/
def State.headDuty (s : State) (l : Lane) (c : Chan) : Nat := regulatorDuty ((s.lane l).channels.get c).command

/-- The duty of the downforce regulator output (R111, R83). -/
def State.downforceDuty (s : State) : Nat := regulatorDuty s.cond.dfCommand

/-- The disk motor enable (R100). -/
def State.diskMotor (s : State) : Bool := s.cond.state.motorOn

end Sys2Proof.Machine
end

