-- ==== Sys2Proof/Machine/Holds.lean ====
section
/-!
DEFINITION. The shared operation of the interlock matrix: adding a cause to a lane's set and telling a risen level
(R152, R153), tripping the station (R157, R158), and taking the targets that have become active (R150).
-/

namespace Sys2Proof.Machine
open Sys2Proof

/-- Raised to the new severity if that is higher, and otherwise left (R152). -/
def raiseSeverity (old new : Severity) : Severity :=
  match new with
  | .hard => .hard
  | .soft => old

/-- Add an entry to a cause set: one entry a kind, its severity raised and its channels joined (R152). -/
def addEntry (e : CauseEntry) : List CauseEntry → List CauseEntry
  | [] => [e]
  | x :: rest =>
      if x.kind = e.kind then
        { x with severity := raiseSeverity x.severity e.severity, channels := x.channels.zip or e.channels } :: rest
      else x :: addEntry e rest

/-- Tell a lane's level to the blocks that act on it: SOFT and NONE to the pressure controller (R90), HARD to the
pressure controller, the slurry unit and the arbiter (R89, R141, R69, R153). -/
def State.tellLevel (l : Lane) (level : HoldLevel) (s : State) : State :=
  match level with
  | .none => s.raise (.softHoldCap l)
  | .soft => s.raise (.softHoldCap l)
  | .hard => ((s.raise (.hardHoldVent l)).raise (.hardHoldBarEmpty l)).raise (.hardHoldWithdraw l)

/-- Replace a lane's cause set. -/
def State.setCauses (l : Lane) (c : List CauseEntry) (s : State) : State :=
  s.modMatrix fun m => { m with causes := m.causes.set l c }

/-- A rise of a lane's level files HOLD_ENTERED to the lane's port and to S (R153). -/
def State.fileHold (l : Lane) (s : State) : State := (s.file l.port .holdEntered).file .s .holdEntered

/-- A rise of a lane's level is filed and told (R153). -/
def State.holdEntered (l : Lane) (level : HoldLevel) (s : State) : State := (s.fileHold l).tellLevel l level

/-- A cause's condition becomes active: its entry is added, and `rise` acts on a rise of the level (R152, R153). -/
def State.addCauseWith (rise : HoldLevel → State → State) (l : Lane) (e : CauseEntry) (s : State) : State :=
  let s' := s.setCauses l (addEntry e (s.causes l))
  if s'.holdLevel l = s.holdLevel l then s' else rise (s'.holdLevel l) s'

/-- A cause's condition becomes active, and a rise of the level is filed and told (R152, R153). -/
def State.addCause (l : Lane) (e : CauseEntry) (s : State) : State := s.addCauseWith (State.holdEntered l) l e

/-- A cause taken as becoming active at a station restart: a rise of the level is filed, and no other block is told of it
(R161). -/
def State.addCauseUntold (l : Lane) (e : CauseEntry) (s : State) : State := s.addCauseWith (fun _ => State.fileHold l) l e

/-- An entry without channels. -/
def causeEntry (k : CauseKind) (sev : Severity) : CauseEntry := ⟨k, sev, .all false⟩

/-- Add a cause to both lanes. -/
def State.addCauseBoth (e : CauseEntry) (s : State) : State := (s.addCause .a e).addCause .b e

/-- Insert a trip cause into the trip cause set (R158). -/
def insertTrip (c : TripCause) (set : List TripCause) : List TripCause := if c ∈ set then set else set ++ [c]

/-- A trip cause's condition becomes active: in NORMAL the station trips (R157), in TRIPPED the cause joins the set and
nothing else happens (R158). -/
def State.tripCause (c : TripCause) (s : State) : State :=
  let s' := s.modMatrix fun m => { m with tripCauses := insertTrip c m.tripCauses, station := .tripped }
  match s.matrix.station with
  | .tripped => s'
  | .normal =>
      (((s'.fileAll .tripEntered).addCauseBoth (causeEntry .trip .hard)).raise .tripBarEmpty).raise .condTripHalt

/-- Do `f` if a condition has become active. -/
def State.onRise (before after : Bool) (f : State → State) (s : State) : State :=
  if !before && after then f s else s

/-- Take the targets that are active in `s` and were not in `before` (R150). -/
def State.takeTargets (s before : State) : State :=
  let rise := fun t => (before.targetActive t, s.targetActive t)
  let hold := fun l => causeEntry .input (s.settings.matrix.severity.get l)
  (((s.onRise (rise .holdA).1 (rise .holdA).2 (·.addCause .a (hold .a))).onRise
      (rise .holdB).1 (rise .holdB).2 (·.addCause .b (hold .b))).onRise
      (rise .stationTrip).1 (rise .stationTrip).2 (·.tripCause .input)).onRise
      (rise .slurryStop).1 (rise .slurryStop).2 (·.raise .slurryStop)

end Sys2Proof.Machine
end

