-- ==== Sys2Proof/Machine/Hub.lean ====
section
/-!
DEFINITION. The hub arbiter: claims (R60, R61), releases and the hand-off (R62 to R64), force release (R65), crossings
and intrusion (R66 to R68), the hard hold (R69) and what a restart re-derives (R71).
-/

namespace Sys2Proof.Machine
open Sys2Proof

/-- A claimant becomes the holder; a new holder whose arm is inside leaves the intruder set (R60, R63). -/
def State.grantHub (m : Arm) (s : State) : State :=
  s.modHub fun h => { h with holder := some m, intruders := h.intruders.set m false }

/-- A lane's hold level is HARD; the conditioner has no hold level (R60, R61). -/
def State.claimantHard (s : State) (m : Arm) : Bool :=
  match m.lane? with
  | some l => decide (s.holdLevel l = .hard)
  | none => false

/-- A claim of the hub, by the first case of R60 that holds (R61 for the conditioner). -/
def State.claimHub (m : Arm) (s : State) : Result × State :=
  if !(s.arm m).referenced then (.notHomed, s)
  else if s.hub.holder = some m then (.held, s)
  else if m ∈ s.hub.waitList then (.queued, s)
  else if s.claimantHard m then (.state, s)
  else if s.hub.holder.isNone then (.granted, s.grantHub m)
  else (.queued, s.modHub fun h => { h with waitList := h.waitList ++ [m] })

/-- The new holder is told of the grant: a lane by HUB_GRANTED, the conditioner by a grant event (R63). -/
def State.tellGrant (m : Arm) (s : State) : State :=
  match m.lane? with
  | some l => s.file l.port .hubGranted
  | none => s.raise .condGrant

/-- The holder's grant ends, and the hub is handed to the oldest waiting claimant, or is free (R63). -/
def State.endGrant (s : State) : State :=
  match s.hub.waitList with
  | [] => s.modHub fun h => { h with holder := none }
  | m :: rest => ((s.modHub fun h => { h with waitList := rest }).grantHub m).tellGrant m

/-- A claimant leaves the wait list; those behind it move up (R62, R69). -/
def State.withdrawClaim (m : Arm) (s : State) : State :=
  s.modHub fun h => { h with waitList := h.waitList.filter (fun x => decide (x ≠ m)) }

/-- A release by a claimant, by the first case of R62 that holds (R64 for the conditioner). -/
def State.releaseHub (m : Arm) (s : State) : Result × State :=
  if s.hub.holder = some m then
    if (s.arm m).inside then (.stillInside, s) else (.ok, s.endGrant)
  else if m ∈ s.hub.waitList then (.withdrawn, s.withdrawClaim m)
  else (.notHeld, s)

/-- A claimant's place: holder 0, first waiting 1, second waiting 2 (R60, 10.1). -/
def Hub.place (h : Hub) (m : Arm) : Nat := if h.holder = some m then 0 else h.waitList.idxOf m + 1

/-- HUB CLAIM on a carrier port (R60). GRANTED, HELD and QUEUED carry the lane's place. -/
def decideHubClaim (p : Port) (s : State) : Answer :=
  match p.lane? with
  | none => refuse .role s
  | some l =>
      let r := s.claimHub l.arm
      { state := r.2
        result := r.1
        payload :=
          match r.1 with
          | .granted | .held | .queued => byte1 (r.2.hub.place l.arm)
          | _ => [] }

/-- HUB RELEASE on a carrier port (R62). -/
def decideHubRelease (p : Port) (s : State) : Answer :=
  match p.lane? with
  | none => refuse .role s
  | some l =>
      let r := s.releaseHub l.arm
      { state := r.2, result := r.1 }

/-- The former holder is told that it has lost the grant (R65). -/
def State.tellLoss (m : Arm) (s : State) : State :=
  match m.lane? with
  | some l => s.file l.port .hubLost
  | none => s.raise .condGrantLost

/-- A holder as a presence byte and a claimant code (10.1). -/
def holderBytes (h : Option Arm) : List Byte := optCode (h.map armCode)

/-- HUB FORCE RELEASE (R65). -/
def decideHubForceRelease (s : State) : Answer :=
  match s.hub.holder with
  | none => refuse .notHeld s
  | some m =>
      if (s.arm m).inside then refuse .stillInside s
      else
        let s' := s.endGrant.tellLoss m
        { state := s', result := .ok, payload := byte1 (armCode m) ++ holderBytes s'.hub.holder }

/-! ### Crossings -/

/-- A crossing of one arm, entry or exit. -/
def Event.crossingOf (m : Arm) : Event → Bool
  | .hubEntry x => decide (x = m)
  | .hubExit x => decide (x = m)
  | _ => false

/-- The arbiter takes a hub entry (R66); an arm that is not the holder is an intruder, and HUB_INTRUSION becomes active
when the intruder set was empty (R68). -/
def State.hubEntry (m : Arm) (s : State) : State :=
  if s.hub.holder = some m then s
  else
    (s.modHub fun h => { h with intruders := h.intruders.set m true }).onRise s.hub.intrusion true
      (·.tripCause .hubIntrusion)

def execHubEntry (m : Arm) (s : State) : Host.Outcome State Fault Refusal :=
  match s.takeEvent (Event.crossingOf m) (fun e => decide (e = .hubEntry m)) with
  | some (_, s') => .next (s'.hubEntry m)
  | none => .next s

/-- The arbiter takes a hub exit (R67). -/
def State.hubExit (m : Arm) (s : State) : State :=
  if s.hub.holder = some m then (if m = .cond then s.endGrant else s)
  else s.modHub fun h => { h with intruders := h.intruders.set m false }

def execHubExit (m : Arm) (s : State) : Host.Outcome State Fault Refusal :=
  match s.takeEvent (Event.crossingOf m) (fun e => decide (e = .hubExit m)) with
  | some (_, s') => .next (s'.hubExit m)
  | none => .next s

/-! ### Hard hold and restart -/

/-- At HARD the lane leaves the wait list; a holder keeps its grant (R69). -/
def execHardHoldWithdraw (l : Lane) (s : State) : Host.Outcome State Fault Refusal :=
  match s.takeKind (fun e => decide (e = .hardHoldWithdraw l)) with
  | some (_, s') => .next (s'.withdrawClaim l.arm)
  | none => .next s

/-- What a restart re-derives: empty list and set, and the one referenced arm inside the hub as holder (R71). -/
def State.rederiveHub (s : State) : State :=
  s.modHub fun _ =>
    { holder := match s.armsInside with
        | [m] => some m
        | _ => none
      waitList := []
      intruders := .all false }

end Sys2Proof.Machine
end

