-- ==== Sys2Proof/Machine/PadMap.lean ====
section
/-!
DEFINITION. The pad band map's own rules: bands and chords (R1, R6), classification (R2, R3), and the requests that
read, restore and reset the map and load chord tables (R7, R12, R14 to R18).
-/

namespace Sys2Proof.Machine
open Sys2Proof

/-! ### Bands and chords -/

/-- The centre of band k, in 0.01 mm (R1). -/
def bandCentre (k : Nat) : Nat := 2000 * k + 1000

/-- A radial position clamped to 0..45000 (R6). -/
def clampRadius (p : Int) : Nat := (max 0 (min 45000 p)).toNat

/-- The distance between two radii. -/
def radiusDistance (a b : Int) : Nat := (a - b).natAbs

/-- The chord of a table for band k at an arm position (R6). -/
def chordAt (t : ChordTable) (referenced : Bool) (p : Int) (k : Nat) : Nat :=
  if referenced && t.loaded then
    let idx := radiusDistance (bandCentre k) (clampRadius p) / 1000
    if idx ≤ 19 then t.entries.getD idx 0 else 0
  else 0

/-- An arm's radial position as counted, signed (R36). -/
def ArmTrack.position (a : ArmTrack) : Int := a.count.toInt

/-- The chord of a lane for band k at the lane's current arm position (R6). -/
def State.laneChord (s : State) (l : Lane) (k : Nat) : Nat :=
  chordAt (s.map.chords.get l) (s.arm l.arm).referenced (s.arm l.arm).position k

/-- The twenty bands. -/
def bandIndices : List Nat := List.range 20

/-! ### Classification -/

/-- The state of a band from its wear, its height loss and the thresholds (R2). -/
def classify (g : MapSettings) (wear height : Nat) : BandState :=
  if g.padLife ≤ height / 1000 then .worn
  else if g.glazeLimit ≤ wear then .glazed
  else if g.glazeWarn ≤ wear then .glazing
  else .fresh

/-- Classify a band, with its glazed-since field at the given count (R2, R3). -/
def reclassify (g : MapSettings) (count : BitVec 32) (b : Band) : Band :=
  let st := classify g b.wear b.height
  { b with
    state := st
    glazedSince :=
      if st = .glazed then (if b.state = .glazed then b.glazedSince else some count) else none }

def PadMap.band (m : PadMap) (k : Nat) : Band := m.bands.getD k Band.fresh

/-- Some band is WORN (R2, R84). -/
def PadMap.anyWorn (m : PadMap) : Bool := m.bands.any fun b => decide (b.state = .worn)

/-! ### The revolution in flight -/

/-- Clear every tally, cut tally, dry-mark count and the cut-mark flag (R11, R41, R51). -/
def PadMap.clearTallies (m : PadMap) : PadMap :=
  { m with
    tally := List.replicate 20 0, cut := List.replicate 20 0, dryMarks := .all 0, cutMark := false }

/-- What PAD RESET and restore completion do alike: VALID, no restored band, count 0, tallies cleared, the
revolution in flight marked suspect (R12, R17). -/
def PadMap.becomeValid (m : PadMap) : PadMap :=
  { m.clearTallies with valid := true, restored := List.replicate 20 false, revCount := 0, suspect := true }

/-! ### PAD RESET, MAP RESTORE, CHORD LOAD -/

/-- A zeroed and classified record (R12). -/
def zeroedBand (g : MapSettings) : Band :=
  { wear := 0, height := 0, state := classify g 0 0, glazedSince := none }

/-- The effects of an accepted PAD RESET (R12). -/
def State.padReset (s : State) : State :=
  (s.modMap fun m => { m.becomeValid with bands := List.replicate 20 (zeroedBand s.settings.map) }).raise .mapReplaced

/-- PAD RESET (R12). -/
def decidePadReset (s : State) : Answer :=
  if s.bothRaised && s.cond.state.atRest then done s.padReset else refuse .busy s

/-- An entry outside its ranges (R14 step 2). -/
def RestoreEntry.outOfRange (e : RestoreEntry) : Bool :=
  decide (19 < e.band) || decide (65535 < e.wear) || decide (4000 < e.heightUm)

/-- Two entries name the same band (R14 step 2). -/
def repeatsBand : List RestoreEntry → Bool
  | [] => false
  | e :: rest => rest.any (fun x => decide (x.band = e.band)) || repeatsBand rest

/-- Store and classify one entry, and add its band to the restored-band set (R15). -/
def PadMap.restoreEntry (g : MapSettings) (m : PadMap) (e : RestoreEntry) : PadMap :=
  { m with
    bands := m.bands.set e.band
      (reclassify g m.revCount { m.band e.band with wear := e.wear, height := e.heightUm * 1000 })
    restored := m.restored.set e.band true }

/-- The restored-band set holds all twenty bands (R16, R17). -/
def PadMap.restoreComplete (m : PadMap) : Bool := m.restored.all id

/-- The effects of an accepted MAP RESTORE (R15, R16, R17). -/
def State.mapRestore (entries : List RestoreEntry) (s : State) : State :=
  let s' := s.modMap fun m => entries.foldl (PadMap.restoreEntry s.settings.map) m
  if s'.map.restoreComplete then (s'.modMap PadMap.becomeValid).raise .mapReplaced else s'

/-- The reply of MAP RESTORE: the number of bands restored, 20 at completion, and the validity (R15, 10.1). -/
def restoreReply (m : PadMap) : List Byte :=
  byte1 (if m.valid then 20 else m.restored.count true) ++ boolByte m.valid

/-- MAP RESTORE after dispatch (R14). -/
def decideMapRestore (entries : List RestoreEntry) (s : State) : Answer :=
  if entries.any RestoreEntry.outOfRange || repeatsBand entries then refuse .range s
  else if s.map.valid then refuse .state s
  else
    let s' := s.mapRestore entries
    { state := s', result := .ok, payload := restoreReply s'.map }

/-- CHORD LOAD after dispatch (R7). -/
def decideChordLoad (code : Nat) (chords : List Nat) (s : State) : Answer :=
  match laneOfCode code with
  | none => refuse .range s
  | some l =>
      if chords.any fun c => decide (300 < c) then refuse .range s
      else if s.laneRaised l then
        done (s.modMap fun m => { m with chords := m.chords.set l { entries := chords, loaded := true } })
      else refuse .state s

/-! ### MAP READ -/

/-- The valid revolutions a band has spent glazed, held at 65535; 0 when glazed-since is absent (R18). -/
def glazedAge (count : BitVec 32) (b : Band) : Nat :=
  match b.glazedSince with
  | none => 0
  | some since => min 65535 (count - since).toNat

/-- A record of a MAP READ reply (10.2): wear, the state above the height loss, the glazed age. -/
def bandRecord (count : BitVec 32) (b : Band) : List Byte :=
  beBytes 2 b.wear ++ beBytes 3 (b.state.code * 4194304 + b.height) ++ beBytes 2 (glazedAge count b)

/-- The restored-band set in three bytes, band 0 in the lowest bit (10.2). DESIGN CHOICE (log 37): bits 20 to 23 are 0. -/
def restoredBytes (m : PadMap) : List Byte := setBytes 3 m.restored

/-- MAP READ (R18, 10.2). DESIGN CHOICE (log 37): bits 5 and 6 of the first byte are 0. -/
def decideMapRead (first count : Nat) (s : State) : Answer :=
  if count = 0 ∨ 7 < count ∨ 19 < first + count - 1 then refuse .range s
  else
    let head := byte1 (s.map.valid.toNat * 128 + first) ++ beBytes 4 s.map.revCount.toNat
    let body :=
      if s.map.valid then
        ((List.range count).map fun j => bandRecord s.map.revCount (s.map.band (first + j))).flatten
      else restoredBytes s.map
    { state := s, result := .ok, payload := head ++ body }

/-! ### Map replaced, as the conditioner takes it -/

/-- The conditioner controller takes map replaced and empties its queue (R106). -/
def State.emptyQueue (s : State) : State := s.modCond fun c => { c with queue := [] }

def execMapReplaced (s : State) : Host.Outcome State Fault Refusal :=
  match s.takeKind (fun e => decide (e = .mapReplaced)) with
  | some (_, s') => .next s'.emptyQueue
  | none => .next s

end Sys2Proof.Machine
end

