-- ==== Sys2Proof/Machine/Pressure.lean ====
section
/-!
DEFINITION. The head pressure controller: targets (R74, R81), profiles (R75 to R78), glaze gain (R79, R80), the update
(R82, R83, R86, R88, R91 to R93), touchdown and release (R84, R85, R87), holds (R89, R90) and limits (R95).
-/

namespace Sys2Proof.Machine
open Sys2Proof

/-! ### Targets -/

/-- The uncapped value of a zone: the active target scaled by (1024 + gain) / 1024, half rounding up (R81). -/
def uncapped (gain target : Nat) : Nat := (target * (1024 + gain) + 512) / 1024

/-- The effective targets of a lane: zones compensated and capped, the ring capped (R81). -/
def effectiveTargets (gain : Nat) (active limit : Six Nat) : Six Nat :=
  { active.zip (fun t cap => min (uncapped gain t) cap) limit with ring := min active.ring limit.ring }

/-- COMP_CLAMPED: some zone's effective target came out below its uncapped value (R81). -/
def compensationClamped (gain : Nat) (active limit : Six Nat) : Bool :=
  let cut := fun t cap : Nat => decide (cap < uncapped gain t)
  cut active.z1 limit.z1 || cut active.z2 limit.z2 || cut active.z3 limit.z3 || cut active.z4 limit.z4 ||
    cut active.z5 limit.z5

/-- A channel's drive target by the lane state, the hold level and the soft-hold pressure (R74). The table has no row for
a lane that is down at HARD: until its vent is taken the target is the vent's, 0 (log 14). -/
def driveTarget (st : LaneState) (level : HoldLevel) (softHold effective : Nat) : Nat :=
  match st with
  | .raised => 0
  | .releasing => 0
  | .touchdown | .polish =>
      match level with
      | .none => effective
      | .soft => min softHold effective
      | .hard => 0

/-- Derive a lane's drive targets again (R74). -/
def State.deriveDrive (l : Lane) (s : State) : State :=
  s.modLane l fun x =>
    { x with
      channels := x.channels.map fun c =>
        { c with drive := driveTarget x.state (s.holdLevel l) (s.settings.press.softHold.get l) c.effective } }

/-- Derive a lane's effective targets and COMP_CLAMPED again, and from them the drive targets (R81, R74). -/
def State.deriveTargets (l : Lane) (s : State) : State :=
  (s.modLane l fun x =>
    let limit := s.settings.press.limit.get l
    { x with
      channels := x.channels.zip (fun c e => { c with effective := e }) (effectiveTargets x.gain x.active limit)
      compClamped := compensationClamped x.gain x.active limit }).deriveDrive l

/-! ### Profiles -/

/-- An apply: the staged profile becomes the active one and the pending apply is removed (R76). -/
def State.applyProfile (l : Lane) (s : State) : State :=
  (s.modLane l fun x => { x with active := x.staged, pending := none }).deriveTargets l

/-- PROFILE STAGE after dispatch (R75). -/
def decideProfileStage (p : Port) (targets : Six Nat) (mode : Nat) (s : State) : Answer :=
  match p.lane? with
  | none => refuse .role s
  | some l =>
      match applyOfCode mode with
      | none => refuse .range s
      | some apply =>
          if targets.toList.any fun t => decide (1000 < t) then refuse .range s
          else
            let limit := s.settings.press.limit.get l
            let staged := s.modLane l fun x => { x with staged := targets.zip min limit, pending := apply }
            { state := if apply.isNone then staged.applyProfile l else staged
              result := .ok
              clamped := (targets.zip (fun t cap => decide (cap < t)) limit).toList.any id }

/-- A lane's part of an index event: a pending AT_INDEX apply is made and announced (R77). -/
def State.applyAtIndex (l : Lane) (s : State) : State :=
  if (s.lane l).pending = some .atIndex then (s.applyProfile l).file l.port .profileApplied else s

def execIndexProfileApply (s : State) : Host.Outcome State Fault Refusal :=
  match s.takeKind (fun e => decide (e = .indexProfileApply)) with
  | some (_, s') => .next ((s'.applyAtIndex .a).applyAtIndex .b)
  | none => .next s

/-! ### Glaze compensation -/

/-- The wears of the bands under the head at the compensation position (R80). -/
def State.wearsUnder (s : State) (l : Lane) : List Nat :=
  match (s.lane l).compPosition with
  | none => []
  | some q =>
      (bandIndices.filter fun k => decide (0 < chordAt (s.map.chords.get l) q.referenced q.position k)).map
        fun k => (s.map.band k).wear

/-- The mean wear under the head, 0 with no bands or while the map is INVALID (R80). -/
def State.meanWear (s : State) (l : Lane) : Nat :=
  let w := s.wearsUnder l
  if s.map.valid && !w.isEmpty then w.sum / w.length else 0

/-- Recompute a lane's bucket and gain, and derive its targets (R80, R81). -/
def State.recomputeGain (l : Lane) (s : State) : State :=
  let bucket := s.meanWear l / 8192
  (s.modLane l fun x =>
    { x with bucket := bucket, gain := if x.compEnable then x.gainTable.getD bucket 0 else 0 }).deriveTargets l

/-- A lane's part of a map updated event: the carried position, then the recompute (R80). -/
def State.gainUpdate (l : Lane) (u : MapUpdated) (s : State) : State :=
  (s.modLane l fun x => { x with compPosition := some (u.positions.get l) }).recomputeGain l

/-- The outstanding map updated event of the pressure controller. -/
def Event.isGainRecompute : Event → Bool
  | .gainRecompute _ => true
  | _ => false

def execGainRecompute (s : State) : Host.Outcome State Fault Refusal :=
  match s.takeKind Event.isGainRecompute with
  | some (.gainRecompute u, s') => .next ((s'.gainUpdate .a u).gainUpdate .b u)
  | _ => .next s

/-- GAIN LOAD after dispatch (R79). -/
def decideGainLoad (code enable : Nat) (gains : List Nat) (s : State) : Answer :=
  match laneOfCode code with
  | none => refuse .range s
  | some l =>
      if 1 < enable ∨ gains.any (fun g => decide (255 < g)) = true then refuse .range s
      else
        let s' := (s.modLane l fun x =>
          { x with gainTable := gains, compEnable := decide (enable = 1) }).recomputeGain l
        let x := s'.lane l
        { state := s', result := .ok, payload := byte1 x.bucket ++ byte1 x.gain ++ boolByte x.compClamped }

/-! ### The update -/

/-- One channel's step toward its drive target at a ramp rate; a low supply withholds a rising step (R82, R91). -/
def stepChannel (ramp : Nat) (low : Bool) (c : Channel) : Channel :=
  if c.command = c.drive then { c with remainder := 0 }
  else if low ∧ c.command < c.drive then { c with remainder := 0 }
  else
    let sum := c.remainder + ramp
    let step := sum / 1000
    let command := if c.command < c.drive then min c.drive (c.command + step) else max c.drive (c.command - step)
    { c with command := command, remainder := if command = c.drive then 0 else sum % 1000 }

/-- The readback of a converter value (R83). -/
def readbackOf (adc : BitVec 12) : Nat := adc.toNat * 1000 / 4095

/-- The supply reading of a converter value (R91). -/
def supplyOf (adc : BitVec 12) : Nat := adc.toNat * 10000 / 4095

/-- A deviation timer after a comparison of readback and command (R93). -/
def deviationTimer (tolerance time readback command timer : Nat) : Nat :=
  if tolerance < radiusDistance readback command then min time (timer + 1) else 0

/-- Sample a channel's sensor and compare (R83, R93). -/
def sampleChannel (g : PressureSettings) (c : Channel) (adc : BitVec 12) : Channel :=
  let readback := readbackOf adc
  let timer := deviationTimer g.tolerance g.deviationTime readback c.command c.devTimer
  { c with readback := readback, devTimer := timer, fault := decide (g.deviationTime ≤ timer) }

/-- A lane's channels stepped and sampled (R82, R83, R91, R93). -/
def State.updateLane (l : Lane) (low : Bool) (adc : Six (BitVec 12)) (s : State) : State :=
  s.modLane l fun x =>
    { x with
      supplyLow := low
      channels := (x.channels.map (stepChannel (s.settings.press.rampRate.get l) low)).zip
        (sampleChannel s.settings.press) adc }

/-- Every command of a lane equals its drive target (R86). -/
def LanePressure.atTargets (x : LanePressure) : Bool :=
  x.channels.toList.all fun c => decide (c.command = c.drive)

/-- Every command of a lane is 0 (R88). -/
def LanePressure.allZero (x : LanePressure) : Bool := x.channels.toList.all fun c => decide (c.command = 0)

/-- A touchdown whose commands have all arrived enters POLISH and is announced (R86). -/
def State.touchdownDone (l : Lane) (s : State) : State :=
  if (s.lane l).state = .touchdown ∧ (s.lane l).atTargets = true then
    ((s.modLane l fun x => { x with state := .polish }).deriveDrive l).file l.port .touchdownDone
  else s

/-- A release whose commands are all 0 enters RAISED and is announced (R88). -/
def State.releaseDone (l : Lane) (s : State) : State :=
  if (s.lane l).state = .releasing ∧ (s.lane l).allZero = true then
    ((s.modLane l fun x => { x with state := .raised }).deriveDrive l).file l.port .releaseDone
  else s

/-- The PRESSURE_FAULT entry with the channels named at this moment (R94). -/
def State.pressureFaultEntry (s : State) (l : Lane) : CauseEntry := ⟨.pressureFault, .hard, s.faultChannels l⟩

/-- The PRESSURE_FAULT condition of a lane has become active (R94). -/
def State.reportFault (l : Lane) (before : Bool) (s : State) : State :=
  s.onRise before (s.pressureFault l) (·.addCause l (s.pressureFaultEntry l))

/-- The SUPPLY_LOW condition as reported; its becoming active adds the SOFT cause to both lanes (R92). -/
def State.reportSupply (active : Bool) (s : State) : State :=
  (s.modPress fun p => { p with supplyLowActive := active }).onRise s.press.supplyLowActive active
    (·.addCauseBoth (causeEntry .supplyLow .soft))

/-- The supply-low timer after an update (R92). -/
def supplyTimerAfter (low : Bool) (time timer : Nat) : Nat := if low then min time (timer + 1) else 0

/-- The supply's part of an update: the reading, the timer and the condition (R91, R92). -/
def State.updateSupply (reading : Nat) (low : Bool) (s : State) : State :=
  let timer := supplyTimerAfter low s.settings.press.supplyTime s.press.supplyTimer
  (s.modPress fun p => { p with supplyReading := reading, supplyTimer := timer }).reportSupply
    (low && decide (s.settings.press.supplyTime ≤ timer))

/-- The 1 ms update of both lanes: step and sample, complete touchdowns and releases, report faults, then the supply
(R82, R83, R86, R88, R91 to R94; the order within the update is log 18). -/
def State.pressureUpdate (adc : Lanes (Six (BitVec 12))) (supply : BitVec 12) (s : State) : State :=
  let reading := supplyOf supply
  let low := decide (reading < s.settings.press.supplyMin)
  let stepped := (s.updateLane .a low adc.a).updateLane .b low adc.b
  let completed := (((stepped.touchdownDone .a).touchdownDone .b).releaseDone .a).releaseDone .b
  ((completed.reportFault .a (s.pressureFault .a)).reportFault .b (s.pressureFault .b)).updateSupply reading low

/-- The supply-low timer reaches the supply time (R92). It runs while the supply was low at the last update (log 4). -/
def State.supplyTimeExpiry (s : State) : State :=
  if s.press.supplyTimer = 0 then s
  else (s.modPress fun p => { p with supplyTimer := s.settings.press.supplyTime }).reportSupply true

/-- A channel's deviation timer reaches the deviation time (R93). It runs while the channel deviated at the last update
(log 4). -/
def State.deviationExpiry (l : Lane) (c : Chan) (s : State) : State :=
  if ((s.lane l).channels.get c).devTimer = 0 then s
  else
    (s.modLane l fun x =>
      { x with
        channels := x.channels.set c
          { x.channels.get c with devTimer := s.settings.press.deviationTime, fault := true } }).reportFault l
      (s.pressureFault l)

/-! ### Touchdown and release -/

/-- The nine tests of a TOUCHDOWN, in order: the reason of the first that fails (R84). -/
def State.touchdownRefusal (s : State) (l : Lane) : Option Result :=
  if !s.laneRaised l then some .state
  else if s.holdLevel l ≠ .none then some .held
  else if !s.map.valid then some .mapInvalid
  else if !(s.map.chords.get l).loaded then some .noChord
  else if s.tracker.state ≠ .tracking then some .platen
  else if !s.tracker.inWindow then some .speed
  else if !(s.arm l.arm).referenced then some .notHomed
  else if s.map.anyWorn then some .padSpent
  else if !(s.bar l).wet then some .dry
  else none

/-- The effects of an accepted TOUCHDOWN (R85). -/
def State.touchdown (l : Lane) (s : State) : State :=
  let applied := if (s.lane l).pending = some .nextTouchdown then s.applyProfile l else s
  (applied.modLane l fun x => { x with state := .touchdown }).deriveDrive l

/-- TOUCHDOWN (R84, R85). -/
def decideTouchdown (p : Port) (s : State) : Answer :=
  match p.lane? with
  | none => refuse .role s
  | some l =>
      match s.touchdownRefusal l with
      | some r => refuse r s
      | none => { state := s.touchdown l, result := .accepted }

/-- RELEASE (R87). -/
def decideRelease (p : Port) (s : State) : Answer :=
  match p.lane? with
  | none => refuse .role s
  | some l =>
      match (s.lane l).state with
      | .touchdown | .polish =>
          { state := (s.modLane l fun x => { x with state := .releasing }).deriveDrive l, result := .accepted }
      | .raised | .releasing => refuse .state s

/-! ### Holds -/

/-- The vent: every command, remainder and drive target 0, the lane RAISED (R89). -/
def LanePressure.vented (x : LanePressure) : LanePressure :=
  { x with
    state := .raised
    channels := x.channels.map fun c => { c with command := 0, remainder := 0, drive := 0 } }

def State.vent (l : Lane) (s : State) : State := s.modLane l LanePressure.vented

/-- What the matrix tells the pressure controller about a lane's level, in the order told (log 2). -/
def Event.levelTold (l : Lane) : Event → Bool
  | .hardHoldVent x => decide (x = l)
  | .softHoldCap x => decide (x = l)
  | _ => false

def execHardHoldVent (l : Lane) (s : State) : Host.Outcome State Fault Refusal :=
  match s.takeEvent (Event.levelTold l) (fun e => decide (e = .hardHoldVent l)) with
  | some (_, s') => .next (s'.vent l)
  | none => .next s

/-- At SOFT, and at NONE after a RESUME, the drive targets are derived again (R90). -/
def execSoftHoldCap (l : Lane) (s : State) : Host.Outcome State Fault Refusal :=
  match s.takeEvent (Event.levelTold l) (fun e => decide (e = .softHoldCap l)) with
  | some (_, s') => .next (s'.deriveDrive l)
  | none => .next s

/-- The effects of an accepted SET of a channel limit, once the limit is replaced (R95). -/
def State.limitChanged (l : Lane) (c : Chan) (s : State) : State :=
  let cap := (s.settings.press.limit.get l).get c
  let lowered := s.modLane l fun x =>
    { x with staged := x.staged.set c (min (x.staged.get c) cap), active := x.active.set c (min (x.active.get c) cap) }
  (lowered.deriveTargets l).modLane l fun x =>
    let ch := x.channels.get c
    if cap < ch.command then { x with channels := x.channels.set c { ch with command := cap, remainder := 0 } } else x

/-- The pressure controller's part of a station restart (R99). -/
def LanePressure.restarted (x : LanePressure) : LanePressure :=
  { x.vented with
    channels := x.vented.channels.map fun c => { c with devTimer := 0, fault := false } }

def State.pressureRestart (s : State) : State :=
  (s.modLane .a LanePressure.restarted).modLane .b LanePressure.restarted

end Sys2Proof.Machine
end

