-- ==== Sys2Proof/Machine/Conditioner.lean ====
section
/-!
DEFINITION. The conditioner controller: the queue (R104, R105), selection and the dealings with the arbiter (R103, R107,
R108), moves (R109, R110), the disk (R111 to R115), trips (R116, R117), faults (R118, R119) and disk life (R120).
-/

namespace Sys2Proof.Machine
open Sys2Proof

/-! ### States and radii -/

/-- Enter a state: what is present only in another state goes, and the timers of moves, lifts and homing stop
(R100, R110, R114, R119). -/
def Conditioner.enter (st : CondState) (c : Conditioner) : Conditioner :=
  { c with
    state := st, liftPurpose := none, sweepDir := none, settleTimer := none, liftTimer := none, homingTimer := none }

def State.condEnter (st : CondState) (s : State) : State := s.modCond (Conditioner.enter st)

def State.setTarget (t : Option CondTarget) (s : State) : State := s.modCond fun c => { c with target := t }

/-- The disk goes up for a purpose (R100, R114). -/
def State.startLift (p : LiftPurpose) (s : State) : State :=
  s.modCond fun c => { c.enter .lifting with liftPurpose := some p }

/-- The radius of a target (R110). -/
def State.targetRadius (s : State) : CondTarget → Nat
  | .band k => bandCentre k
  | .sweepStart => s.settings.cond.sweepInner
  | .sweepResume => s.settings.cond.sweepOuter
  | .park => s.settings.cond.parkRadius

/-- The radius a footprint must stay outside of, for the conditioner: the hub radius plus the reach (R37, R108). -/
def State.condHubEdge (s : State) : Nat := s.settings.tracker.hubSize * 2000 + s.settings.tracker.condReach

/-- Whether a target needs the hub (R108). -/
def State.needsHub (s : State) : CondTarget → Bool
  | .band k => decide (bandCentre k < s.condHubEdge)
  | .sweepStart => decide (s.settings.cond.sweepInner < s.condHubEdge)
  | .sweepResume => decide (s.settings.cond.sweepInner < s.condHubEdge)
  | .park => false

/-- The lowering force (06, section 6.1). -/
def State.loweringForce (s : State) : Nat := min s.settings.cond.downforce s.settings.cond.downforceLimit

/-- The downforce channel's drive target (R111). -/
def State.downforceDrive (s : State) : Nat :=
  match s.cond.state with
  | .lowering | .dwelling | .sweeping => s.loweringForce
  | _ => 0

/-- The radius the arm is being stepped toward, in MOVING, RETURNING and SWEEPING (R110, R115). -/
def State.strokeRadius (s : State) : Option Nat :=
  match s.cond.state with
  | .moving | .returning => s.cond.target.map s.targetRadius
  | .sweeping =>
      s.cond.sweepDir.map fun d =>
        match d with
        | .outward => s.settings.cond.sweepOuter
        | .inward => s.settings.cond.sweepInner
  | _ => none

/-- The tracker's count lies within 50 of the radius (R110). -/
def State.arrivedAt (s : State) (r : Nat) : Bool := decide (radiusDistance (s.arm .cond).position r ≤ 50)

/-- An arrival is due (R110). -/
def State.arrivalDue (s : State) : Bool :=
  match s.strokeRadius with
  | some r => s.arrivedAt r
  | none => false

/-- Steps stop when the step position equals the radius, and the settle timer starts (R110). -/
def State.startSettle (s : State) : State :=
  match s.strokeRadius with
  | some r => if s.cond.stepPos.toInt = r then s.modCond fun c => { c with settleTimer := some 0 } else s
  | none => s

/-- Begin a move in MOVING or RETURNING. DESIGN CHOICE (log 40): a mode change that names the state and the target already in
force (R102, R107) begins the move anew: a running settle timer stops, and starts from 0 where the step position stands at the
radius; R110 and R118 count it from the last step and are silent on this. -/
def State.startMove (st : CondState) (s : State) : State := (s.condEnter st).startSettle

/-- Begin a sweep stroke (R115). -/
def State.startStroke (d : SweepDir) (s : State) : State :=
  (s.modCond fun c => { c.enter .sweeping with sweepDir := some d }).startSettle

/-! ### Dealing with the arbiter (R108) -/

/-- The conditioner learns its standing from the arbiter's answer, so a grant event on its way is overtaken (log 17). -/
def State.dropGrant (s : State) : State := s.modEvents (·.filter fun e => decide (e ≠ .condGrant))

/-- The target does not need the hub, or is absent: a grant held outside is released, a claim waiting is withdrawn, a grant
held inside is kept (R108). -/
def State.condGiveUp (s : State) : State := (s.dropGrant.releaseHub .cond).2

/-- Work at the target begins once the hub is settled: MOVING, or LOWERING at the sweep resume point, where the arm
already stands (R108). -/
def State.beginWork (s : State) : State :=
  if s.cond.target = some .sweepResume then s.condEnter .lowering else s.startMove .moving

/-- The answer of a claim lets the work go on: the conditioner holds the hub. -/
def Result.holds : Result → Bool
  | .granted | .held => true
  | _ => false

/-- Deal with the arbiter for a new target and begin the work or wait (R107, R108). -/
def State.dealFor (t : CondTarget) (s : State) : State :=
  let s := s.setTarget (some t)
  if s.needsHub t then
    let r := s.dropGrant.claimHub .cond
    if r.1.holds then r.2.beginWork else r.2.condEnter .waitHub
  else s.condGiveUp.beginWork

/-- The target becomes the park radius and the state RETURNING (R102, R107, R114, R117). -/
def State.returnToPark (s : State) : State := ((s.setTarget (some .park)).condGiveUp).startMove .returning

/-! ### Selection (R103, R107) -/

/-- Under CLEAR a band is blocked while it lies under a lane that is down (R103). -/
def State.blocked (s : State) (k : Nat) : Bool :=
  match s.settings.cond.policy with
  | .shared => false
  | .clear =>
      (s.laneDown .a && decide (0 < s.laneChord .a k)) || (s.laneDown .b && decide (0 < s.laneChord .b k))

/-- The first entry that has no rest and is not blocked (R107). -/
def State.chosenEntry (s : State) : Option QueueEntry :=
  s.cond.queue.find? fun e => e.rest.isNone && !s.blocked e.band

/-- Some entry was passed over as blocked (R107). DESIGN CHOICE (log 38): an entry that rests is passed over as resting,
whether or not it also lies under a lane that is down. -/
def State.someBlocked (s : State) : Bool := s.cond.queue.any fun e => e.rest.isNone && s.blocked e.band

/-- No work: PARKED stays PARKED, any other state returns to park (R107, R115). -/
def State.goIdle (s : State) : State := if s.cond.state = .parked then s else s.returnToPark

/-- A selection (R107). -/
def State.select (s : State) : State :=
  if s.cond.spent then s.goIdle
  else
    match s.chosenEntry with
    | some e => s.dealFor (.band e.band)
    | none =>
        if s.someBlocked then ((s.setTarget none).condGiveUp).condEnter .waitClear else s.goIdle

/-- The sweep start (R115). -/
def State.sweepStart (s : State) : State := if s.cond.spent then s.goIdle else s.dealFor .sweepStart

/-- Act on the mode with the disk up (R102, R109, R110, R120). -/
def State.actOnMode (s : State) : State :=
  match s.cond.mode with
  | .off => s
  | .map => s.select
  | .sweep => s.sweepStart

/-- The target becomes absent; where it was present, the grant or the claim is given up as R108 gives. -/
def State.dropTarget (s : State) : State :=
  if s.cond.target.isSome then (s.setTarget none).condGiveUp else s

/-- PARKED is entered: the motor stops, the target becomes absent, the mode is acted on (R108, R109, R110). -/
def State.enterParked (s : State) : State := (s.dropTarget.condEnter .parked).actOnMode

/-! ### COND MODE (R101, R102) -/

/-- HOMING begins (R109): the homing timer starts. -/
def State.beginHoming (s : State) : State :=
  s.modCond fun c => { c.enter .homing with homingTimer := some 0 }

/-- The purpose a new mode gives a lift (R102). -/
def modePurpose : CondMode → LiftPurpose
  | .off => .returnToPark
  | .sweep => .sweep
  | .map => .select

/-- A new mode with the disk up and the arm free: return for OFF, else the mode acts at once (R102). -/
def State.modeActs (s : State) : State :=
  match s.cond.mode with
  | .off => s.returnToPark
  | .map => s.select
  | .sweep => s.sweepStart

/-- What the conditioner does when its mode has been replaced with a different one (R102). -/
def State.modeChanged (s : State) : State :=
  match s.cond.state with
  | .unreferenced => if s.cond.mode ≠ .off ∧ s.matrix.station = .normal then s.beginHoming else s
  | .parked => s.actOnMode
  | .waitHub | .waitClear | .moving | .returning => s.modeActs
  | .lowering | .dwelling | .sweeping => s.startLift (modePurpose s.cond.mode)
  | .lifting =>
      if s.cond.liftPurpose = some .halt then s
      else s.modCond fun c => { c with liftPurpose := some (modePurpose c.mode) }
  | .homing | .halted | .fault => s

/-- COND MODE after dispatch (R101). -/
def decideCondMode (code : Nat) (s : State) : Answer :=
  match condModeOfCode code with
  | none => refuse .range s
  | some m =>
      if s.cond.state = .fault then refuse .state s
      else
        let s' := s.modCond fun c => { c with mode := m, queue := if m = .off then [] else c.queue }
        done (if s.cond.mode = m then s' else s'.modeChanged)

/-! ### The queue (R104, R105) -/

/-- The queue's order: ranked wear descending, then band ascending (R104). -/
def QueueEntry.before (x y : QueueEntry) : Bool :=
  decide (y.rankedWear < x.rankedWear) || (decide (x.rankedWear = y.rankedWear) && decide (x.band ≤ y.band))

def insertEntry (e : QueueEntry) : List QueueEntry → List QueueEntry
  | [] => [e]
  | x :: rest => if e.before x then e :: x :: rest else x :: insertEntry e rest

def sortQueue : List QueueEntry → List QueueEntry
  | [] => []
  | e :: rest => insertEntry e (sortQueue rest)

/-- A rest lowered by 1; a rest that reaches 0 is lost (R105 step 3). -/
def lowerRest : Option Nat → Option Nat
  | some n => if n ≤ 1 then none else some (n - 1)
  | none => none

/-- The rebuild of the queue from the band wear (R105). -/
def rebuildQueue (g : MapSettings) (m : PadMap) (queue : List QueueEntry) : List QueueEntry :=
  let kept := (queue.filter fun e => decide (g.condStop ≤ (m.band e.band).wear)).map fun e =>
    { e with rankedWear := (m.band e.band).wear, rest := lowerRest e.rest }
  let joining := bandIndices.filter fun k =>
    decide (g.condStart ≤ (m.band k).wear) && kept.all fun e => decide (e.band ≠ k)
  sortQueue (kept ++ joining.map fun k => { band := k, rankedWear := (m.band k).wear, rest := none })

/-- The rebuild, in every mode except OFF, in which the queue stays empty (R105). -/
def State.rebuild (s : State) : State :=
  if s.cond.mode = .off then s
  else s.modCond fun c => { c with queue := rebuildQueue s.settings.map s.map c.queue }

/-! ### Disk life (R120) -/

/-- Evaluate the disk-spent flag again; clear to set files DISK_SPENT (R120). -/
def State.evaluateSpent (s : State) : State :=
  let spent := decide (s.settings.cond.diskLifeLimit ≤ s.cond.diskLife)
  (s.modCond fun c => { c with spent := spent }).onRise s.cond.spent spent (·.file .s .diskSpent)

/-- Count disk life at a map updated event whose disk-cut item is set (R120). -/
def State.countDiskLife (cut : Bool) (s : State) : State :=
  if cut then (s.modCond fun c => { c with diskLife := min 16777215 (c.diskLife + 1) }).evaluateSpent else s

/-- Once the flag is clear in PARKED, the mode acts at once (R120). -/
def State.actIfParked (s : State) : State :=
  if s.cond.state = .parked ∧ s.cond.spent = false then s.actOnMode else s

/-- DISK RESET after dispatch (R120). -/
def decideDiskReset (count : Nat) (s : State) : Answer :=
  if 16777215 < count then refuse .range s
  else if s.cond.state.atRest then
    done ((s.modCond fun c => { c with diskLife := count }).evaluateSpent).actIfParked
  else refuse .busy s

/-! ### The map updated event (R105, R113) -/

def State.hasEntry (s : State) (k : Nat) : Bool := s.cond.queue.any fun e => decide (e.band = k)

/-- The entry of a band gets a rest (R113). -/
def restBand (k n : Nat) (queue : List QueueEntry) : List QueueEntry :=
  queue.map fun e => if e.band = k then { e with rest := some n } else e

/-- The dwell test, by the first case of R113 that holds. -/
def State.dwellTest (s : State) : State :=
  match s.cond.target with
  | some (.band k) =>
      if !s.hasEntry k || s.blocked k then s.startLift .select
      else
        let counted := s.modCond fun c => { c with dwell := c.dwell + 1 }
        if s.settings.cond.dwellLimit ≤ s.cond.dwell + 1 then
          (counted.modCond fun c => { c with queue := restBand k s.settings.cond.dwellLimit c.queue }).startLift .select
        else counted
  | _ => s.startLift .select

/-- The work of the state at a map updated event (R105). -/
def State.updatedWork (s : State) : State :=
  match s.cond.state with
  | .dwelling => s.dwellTest
  | .waitHub | .waitClear | .parked => if s.cond.mode = .map then s.select else s
  | .sweeping => if s.cond.spent then s.startLift .returnToPark else s
  | _ => s

/-- The conditioner controller takes a map updated event: rebuild, disk life, then the work of its state (R105). -/
def State.condMapUpdated (u : MapUpdated) (s : State) : State := ((s.rebuild).countDiskLife u.diskCut).updatedWork

/-- The outstanding map updated event of the conditioner controller. -/
def Event.isCondMapUpdated : Event → Bool
  | .condMapUpdated _ => true
  | _ => false

def execCondMapUpdated (s : State) : Host.Outcome State Fault Refusal :=
  match s.takeKind Event.isCondMapUpdated with
  | some (.condMapUpdated u, s') => .next (s'.condMapUpdated u)
  | _ => .next s

/-! ### Grants (R108) -/

/-- What the arbiter tells the conditioner controller, in the order told (log 2). -/
def Event.grantTold : Event → Bool
  | .condGrant => true
  | .condGrantLost => true
  | _ => false

/-- The conditioner takes a grant event (R108). -/
def State.condGrant (s : State) : State :=
  match s.cond.state with
  | .waitHub => s.beginWork
  | .halted | .fault => s
  | .lifting => if s.cond.liftPurpose = some .waitHub then s else (s.releaseHub .cond).2
  | _ => (s.releaseHub .cond).2

def execCondGrant (s : State) : Host.Outcome State Fault Refusal :=
  match s.takeEvent Event.grantTold (fun e => decide (e = .condGrant)) with
  | some (_, s') => .next s'.condGrant
  | none => .next s

/-- Claim the hub again, and go on or do otherwise by the answer (R108, R115). -/
def State.reclaim (goOn otherwise : State → State) (s : State) : State :=
  let r := s.dropGrant.claimHub .cond
  if r.1.holds then goOn r.2 else otherwise r.2

/-- The conditioner takes a grant-lost event (R108). -/
def State.condGrantLost (s : State) : State :=
  match s.cond.state with
  | .moving =>
      if (s.cond.target.map s.needsHub).getD false then s.reclaim id (·.condEnter .waitHub) else s
  | .lowering =>
      if s.cond.target = some .sweepResume ∧ s.needsHub .sweepStart = true then s.reclaim id (·.startLift .waitHub)
      else s
  | .sweeping =>
      if s.cond.sweepDir = some .inward ∧ s.needsHub .sweepStart = true then s.startStroke .outward else s
  | _ => s

def execCondGrantLost (s : State) : Host.Outcome State Fault Refusal :=
  match s.takeEvent Event.grantTold (fun e => decide (e = .condGrantLost)) with
  | some (_, s') => .next s'.condGrantLost
  | none => .next s

/-! ### Faults (R118, R119) -/

/-- A fault of the conditioner's drive (R119). -/
def State.condFault (k : FaultKind) (s : State) : State :=
  let faulted := s.modCond fun c =>
    { c.enter .fault with dfCommand := 0, faultKind := some k, target := none, clearNoted := false }
  (faulted.withdrawClaim .cond).file .s .condFault

/-- The states in which the following check is made (R118). -/
def CondState.followed : CondState → Bool
  | .unreferenced | .homing | .fault => false
  | _ => true

/-- The following check: the tracker's count and the step position differ by more than 200 (R118). -/
def State.followingCheck (s : State) : State :=
  if s.cond.state.followed ∧ 200 < radiusDistance (s.arm .cond).position s.cond.stepPos.toInt then
    s.condFault .following
  else s

/-- No arrival within 500 ms of the last step (R110, R118). -/
def State.settleTimeout (s : State) : State :=
  if s.strokeRadius.isSome ∧ s.cond.settleTimer.isSome ∧ s.arrivalDue = false then s.condFault .settle else s

/-- The disk-up sensor is not active within 2,000 ms of the command reaching 0 (R114, R118). -/
def State.liftTimeout (s : State) : State :=
  if s.cond.state = .lifting ∧ s.cond.liftTimer.isSome then s.condFault .lift else s

/-- No rising home switch edge within 60,000 ms of entering HOMING (R109, R118). -/
def State.homingTimeout (s : State) : State := if s.cond.state = .homing then s.condFault .homing else s

/-- The downforce deviation timer reaches the deviation time (R118). It runs while the readback deviated at the last
update (log 4). -/
def State.downforceFault (s : State) : State :=
  if s.cond.state ≠ .fault ∧ 0 < s.cond.dfDevTimer then
    (s.modCond fun c => { c with dfDevTimer := s.settings.press.deviationTime }).condFault .downforce
  else s

/-- COND RESET (R119). -/
def decideCondReset (s : State) : Answer :=
  if s.cond.state = .fault then
    done (s.modCond fun c => { c.enter .unreferenced with mode := .off, queue := [], faultKind := none, dfDevTimer := 0 })
  else refuse .state s

/-! ### Steps and arrivals (R109, R110, R115) -/

/-- One step of the arm outward or inward, counted in the step position (R100). -/
def State.stepArm (outward : Bool) (s : State) : State :=
  s.modCond fun c => { c with stepPos := if outward then c.stepPos + 1 else c.stepPos - 1 }

/-- One step toward the radius at the sweep speed, unless the steps have stopped or the move has arrived; then the
following check (R110, R115, R118). -/
def State.condStep (s : State) : State :=
  match s.strokeRadius with
  | none => s
  | some r =>
      if s.arrivalDue = true ∨ s.cond.stepPos.toInt = r then s
      else ((s.stepArm (decide (s.cond.stepPos.toInt < r))).startSettle).followingCheck

/-- One step of HOMING: inward while the home switch input is active, else outward (R109). -/
def State.homingStep (homeActive : Bool) (s : State) : State :=
  if s.cond.state = .homing then s.stepArm (!homeActive) else s

/-- The end of a sweep stroke (R115). -/
def State.strokeEnd (d : SweepDir) (s : State) : State :=
  match d with
  | .inward => s.startStroke .outward
  | .outward =>
      if s.needsHub .sweepStart ∧ s.hub.holder ≠ some .cond then
        s.reclaim (·.startStroke .inward) (·.startLift .waitHub)
      else s.startStroke .inward

/-- The move, or the stroke, arrives (R110, R115). -/
def State.moveArrival (s : State) : State :=
  if s.arrivalDue then
    match s.cond.state, s.cond.sweepDir with
    | .moving, _ => s.condEnter .lowering
    | .returning, _ => s.enterParked
    | .sweeping, some d => s.strokeEnd d
    | _, _ => s
  else s

def execMoveArrival (s : State) : Host.Outcome State Fault Refusal := .next s.moveArrival

/-! ### The disk (R111, R114) -/

/-- The lowering is complete: DWELLING for a band, SWEEPING for a sweep target (R111). -/
def State.loweringComplete (s : State) : State :=
  if s.cond.state = .lowering ∧ s.cond.dfCommand = s.loweringForce then
    match s.cond.target with
    | some (.band _) => s.modCond fun c => { c.enter .dwelling with dwell := 0 }
    | some .sweepStart => s.startStroke .outward
    | some .sweepResume => s.startStroke .inward
    | _ => s
  else s

/-- What follows a lift (R114; HALT by R116 and R117). -/
def State.afterLift (p : LiftPurpose) (s : State) : State :=
  match p with
  | .select => s.select
  | .sweep => s.sweepStart
  | .waitHub => s.dealFor .sweepResume
  | .returnToPark => s.returnToPark
  | .halt =>
      let halted := s.modCond fun c => { c.enter .halted with clearNoted := false }
      if s.cond.clearNoted then halted.returnToPark else halted

/-- The lift is complete: the command at 0 and the disk-up sensor active (R114). -/
def State.liftComplete (s : State) : State :=
  match s.cond.state, s.cond.liftPurpose with
  | .lifting, some p => if s.cond.dfCommand = 0 then s.afterLift p else s
  | _, _ => s

/-- The downforce command moves one unit toward its drive target (R111). -/
def stepToward (drive command : Nat) : Nat :=
  if command < drive then command + 1 else if drive < command then command - 1 else command

/-- The lift timer starts at the update at which the command is 0 in LIFTING (R114). -/
def Conditioner.timeLift (c : Conditioner) : Conditioner :=
  if c.state = .lifting ∧ c.dfCommand = 0 ∧ c.liftTimer = none then { c with liftTimer := some 0 } else c

/-- The command, readback and deviation timer of one update of the downforce channel (R111, R83, R93). -/
def State.updateDownforce (adc : BitVec 12) (s : State) : State :=
  s.modCond fun c =>
    let command := stepToward s.downforceDrive c.dfCommand
    let readback := readbackOf adc
    Conditioner.timeLift
      { c with
        dfCommand := command
        dfReadback := readback
        dfDevTimer :=
          deviationTimer s.settings.press.tolerance s.settings.press.deviationTime readback command c.dfDevTimer }

/-- The 1 ms update of the downforce channel: the fault check first, then a completed lowering or lift (R111, R114, R118;
the order within the update is log 25). -/
def State.downforceUpdate (adc : BitVec 12) (diskUp : Bool) (s : State) : State :=
  let u := s.updateDownforce adc
  if u.cond.state ≠ .fault ∧ s.settings.press.deviationTime ≤ u.cond.dfDevTimer then u.condFault .downforce
  else
    match u.cond.state with
    | .lowering => u.loweringComplete
    | .lifting => if diskUp then u.liftComplete else u
    | _ => u

/-- A lowered downforce limit cuts the command at once (R111). -/
def State.downforceCut (s : State) : State :=
  s.modCond fun c => { c with dfCommand := min c.dfCommand s.settings.cond.downforceLimit }

/-! ### Trips (R116, R117) -/

/-- What the matrix tells the conditioner controller about trips, in the order told (log 2). -/
def Event.tripTold : Event → Bool
  | .condTripHalt => true
  | .condTripClear => true
  | _ => false

/-- The conditioner takes a trip (R116). -/
def State.condTripHalt (s : State) : State :=
  match s.cond.state with
  | .lowering | .dwelling | .sweeping =>
      (s.modCond fun c => { c with dfCommand := 0, clearNoted := false }).startLift .halt
  | .lifting => s.modCond fun c => { c with dfCommand := 0, liftPurpose := some .halt, clearNoted := false }
  | .parked | .waitHub | .waitClear | .moving | .returning => s.condEnter .halted
  | .homing => s.condEnter .unreferenced
  | .unreferenced | .fault | .halted => s

def execCondTripHalt (s : State) : Host.Outcome State Fault Refusal :=
  match s.takeEvent Event.tripTold (fun e => decide (e = .condTripHalt)) with
  | some (_, s') => .next s'.condTripHalt
  | none => .next s

/-- The conditioner takes a trip clear (R117). -/
def State.condTripClear (s : State) : State :=
  match s.cond.state with
  | .halted => s.returnToPark
  | .unreferenced => if s.cond.mode = .off then s else s.beginHoming
  | .lifting => if s.cond.liftPurpose = some .halt then s.modCond fun c => { c with clearNoted := true } else s
  | _ => s

def execCondTripClear (s : State) : Host.Outcome State Fault Refusal :=
  match s.takeEvent Event.tripTold (fun e => decide (e = .condTripClear)) with
  | some (_, s') => .next s'.condTripClear
  | none => .next s

/-- The home switch's rising edge as the conditioner controller takes it: the step position is loaded with the park radius
at every edge (R100), which ends the steps of a move to that radius (R110), and in HOMING the conditioner parks and acts
on its mode (R109). DESIGN CHOICE (log 40): outside HOMING an edge that takes the step position off the radius leaves a running
settle timer running, and one that loads the radius starts the timer anew. -/
def State.condHomeEdge (s : State) : State :=
  let loaded := s.modCond fun c => { c with stepPos := BitVec.ofNat 32 s.settings.cond.parkRadius }
  if s.cond.state = .homing then loaded.enterParked else loaded.startSettle

/-- The conditioner controller's part of a station restart (R123). -/
def State.condRestart (s : State) : State :=
  (s.modCond fun c =>
    { c.enter (if c.state = .parked then .parked else .unreferenced) with
      mode := .off, queue := [], target := none, faultKind := none, dwell := 0, dfCommand := 0, dfDevTimer := 0
      clearNoted := false }).evaluateSpent

end Sys2Proof.Machine
end

