-- ==== Sys2Proof/Machine/Slurry.lean ====
section
/-!
DEFINITION. The slurry unit: the recompute of demands, served flows and duties (R128, R137 to R139), the supply lines
(R125 to R132), and the bars (R135, R136, R141 to R144).
-/

namespace Sys2Proof.Machine
open Sys2Proof

/-! ### Demand and sharing -/

/-- An outlet's demand: floor(rate × weight / sum of the weights), 0 when they sum to 0 (R137). -/
def outletDemand (rate sum weight : Nat) : Nat := if sum = 0 then 0 else rate * weight / sum

def Bar.demands (b : Bar) : Three Nat := b.weights.map (outletDemand b.rate b.weights.sum)

/-- A line's demand: the demands of the outlets of every bar whose feed is that line (R138). -/
def Slurry.demandOn (q : Slurry) (k : Line) : Nat :=
  (if q.bars.a.feed = some k then q.bars.a.demands.sum else 0) +
    (if q.bars.b.feed = some k then q.bars.b.demands.sum else 0)

/-- An outlet's served flow on a line of demand `d` and maximum `max` (R138). -/
def servedFlow (max d demand : Nat) : Nat := if d ≤ max then demand else demand * max / d

/-- A valve's duty (R139). -/
def valveDuty (outletMax served : Nat) : Nat := min 4095 (served * 4095 / outletMax)

/-- A pump's setpoint by the line state (R128). -/
def pumpSetpoint (st : LineState) (maxFlow recirculation primeFlow demand : Nat) : Nat :=
  match st with
  | .off => 0
  | .stopped => 0
  | .priming => min primeFlow maxFlow
  | .ready => max recirculation (min demand maxFlow)

/-- A pump's duty (R128). -/
def pumpDuty (setpoint maxFlow : Nat) : Nat := setpoint * 4095 / maxFlow

/-- A line after a recompute: demand, SERVED_LOW, setpoint and duty; while the duty is 0 the last-pulse timer is held
at 0 (R128, R130, R138, R139). -/
def recomputeLine (g : SlurrySettings) (q : Slurry) (k : Line) : SupplyLine :=
  let x := q.lines.get k
  let d := q.demandOn k
  let setpoint := pumpSetpoint x.state (g.maxFlow.get k) (g.recirculation.get k) (g.primeFlow.get k) d
  let duty := pumpDuty setpoint (g.maxFlow.get k)
  { x with
    demand := d
    servedLow := decide (g.maxFlow.get k < d)
    setpoint := setpoint
    duty := duty
    lastPulse := if duty = 0 then 0 else x.lastPulse }

/-- The flow served for a demand by a bar's feed (R138). -/
def servedBy (g : SlurrySettings) (q : Slurry) (feed : Option Line) (demand : Nat) : Nat :=
  match feed with
  | none => 0
  | some k => servedFlow (g.maxFlow.get k) (q.demandOn k) demand

/-- A bar after a recompute (R137, R138, R139). -/
def recomputeBar (g : SlurrySettings) (q : Slurry) (l : Lane) : Bar :=
  let b := q.bars.get l
  let outlet := fun demand outletMax : Nat =>
    let served := servedBy g q b.feed demand
    ({ demand := demand, served := served, valve := valveDuty outletMax served } : OutletFlow)
  { b with outlets := b.demands.zip outlet (g.outletMax.get l) }

/-- The recompute of every outlet, line and valve, as one event (R139). -/
def recomputeSlurry (g : SlurrySettings) (q : Slurry) : Slurry :=
  { q with
    lines := ⟨recomputeLine g q .l1, recomputeLine g q .l2, recomputeLine g q .l3⟩
    bars := ⟨recomputeBar g q .a, recomputeBar g q .b⟩ }

def State.recompute (s : State) : State := s.modSlurry (recomputeSlurry s.settings.slurry)

/-! ### Supply lines -/

/-- The effects of an accepted LINE START or LINE RESTART (R125, R126), with the result. -/
def State.startLine (k : Line) (s : State) : Answer :=
  if s.settings.slurry.primeCount.get k = 0 then
    done (s.modLine k fun x => { x with state := .ready }).recompute
  else
    { state := (s.modLine k fun x => { x with state := .priming, prime := 0, lastPulse := 0 }).recompute
      result := .accepted }

/-- LINE START and LINE RESTART, which differ in the state they start from (R125, R126). -/
def decideLineStartFrom (from' : LineState) (code : Nat) (s : State) : Answer :=
  match lineOfCode code with
  | none => refuse .range s
  | some k =>
      if s.targetActive .slurryStop then refuse .held s
      else if (s.line k).state = from' then s.startLine k
      else refuse .state s

/-- LINE START (R125). -/
def decideLineStart (code : Nat) (s : State) : Answer := decideLineStartFrom .off code s

/-- LINE RESTART (R126). -/
def decideLineRestart (code : Nat) (s : State) : Answer := decideLineStartFrom .stopped code s

/-- A bar feeds from the line. -/
def State.lineInUse (s : State) (k : Line) : Bool :=
  decide ((s.bar .a).feed = some k) || decide ((s.bar .b).feed = some k)

/-- The line enters OFF; the prime progress of a PRIMING line is set to 0 (R127, R144). -/
def SupplyLine.turnOff (x : SupplyLine) : SupplyLine :=
  { x with state := .off, prime := if x.state = .priming then 0 else x.prime }

/-- LINE STOP (R127). -/
def decideLineStop (code : Nat) (s : State) : Answer :=
  match lineOfCode code with
  | none => refuse .range s
  | some k =>
      match (s.line k).state with
      | .off => done s
      | .stopped => done (s.modLine k SupplyLine.turnOff).recompute
      | .priming => if s.lineInUse k then refuse .inUse s else done (s.modLine k SupplyLine.turnOff).recompute
      | .ready => if s.lineInUse k then refuse .inUse s else done (s.modLine k SupplyLine.turnOff).recompute

/-- A pulse of a line's flow meter (R129). -/
def State.flowPulse (k : Line) (s : State) : State :=
  let x := s.line k
  if x.duty = 0 then s
  else
    let counted := s.modLine k fun y => { y with lastPulse := 0, window := y.window + 1 }
    match x.state with
    | .priming =>
        let primed := counted.modLine k fun y => { y with prime := y.prime + 1 }
        if s.settings.slurry.primeCount.get k ≤ x.prime + 1 then
          ((primed.modLine k fun y => { y with state := .ready }).file .s .lineReady).recompute
        else primed
    | _ => counted

/-- A bar's feed and fallback flag. -/
def State.setFeed (l : Lane) (feed : Option Line) (fallback : Bool) (s : State) : State :=
  s.modBar l fun b => { b with feed := feed, fallback := fallback }

/-- The line a bar falls back to: the stopped line's fallback line, if the bar's fallback flag is clear and that line is
READY (R131). -/
def State.fallbackFor (s : State) (l : Lane) (k : Line) : Option Line :=
  match s.settings.slurry.fallback.get k with
  | some f => if !(s.bar l).fallback && decide ((s.line f).state = .ready) then some f else none
  | none => none

/-- A bar on a line that stops flowing moves one step (R131). -/
def State.moveBar (k : Line) (l : Lane) (s : State) : State :=
  if (s.bar l).feed = some k then
    match s.fallbackFor l k with
    | some f => (s.setFeed l (some f) true).file l.port .feedFallback
    | none => (s.setFeed l none false).file l.port .feedLost
  else s

/-- The line has stopped flowing (R130). -/
def State.lineStops (k : Line) (s : State) : State :=
  let stopped := s.modLine k fun x =>
    { x with state := .stopped, duty := 0, prime := if x.state = .priming then 0 else x.prime }
  ((((stopped.moveBar k .a).moveBar k .b).file .s .lineStopped).recompute)

/-- The last-pulse timer runs in PRIMING and READY while the duty is above 0 (R130). -/
def SupplyLine.timed (x : SupplyLine) : Bool :=
  (decide (x.state = .priming) || decide (x.state = .ready)) && decide (0 < x.duty)

/-- The last-pulse timer reaches the stop timeout (R130). -/
def State.stopTimeout (k : Line) (s : State) : State := if (s.line k).timed then s.lineStops k else s

/-- A line at the end of a one-second window (R132). -/
def SupplyLine.windowEnd (pulsesPerLitre : Nat) (x : SupplyLine) : SupplyLine :=
  { x with measured := x.window * 60000 / pulsesPerLitre, window := 0 }

/-- The end of a one-second window, the same for the three lines (R132). -/
def State.windowEnd (s : State) : State :=
  let g := s.settings.slurry.pulsesPerLitre
  s.modSlurry fun q =>
    { q with
      lines := ⟨q.lines.l1.windowEnd g.l1, q.lines.l2.windowEnd g.l2, q.lines.l3.windowEnd g.l3⟩
      windowMs := 0 }

/-! ### Bars -/

/-- FEED SELECT after dispatch (R135). -/
def decideFeedSelect (p : Port) (code : Nat) (s : State) : Answer :=
  match p.lane? with
  | none => refuse .role s
  | some l =>
      let select := fun feed : Option Line =>
        done (s.modBar l fun b => { b with feed := feed, fallback := false, resume := none }).recompute
      match feedOfCode code with
      | none => refuse .range s
      | some none => select none
      | some (some k) =>
          if s.matrix.station = .tripped ∨ s.holdLevel l = .hard ∨ s.targetActive .slurryStop = true then
            refuse .held s
          else if (s.line k).state = .ready then select (some k)
          else refuse .notReady s

/-- RATE SET after dispatch (R136). -/
def decideRateSet (p : Port) (rate : Nat) (weights : Three Nat) (s : State) : Answer :=
  match p.lane? with
  | none => refuse .role s
  | some l =>
      if weights.toList.any fun w => decide (15 < w) then refuse .range s
      else if 65535 < rate then refuse .range s
      else
        let top := s.settings.slurry.barMax.get l
        { state := (s.modBar l fun b => { b with rate := min rate top, weights := weights }).recompute
          result := .ok
          clamped := decide (top < rate)
          noWeight := decide (weights.sum = 0) }

/-- A bar with a feed takes a resume record and goes to NONE; a bar at NONE is left as it is (R141). -/
def Bar.emptied (b : Bar) : Bar :=
  match b.feed with
  | some k => { b with resume := some { line := k, fallback := b.fallback }, feed := none, fallback := false }
  | none => b

/-- The slurry unit empties a lane's bar at a HARD level (R141). -/
def State.emptyBar (l : Lane) (s : State) : State := (s.modBar l Bar.emptied).recompute

def execHardHoldBarEmpty (l : Lane) (s : State) : Host.Outcome State Fault Refusal :=
  match s.takeKind (fun e => decide (e = .hardHoldBarEmpty l)) with
  | some (_, s') => .next (s'.emptyBar l)
  | none => .next s

/-- The slurry unit empties both bars at a trip (R143). -/
def State.emptyBothBars (s : State) : State := ((s.modBar .a Bar.emptied).modBar .b Bar.emptied).recompute

def execTripBarEmpty (s : State) : Host.Outcome State Fault Refusal :=
  match s.takeKind (fun e => decide (e = .tripBarEmpty)) with
  | some (_, s') => .next s'.emptyBothBars
  | none => .next s

/-- Turn every line OFF (R144, R147). -/
def State.linesOff (s : State) : State :=
  s.modSlurry fun q => { q with lines := q.lines.map SupplyLine.turnOff }

/-- The slurry unit's part of the slurry stop: both bars emptied, then every line OFF, then a recompute (R144). -/
def State.slurryStop (s : State) : State :=
  (((s.modBar .a Bar.emptied).modBar .b Bar.emptied).linesOff).recompute

def execSlurryStop (s : State) : Host.Outcome State Fault Refusal :=
  match s.takeKind (fun e => decide (e = .slurryStop)) with
  | some (_, s') => .next s'.slurryStop
  | none => .next s

/-- The resume step of a lane's bar at a RESUME from HARD (R142), and whether the feed could not be restored. -/
def State.resumeBar (l : Lane) (s : State) : State × Bool :=
  match (s.bar l).resume with
  | none => (s.recompute, false)
  | some r =>
      let cleared := s.modBar l fun b => { b with resume := none }
      if (s.line r.line).state = .ready then ((cleared.setFeed l (some r.line) r.fallback).recompute, false)
      else (cleared.recompute, true)

/-- The slurry unit's part of a station restart: both bars emptied without a record, every line OFF with its prime
progress and last-pulse timer at 0, then a recompute (R147). -/
def State.slurryRestart (s : State) : State :=
  let bars := fun b : Bar => { b with feed := none, fallback := false, resume := none }
  (((s.modBar .a bars).modBar .b bars).modSlurry fun q =>
    { q with lines := q.lines.map fun x => { x with state := .off, prime := 0, lastPulse := 0 } }).recompute

end Sys2Proof.Machine
end

