-- ==== Sys2Proof/Machine/Recovery.lean ====
section
/-!
DEFINITION. What the matrix finds and gives back: link silence (R155, R177), dry revolutions (R154), RESUME (R156) and
STATION RESTART (R160, R161).
-/

namespace Sys2Proof.Machine
open Sys2Proof

/-! ### Link silence (R155, R177) -/

def State.modSilence (l : Lane) (f : Silence → Silence) (s : State) : State :=
  s.modLinks fun k => { k with silence := k.silence.set l (f (k.silence.get l)) }

/-- The link goes silent: the flag, the stopped timer, and LINK_SILENT if the lane is down, active until the next valid
frame (R177, R155). DESIGN CHOICE (log 41): the stopped timer holds the link silence time, also where a SET has lowered that
time below its count. -/
def State.goSilent (l : Lane) (s : State) : State :=
  (s.modSilence l fun _ => { timer := s.settings.linkSilence, silent := true, cause := s.laneDown l }).onRise
    false (s.laneDown l) (·.addCause l (causeEntry .linkSilent .hard))

/-- A valid frame restarts a carrier link's silence timer, clears its silent flag, and ends the condition of LINK_SILENT
(R155, R177). -/
def State.hearFrame (p : Port) (s : State) : State :=
  match p.lane? with
  | some l => s.modSilence l fun _ => { timer := 0, silent := false, cause := false }
  | none => s

/-- The silence timer reaches the link silence time (R177). It runs while the silent flag is clear (log 4). -/
def State.silenceExpiry (l : Lane) (s : State) : State :=
  if (s.links.silence.get l).silent then s else s.goSilent l

/-! ### Dry revolutions (R154) -/

/-- A lane's dry-revolution count after a map updated event (R154). -/
def dryCountAfter (dry : Bool) (count : Nat) : Nat := if dry then min 8 (count + 1) else 0

/-- One lane's part of a map updated event (R154). -/
def State.dryUpdate (l : Lane) (u : MapUpdated) (s : State) : State :=
  let count := dryCountAfter (u.dry.get l) (s.matrix.dryCount.get l)
  let limit := s.settings.matrix.dryLimit
  (s.modMatrix fun m => { m with dryCount := m.dryCount.set l count }).onRise
    false (decide (0 < limit) && decide (limit ≤ count)) (·.addCause l (causeEntry .dry .soft))

/-- The outstanding map updated event of the interlock matrix. -/
def Event.isDryCountUpdate : Event → Bool
  | .dryCountUpdate _ => true
  | _ => false

def execDryCountUpdate (s : State) : Host.Outcome State Fault Refusal :=
  match s.takeKind Event.isDryCountUpdate with
  | some (.dryCountUpdate u, s') => .next ((s'.dryUpdate .a u).dryUpdate .b u)
  | _ => .next s

/-! ### RESUME (R156) -/

/-- The slurry unit's part of a RESUME: the resume step when the level came down from HARD (R142). -/
def State.resumeFeed (l : Lane) (level : HoldLevel) (s : State) : State × Bool :=
  if level = .hard then s.resumeBar l else (s, false)

/-- An accepted RESUME (R156): the set is emptied, the feed restored, and the pressure controller told (R90). -/
def State.resume (l : Lane) (s : State) : State × Bool :=
  let r := (s.setCauses l []).resumeFeed l (s.holdLevel l)
  (r.1.raise (.softHoldCap l), r.2)

/-- The cause set field that names a list of cause kinds (10.1). -/
def causeKindBytes (kinds : List CauseKind) : List Byte :=
  setBytes 1 (CauseKind.all.map fun k => decide (k ∈ kinds))

/-- RESUME after dispatch (R156). -/
def decideResume (p : Port) (code : Option Nat) (s : State) : Answer :=
  match requestLane p code with
  | none => refuse .range s
  | some l =>
      if s.holdLevel l = .none then refuse .state s
      else if s.activeCauses l ≠ [] then
        { state := s, result := .causeActive, payload := causeKindBytes (s.activeCauses l) }
      else { state := (s.resume l).1, result := .ok, feedNotRestored := (s.resume l).2 }

/-! ### STATION RESTART (R160, R161) -/

/-- The link interface's part of a restart: every notice set and note box emptied (R178). -/
def Links.restarted (k : Links) : Links :=
  let emptied := fun p : PortLink => { p with notices := [], noteBox := none }
  { k with ports := k.ports.map emptied }

/-- The matrix's part of a restart before its re-evaluation (R161). -/
def Matrix.restarted (m : Matrix) : Matrix :=
  { m with
    causes := .all [], remoteHold := .all none, remoteTrip := false, dryCount := .all 0, station := .normal
    tripCauses := [] }

/-- INPUT and SUPPLY_LOW are taken as becoming active where their conditions are active; the matrix tells no other block of
a level that rises so (R161). -/
def State.reevaluateLane (l : Lane) (s : State) : State :=
  (s.onRise false (s.targetActive l.holdTarget)
      (·.addCauseUntold l (causeEntry .input (s.settings.matrix.severity.get l)))).onRise
    false s.press.supplyLowActive (·.addCauseUntold l (causeEntry .supplyLow .soft))

/-- An accepted STATION RESTART (R160): each block's own restart effect, then the matrix's re-evaluation (R161). -/
def State.stationRestart (s : State) : State :=
  let quiet := s.pressureRestart.slurryRestart.rederiveHub.condRestart
  (((quiet.modLinks Links.restarted).modMatrix Matrix.restarted).reevaluateLane .a).reevaluateLane .b

/-- STATION RESTART after dispatch (R160). -/
def decideStationRestart (s : State) : Answer :=
  if 2 ≤ s.armsInside.length then refuse .stillInside s
  else if s.matrix.station = .tripped ∨ s.bothRaised = false ∨ s.cond.state.atRest = false then refuse .busy s
  else done s.stationRestart

end Sys2Proof.Machine
end

