-- ==== Sys2Proof/Machine/Events.lean ====
section
/-!
DEFINITION. What each block does when it takes what another has told it, and the taking of all that is outstanding before a
command is carried out (log 2): the crossings, holds, trips, grants and map updated events of earlier commands, and the
arrivals that are due (R110, log 36).
-/

namespace Sys2Proof.Machine
open Sys2Proof

/-- The block that was told takes the event (R55, R66, R67, R69, R77, R89, R90, R106, R108, R116, R117, R141, R143, R144,
R154). -/
def State.take (s : State) : Event → State
  | .hubEntry m => s.hubEntry m
  | .hubExit m => s.hubExit m
  | .condMapUpdated u => s.condMapUpdated u
  | .gainRecompute u => (s.gainUpdate .a u).gainUpdate .b u
  | .dryCountUpdate u => (s.dryUpdate .a u).dryUpdate .b u
  | .indexProfileApply => (s.applyAtIndex .a).applyAtIndex .b
  | .hardHoldVent l => s.vent l
  | .softHoldCap l => s.deriveDrive l
  | .hardHoldBarEmpty l => s.emptyBar l
  | .hardHoldWithdraw l => s.withdrawClaim l.arm
  | .tripBarEmpty => s.emptyBothBars
  | .condTripHalt => s.condTripHalt
  | .condTripClear => s.condTripClear
  | .mapReplaced => s.emptyQueue
  | .condGrant => s.condGrant
  | .condGrantLost => s.condGrantLost
  | .slurryStop => s.slurryStop

/-- How many events an outstanding one can lead to, itself included: an intrusion trips the station and raises two levels
(R68, R157), a dry revolution holds two lanes (R154), and what makes the conditioner claim lengthens the wait list (R108). -/
def Event.weight : Event → Nat
  | .hubEntry _ => 9
  | .dryCountUpdate _ => 7
  | .condMapUpdated _ => 3
  | .condGrantLost => 3
  | _ => 1

/-- A bound on the events still to be taken: the outstanding ones, and a grant event for each waiting claimant. -/
def State.outstanding (s : State) : Nat := (s.events.map Event.weight).sum + 2 * s.hub.waitList.length

/-- Take the oldest outstanding event, at most `n` times. -/
def State.drainWithin : Nat → State → State
  | 0, s => s
  | n + 1, s =>
      match s.events with
      | [] => s
      | e :: rest => State.drainWithin n ((s.modEvents fun _ => rest).take e)

/-- Take every outstanding event, oldest first, with those that the taking raises. -/
def State.drain (s : State) : State := s.drainWithin s.outstanding

/-- An arrival that is due happens, with what it raises (R110). -/
def State.arrive (s : State) : State := s.moveArrival.drain

/-- All that earlier commands have brought about is taken: the outstanding events, and the arrivals that are due. A return
to park may be followed by a move of no distance, so there may be two arrivals (R110). -/
def State.settled (s : State) : State := s.drain.arrive.arrive

/-- The map updated event on its way to one of its three receivers (R56). -/
def Event.isMapUpdated : Event → Bool
  | .condMapUpdated _ | .gainRecompute _ | .dryCountUpdate _ => true
  | _ => false

/-- All that earlier commands have brought about is taken but for map updated events, each of which its receiver may take
before or after a request that changes the band records it reads (R56; log 2). -/
def State.settledBeforeMap (s : State) : State :=
  ((s.modEvents fun _ => s.events.filter (!·.isMapUpdated)).settled).modEvents fun rest =>
    s.events.filter (·.isMapUpdated) ++ rest

end Sys2Proof.Machine
end

