-- ==== Sys2Proof/Machine/Interlock.lean ====
section
/-!
DEFINITION. The interlock inputs and the remote bits: pin changes and debouncing (R149), REMOTE HOLD and REMOTE TRIP
(R151), and TRIP CLEAR (R159).
-/

namespace Sys2Proof.Machine
open Sys2Proof

def State.modInput (i : InputIndex) (f : InterlockInput → InterlockInput) (s : State) : State :=
  s.modMatrix fun m => { m with inputs := m.inputs.set i.val (f (m.input i)) }

/-- The accepted level takes the pin's level, the timer returns to 0, and the targets are taken (R149, R150). -/
def State.acceptLevel (i : InputIndex) (s : State) : State :=
  (s.modInput i fun x => { x with accepted := x.pin, timer := 0 }).takeTargets s

/-- An interlock pin changes level (R149). A pin at the accepted level holds its timer at 0. A pin that differs starts
the timer with the debounce time then in force, and is accepted at once with a debounce time of 0. -/
def State.pinChange (i : InputIndex) (level : Bool) (s : State) : State :=
  if (s.matrix.input i).pin = level then s
  else
    let s' := s.modInput i fun x => { x with pin := level, timer := 0, limit := s.settings.matrix.debounceTime }
    if level ≠ (s.matrix.input i).accepted ∧ s.settings.matrix.debounceTime = 0 then s'.acceptLevel i else s'

/-- The debounce timer of a differing pin reaches the debounce time (R149). -/
def State.debounceExpiry (i : InputIndex) (s : State) : State :=
  if (s.matrix.input i).pin = (s.matrix.input i).accepted then s else s.acceptLevel i

/-- The REMOTE cause's condition becomes active for a new remote hold: when there was none, or a lower one (R151). -/
def remoteRises : Option Severity → Option Severity → Bool
  | none, some _ => true
  | some .soft, some .hard => true
  | _, _ => false

/-- Set or clear a lane's remote hold (R151). -/
def State.setRemoteHold (l : Lane) (h : Option Severity) (s : State) : State :=
  let s' := s.modMatrix fun m => { m with remoteHold := m.remoteHold.set l h }
  match h with
  | some sev => if remoteRises (s.matrix.remoteHold.get l) h then s'.addCause l (causeEntry .remote sev) else s'
  | none => s'

/-- REMOTE HOLD (R151). -/
def decideRemoteHold (p : Port) (code : Option Nat) (action : Nat) (s : State) : Answer :=
  match requestLane p code, holdActionOfCode action with
  | some l, some h => done (s.setRemoteHold l h)
  | _, _ => refuse .range s

/-- REMOTE TRIP: SET 0 and CLEAR 1 (R151, 10.1). -/
def decideRemoteTrip (action : Nat) (s : State) : Answer :=
  match action with
  | 0 =>
      let s' := s.modMatrix fun m => { m with remoteTrip := true }
      done (s'.onRise s.matrix.remoteTrip true (·.tripCause .remote))
  | 1 => done (s.modMatrix fun m => { m with remoteTrip := false })
  | _ => refuse .range s

/-- TRIP CLEAR (R159): the conditioner controller is told of the clear. -/
def decideTripClear (s : State) : Answer :=
  match s.matrix.station with
  | .normal => refuse .state s
  | .tripped =>
      if s.activeTrips ≠ [] then
        { state := s, result := .causeActive, payload := setBytes 1 (TripCause.all.map s.tripActive) }
      else
        done ((s.modMatrix fun m => { m with station := .normal, tripCauses := [] }).raise .condTripClear)

end Sys2Proof.Machine
end

