-- ==== Sys2Proof/Machine/Accounting.lean ====
section
/-!
DEFINITION. Revolution accounting: the accrual (R42 to R48), the close (R49 to R54, R57), the start index as the map
takes it (R27), and the map updated event (R55, R56).
-/

namespace Sys2Proof.Machine
open Sys2Proof

/-! ### The accrual -/

/-- A lane contributes work: it is down, its arm is referenced, its chord table is loaded (R43). -/
def State.contributes (s : State) (l : Lane) : Bool :=
  s.laneDown l && (s.arm l.arm).referenced && (s.map.chords.get l).loaded

/-- The contact pressure: the mean of the five zone commands, rounded down (R44). -/
def contactPressure (commands : Six Nat) : Nat :=
  (commands.z1 + commands.z2 + commands.z3 + commands.z4 + commands.z5) / 5

/-- Band k lies in an outlet's band range, clipped at band 19 (R45). -/
def inOutletRange (first count k : Nat) : Bool := decide (first ≤ k) && decide (k ≤ min 19 (first + count - 1))

/-- Band k lies in the range of an outlet of lane X's own bar that serves flow (R45). -/
def State.wetBand (s : State) (l : Lane) (k : Nat) : Bool :=
  let first := s.settings.slurry.outletFirst.get l
  let count := s.settings.slurry.outletCount.get l
  let outlets := (s.bar l).outlets
  let wets := fun o : Outlet => decide (0 < (outlets.get o).served) && inOutletRange (first.get o) (count.get o) k
  wets .inner || wets .middle || wets .outer

/-- The wet factor (R45). -/
def State.wetFactor (s : State) (l : Lane) (k : Nat) : Nat := if s.wetBand l k then 1 else 2

/-- What a lane adds to band k's tally at an accrual (R43, R46). -/
def State.laneWork (s : State) (l : Lane) (k : Nat) : Nat :=
  if s.contributes l then
    contactPressure ((s.lane l).channels.map (·.command)) * s.laneChord l k * s.wetFactor l k
  else 0

/-- A lane is dry at an accrual: some band under its head has a wet factor of 2 (R47). -/
def State.dryContact (s : State) (l : Lane) : Bool :=
  s.contributes l && bandIndices.any fun k => decide (0 < s.laneChord l k) && !s.wetBand l k

/-- The disk is down: DWELLING or SWEEPING (R48). -/
def CondState.cutting : CondState → Bool
  | .dwelling | .sweeping => true
  | _ => false

/-- What the conditioner adds to band k's cut tally at an accrual (R48). -/
def State.diskWork (s : State) (k : Nat) : Nat :=
  if s.cond.state.cutting ∧
      radiusDistance (bandCentre k) (s.arm .cond).position < s.settings.tracker.condReach then
    s.cond.dfCommand
  else 0

/-- One accrual (R42). -/
def State.accrue (s : State) : State :=
  s.modMap fun m =>
    { m with
      tally := bandIndices.map fun k => m.tally.getD k 0 + s.laneWork .a k + s.laneWork .b k
      cut := bandIndices.map fun k => m.cut.getD k 0 + s.diskWork k
      dryMarks := ⟨m.dryMarks.a + (s.dryContact .a).toNat, m.dryMarks.b + (s.dryContact .b).toNat⟩
      cutMark := m.cutMark || s.cond.state.cutting }

/-! ### The close -/

/-- Exposure: the tally over 16384, half rounding up (R52). -/
def exposure (tally : Nat) : Nat := (tally + 8192) / 16384

/-- Recovery, or a height loss increment: the cut tally times a gain over 256, rounded down (R52, R53). -/
def scaledCut (cut gain : Nat) : Nat := cut * gain / 256

/-- A band's wear and height loss folded at a valid close (R52, R53). The state is classified after. -/
def foldBand (g : MapSettings) (tally cut : Nat) (b : Band) : Band :=
  { b with
    height := min 4000000 (b.height + scaledCut cut g.heightGain)
    wear := min 65535 (b.wear + exposure tally - scaledCut cut g.cutGain) }

/-- A band after a valid close: folded, then classified with the raised count (R52 to R54). -/
def closeBand (g : MapSettings) (count : BitVec 32) (tally cut : Nat) (b : Band) : Band :=
  reclassify g count (foldBand g tally cut b)

/-- The band records after a valid close. -/
def PadMap.closedBands (g : MapSettings) (m : PadMap) : List Band :=
  bandIndices.map fun k => closeBand g (m.revCount + 1) (m.tally.getD k 0) (m.cut.getD k 0) (m.band k)

/-- Band k enters a state between two record lists (R4). -/
def enters (st : BandState) (old new : PadMap) (k : Nat) : Bool :=
  decide ((new.band k).state = st) && decide ((old.band k).state ≠ st)

/-- The notices of a valid close (R4, R54 step 3); `old` is the map before the close. -/
def State.closeNotices (old : PadMap) (s : State) : State :=
  let glazed := bandIndices.filter (enters .glazed old s.map)
  let under := fun l => glazed.any fun k => decide (0 < s.laneChord l k)
  (((s.onRise false (!glazed.isEmpty) (·.file .s .glaze)).onRise false (under .a) (·.file .a .glazeUnder)).onRise
    false (under .b) (·.file .b .glazeUnder)).onRise
    false (bandIndices.any (enters .worn old s.map)) (·.fileAll .padSpent)

/-- The map updated event of a close, from the accounting as it stands before it is cleared (R55). -/
def State.mapUpdated (s : State) : MapUpdated :=
  let position := fun l : Lane =>
    ({ position := clampRadius (s.arm l.arm).position, referenced := (s.arm l.arm).referenced } : CarriedPosition)
  { dry := s.map.dryMarks.map fun n => decide (1 ≤ n)
    positions := ⟨position .a, position .b⟩
    diskCut := s.map.cutMark }

/-- The map updated event goes to its three receivers (R56). -/
def State.issueUpdated (u : MapUpdated) (s : State) : State :=
  ((s.raise (.condMapUpdated u)).raise (.gainRecompute u)).raise (.dryCountUpdate u)

/-- A valid close's update of the records, its notices and its event (R52 to R55). -/
def State.validClose (s : State) : State :=
  let folded := s.modMap fun m => { m with bands := m.closedBands s.settings.map, revCount := m.revCount + 1 }
  (((folded.closeNotices s.map).modMap PadMap.clearTallies)).issueUpdated s.mapUpdated

/-- The revolution is suspect at its close (R50). -/
def State.closeSuspect (s : State) (verdictSuspect : Bool) : Bool := verdictSuspect || s.map.suspect || !s.map.valid

/-- The close at an index event: the last accrual, the judgement, discard or update, and the next revolution (R49, R51,
R57). -/
def State.closeRevolution (verdictSuspect nextOutside : Bool) (s : State) : State :=
  let accrued := s.accrue
  let closed := if accrued.closeSuspect verdictSuspect then accrued.modMap PadMap.clearTallies else accrued.validClose
  closed.modMap fun m => { m with suspect := nextOutside }

/-- The start index as the map takes it (R27). -/
def State.startRevolution (s : State) : State := s.modMap fun m => { m.clearTallies with suspect := false }

end Sys2Proof.Machine
end

