-- ==== Sys2Proof/Machine/Tracker.lean ====
section
/-!
DEFINITION. The platen and arm tracker: the angle and its marks (R21 to R23), index events and states (R24 to R33),
speed (R34, R35), arms (R36) and hub crossings (R37, R38).
-/

namespace Sys2Proof.Machine
open Sys2Proof

/-! ### Speed (R34, R35) -/

/-- The speed of a period in µs, in 0.1 rpm (R34). The rule states no result for a period of 0: a free value (log 10). -/
def speedOf (period : Nat) : Nat :=
  if period = 0 then Config.speedAtPeriodZero.toNat else min 65535 (600000000 / period)

/-- The speed is in the window (R35). -/
def speedInWindow (g : TrackerSettings) (speed : Nat) : Bool :=
  decide (g.windowLower ≤ speed) && decide (speed ≤ g.windowUpper)

/-- Evaluate the in-window flag again; a change files SPEED_WINDOW to S, A and B (R35). -/
def State.evaluateWindow (s : State) : State :=
  let now := speedInWindow s.settings.tracker s.tracker.speed
  let s' := s.modTracker fun t => { t with inWindow := now }
  if now = s.tracker.inWindow then s' else s'.fileAll .speedWindow

/-- The period timer after a time in µs, held at 16,777,215 (R34). -/
def advancePeriod (timer elapsed : Nat) : Nat := min 16777215 (timer + elapsed)

/-! ### Index events (R24 to R32) -/

/-- The kind of an index event (R26). -/
inductive IndexKind | clean | early | synthetic
  deriving DecidableEq, Repr

/-- The kind of an index edge by the counter (R24). -/
def indexKindOf (angle : Int) : IndexKind := if 16380 ≤ angle then .clean else .early

/-- The verdict is SUSPECT (R28). -/
def Tracker.verdictSuspect (t : Tracker) (k : IndexKind) : Bool := t.platenSuspect || decide (k ≠ .clean)

/-- The closing revolution was clean (R30, R34). -/
def Tracker.cleanRevolution (t : Tracker) (k : IndexKind) : Bool := decide (k = .clean) && !t.disturbed

/-- The suspect run count after a close (R28, R30). -/
def Tracker.runAfter (t : Tracker) (k : IndexKind) : Nat :=
  if t.verdictSuspect k then
    if t.state = .lost ∧ t.cleanRevolution k = true then 0 else min 3 (t.suspectRun + 1)
  else 0

/-- The state after a close (R29, R30, R32). UNHOMED takes no close. -/
def Tracker.stateAfter (t : Tracker) (k : IndexKind) : TrackerState :=
  match t.state with
  | .unhomed => .unhomed
  | .tracking => if t.runAfter k = 3 then .lost else .tracking
  | .lost => if t.cleanRevolution k then .tracking else .lost
  | .stalled => if t.runAfter k = 3 then .lost else .tracking

/-- LOST or STALLED: a revolution begun there is suspect (R26, R28). -/
def TrackerState.outside : TrackerState → Bool
  | .lost | .stalled => true
  | .unhomed | .tracking => false

/-- The tracker's own work at an index event but for the speed: the run count, the state and the next revolution's
counter, pointer, flags and timers (R24, R25, R28, R31, R34). -/
def Tracker.beginNext (t : Tracker) (k : IndexKind) : Tracker :=
  { t with
    state := t.stateAfter k
    suspectRun := t.runAfter k
    angle := 0
    nextMark := 1024
    reversed := false
    disturbed := false
    platenSuspect := (t.stateAfter k).outside
    stallTimer := some 0
    periodTimer := 0 }

/-- The speed measurement of a clean close, in any state (R34). -/
def State.measureSpeed (period : Nat) (s : State) : State :=
  (s.modTracker fun t => { t with period := period, speed := speedOf period }).evaluateWindow

/-- What a change of tracker state brings: PLATEN_STATE to S, A and B, and the trip cause of the state entered
(R33, R157). -/
def State.trackerChanged (before : TrackerState) (s : State) : State :=
  if s.tracker.state = before then s
  else
    let told := s.fileAll .platenState
    match s.tracker.state with
    | .stalled => told.tripCause .platenStall
    | .lost => told.tripCause .platenLost
    | .unhomed | .tracking => told

/-- An index event that closes a revolution (R24 to R26, R28 to R34, R49). -/
def State.indexEvent (k : IndexKind) (s : State) : State :=
  let t := s.tracker
  let closed := s.closeRevolution (t.verdictSuspect k) (t.stateAfter k).outside
  let measured := if t.cleanRevolution k then closed.measureSpeed t.periodTimer else closed
  ((measured.modTracker (·.beginNext k)).trackerChanged t.state).raise .indexProfileApply

/-- The first index edge in UNHOMED (R27). -/
def State.startIndex (s : State) : State :=
  ((s.startRevolution.modTracker fun t =>
    { t with state := .tracking, angle := 0, nextMark := 1024, stallTimer := some 0, periodTimer := 0 })).trackerChanged
    .unhomed

/-- A rising edge of the index input, `elapsed` µs after the period timer's value in State (R24, R27, log 5). -/
def State.indexEdge (elapsed : Nat) (s : State) : State :=
  match s.tracker.state with
  | .unhomed => s.startIndex
  | _ =>
      (s.modTracker fun t => { t with periodTimer := advancePeriod t.periodTimer elapsed }).indexEvent
        (indexKindOf s.tracker.angle)

/-! ### The angle (R21 to R23, R25) -/

/-- A disturbance of the revolution in flight: the map's suspect mark and the platen-suspect flag (R21, R28). -/
def State.disturb (s : State) : State :=
  (s.modMap fun m => { m with suspect := true }).modTracker fun t =>
    { t with platenSuspect := true, disturbed := true }

/-- A forward count issues a mark when it reaches the pointer (R22): the pointer advances and the map accrues (R42). -/
def State.sectorMark (s : State) : State :=
  if s.tracker.angle = s.tracker.nextMark ∧ s.tracker.nextMark ≤ 15360 then
    (s.modTracker fun t => { t with nextMark := t.nextMark + 1024 }).accrue
  else s

/-- A forward count (R21, R22, R25). -/
def State.forwardCount (s : State) : State :=
  if s.tracker.angle + 1 = 16389 then s.indexEvent .synthetic
  else (s.modTracker fun t => { t with angle := t.angle + 1 }).sectorMark

/-- A reverse count taken at this counter crosses a sector boundary (R23). -/
def crossesBoundary (angle : Int) : Bool := decide (0 ≤ angle) && decide (angle ≤ 15360) && decide (angle % 1024 = 0)

/-- The first reverse crossing of a revolution (R23, R28). -/
def State.reverseCrossing (s : State) : State :=
  if s.tracker.reversed then s
  else (s.disturb.modTracker fun t => { t with reversed := true }).file .s .platenReverse

/-- A reverse count (R21, R23, R25). -/
def State.reverseCount (s : State) : State :=
  if s.tracker.angle - 1 = -16384 then s.indexEvent .synthetic
  else
    let moved := s.modTracker fun t => { t with angle := t.angle - 1 }
    if crossesBoundary s.tracker.angle then moved.reverseCrossing else moved

/-- An edge on a platen quadrature channel (R21); UNHOMED ignores it. -/
def State.platenCount (e : PlatenEdge) (s : State) : State :=
  match s.tracker.state, e with
  | .unhomed, _ => s
  | _, .forward => s.forwardCount
  | _, .reverse => s.reverseCount
  | _, .undirected => s.disturb

/-! ### Stall (R31) -/

/-- The tracker enters STALLED, from TRACKING or LOST (R31). -/
def State.enterStalled (s : State) : State :=
  match s.tracker.state with
  | .tracking | .lost =>
      (s.disturb.modTracker fun t => { t with state := .stalled, stallTimer := none }).trackerChanged s.tracker.state
  | .unhomed | .stalled => s

/-- The stall timer reaches the stall limit (R31). -/
def State.stallExpiry (s : State) : State := if s.tracker.stallTimer.isSome then s.enterStalled else s

/-! ### Arms (R36, R37, R38) -/

/-- An arm's reach (R37). -/
def State.reach (s : State) : Arm → Nat
  | .a => s.settings.tracker.laneReach.a
  | .b => s.settings.tracker.laneReach.b
  | .cond => s.settings.tracker.condReach

/-- The hub radius (R37). -/
def State.hubRadius (s : State) : Nat := s.settings.tracker.hubSize * 2000

/-- What an arm's inside flag should be: referenced, and its inner edge less than the hub radius (R37). -/
def State.footprintInside (s : State) (m : Arm) : Bool :=
  (s.arm m).referenced && decide ((s.arm m).position - s.reach m < s.hubRadius)

/-- Evaluate an arm's inside flag again; a change raises a hub entry or a hub exit (R37). -/
def State.evaluateInside (m : Arm) (s : State) : State :=
  let now := s.footprintInside m
  let s' := s.modArm m fun a => { a with inside := now }
  if now = (s.arm m).inside then s' else s'.raise (if now then .hubEntry m else .hubExit m)

/-- The same, where the arbiter takes the crossing at once (R37, R66, R67). -/
def State.cross (m : Arm) (s : State) : State :=
  let now := s.footprintInside m
  let s' := s.modArm m fun a => { a with inside := now }
  if now = (s.arm m).inside then s' else if now then s'.hubEntry m else s'.hubExit m

/-- Recompute every arm's inside flag (R38). -/
def State.evaluateAllInside (s : State) : State :=
  ((s.evaluateInside .a).evaluateInside .b).evaluateInside .cond

/-- A count of an arm's scale (R36), which wraps; for the conditioner's arm the following check is made (R118). -/
def State.armCount (m : Arm) (e : ArmEdge) (s : State) : State :=
  let counted := (s.modArm m fun a =>
    { a with count := match e with
        | .outward => a.count + 1
        | .inward => a.count - 1 }).evaluateInside m
  if m = .cond then counted.followingCheck else counted

/-- The home preset of an arm (R36). -/
def State.homePreset (s : State) : Arm → Nat
  | .a => s.settings.tracker.homePreset.a
  | .b => s.settings.tracker.homePreset.b
  | .cond => s.settings.cond.parkRadius

/-- A rising edge of an arm's home switch (R36, R37); the conditioner's step position, and its parking in HOMING
(R100, R109). DESIGN CHOICE (log 39): the arbiter takes the crossing of that edge before the conditioner controller parks
and acts on its mode, so a grant that the exit ends (R67) is no longer held when it deals with the arbiter. -/
def State.homeEdge (m : Arm) (s : State) : State :=
  let loaded := s.modArm m fun a => { a with count := BitVec.ofNat 32 (s.homePreset m), referenced := true }
  if m ≠ .cond then loaded.evaluateInside m
  else if s.cond.state = .homing then (loaded.cross m).condHomeEdge
  else (loaded.evaluateInside m).condHomeEdge

end Sys2Proof.Machine
end

