-- ==== Sys2Proof/Machine/Settings.lean ====
section
/-!
DEFINITION. The settings as SET and GET see them (R180, R181 and 10_formats_and_settings.md 10.4): which item an id
and an instance name, its value in force, its range and constraints, its quiet condition, and what a change of it brings.
-/

namespace Sys2Proof.Machine
open Sys2Proof

/-- A setting, with its instance (10.4). -/
inductive Item where
  | glazeWarn | glazeLimit | condStart | condStop | cutGain | heightGain | padLife
  | stallLimit | windowLower | windowUpper
  | homePreset (l : Lane)
  | hubSize
  | laneReach (l : Lane)
  | condReach
  | limit (l : Lane) (c : Chan)
  | rampRate (l : Lane)
  | softHold (l : Lane)
  | supplyMin | supplyTime | tolerance | deviationTime
  | policy | parkRadius | sweepSpeed | sweepInner | sweepOuter | downforce | downforceLimit | dwellLimit
  | diskLifeLimit
  | maxFlow (k : Line)
  | recirculation (k : Line)
  | primeCount (k : Line)
  | primeFlow (k : Line)
  | stopTimeout (k : Line)
  | fallback (k : Line)
  | pulsesPerLitre (k : Line)
  | barMax (l : Lane)
  | outletFirst (l : Lane) (o : Outlet)
  | outletCount (l : Lane) (o : Outlet)
  | outletMax (l : Lane) (o : Outlet)
  | debounceTime | invertMask
  | mask (t : Target)
  | severity (l : Lane)
  | dryLimit
  | polarity (o : Output)
  | linkSilence
  deriving DecidableEq, Repr

/-! ### Instances (10.4) -/

/-- The instance of an item that has one. -/
def single (item : Item) : Nat → Option Item
  | 0 => some item
  | _ => none

def chanOfIndex : Nat → Option Chan
  | 0 => some .z1
  | 1 => some .z2
  | 2 => some .z3
  | 3 => some .z4
  | 4 => some .z5
  | 5 => some .ring
  | _ => none

/-- Channel instances: 0 to 5 lane A, 6 to 11 lane B. -/
def channelItem (n : Nat) : Option Item :=
  if n ≤ 5 then (chanOfIndex n).map (.limit .a) else (chanOfIndex (n - 6)).map (.limit .b)

def outletOfIndex : Nat → Option Outlet
  | 0 => some .inner
  | 1 => some .middle
  | 2 => some .outer
  | _ => none

/-- Outlet instances: 0 to 2 bar A, 3 to 5 bar B. -/
def outletItem (f : Lane → Outlet → Item) (n : Nat) : Option Item :=
  if n ≤ 2 then (outletOfIndex n).map (f .a) else (outletOfIndex (n - 3)).map (f .b)

def laneItem (f : Lane → Item) (n : Nat) : Option Item := (laneOfCode n).map f

/-- Line instances: L1 = 0, L2 = 1, L3 = 2. -/
def lineItem (f : Line → Item) : Nat → Option Item
  | 0 => some (f .l1)
  | 1 => some (f .l2)
  | 2 => some (f .l3)
  | _ => none

def maskItem : Nat → Option Item
  | 0 => some (.mask .holdA)
  | 1 => some (.mask .holdB)
  | 2 => some (.mask .stationTrip)
  | 3 => some (.mask .slurryStop)
  | _ => none

def polarityItem : Nat → Option Item
  | 0 => some (.polarity .armStop)
  | 1 => some (.polarity .slurryShutoff)
  | 2 => some (.polarity .stationReady)
  | _ => none

/-- The setting that an item id and an instance name (10.4). -/
def Item.ofCode (id inst : Nat) : Option Item :=
  match id with
  | 0x01 => single .glazeWarn inst
  | 0x02 => single .glazeLimit inst
  | 0x03 => single .condStart inst
  | 0x04 => single .condStop inst
  | 0x05 => single .cutGain inst
  | 0x06 => single .heightGain inst
  | 0x07 => single .padLife inst
  | 0x10 => single .stallLimit inst
  | 0x11 => single .windowLower inst
  | 0x12 => single .windowUpper inst
  | 0x13 => laneItem .homePreset inst
  | 0x14 => single .hubSize inst
  | 0x15 => laneItem .laneReach inst
  | 0x16 => single .condReach inst
  | 0x20 => channelItem inst
  | 0x21 => laneItem .rampRate inst
  | 0x22 => laneItem .softHold inst
  | 0x23 => single .supplyMin inst
  | 0x24 => single .supplyTime inst
  | 0x25 => single .tolerance inst
  | 0x26 => single .deviationTime inst
  | 0x30 => single .policy inst
  | 0x31 => single .parkRadius inst
  | 0x32 => single .sweepSpeed inst
  | 0x33 => single .sweepInner inst
  | 0x34 => single .sweepOuter inst
  | 0x35 => single .downforce inst
  | 0x36 => single .downforceLimit inst
  | 0x37 => single .dwellLimit inst
  | 0x38 => single .diskLifeLimit inst
  | 0x40 => lineItem .maxFlow inst
  | 0x41 => lineItem .recirculation inst
  | 0x42 => lineItem .primeCount inst
  | 0x43 => lineItem .primeFlow inst
  | 0x44 => lineItem .stopTimeout inst
  | 0x45 => lineItem .fallback inst
  | 0x46 => lineItem .pulsesPerLitre inst
  | 0x47 => laneItem .barMax inst
  | 0x48 => outletItem .outletFirst inst
  | 0x49 => outletItem .outletCount inst
  | 0x4A => outletItem .outletMax inst
  | 0x50 => single .debounceTime inst
  | 0x51 => single .invertMask inst
  | 0x52 => maskItem inst
  | 0x53 => laneItem .severity inst
  | 0x54 => single .dryLimit inst
  | 0x55 => polarityItem inst
  | 0x60 => single .linkSilence inst
  | _ => none

/-! ### Values in force (R181) -/

/-- The value in force of a setting, as GET returns it (R181). -/
def Item.value (g : Settings) : Item → Nat
  | .glazeWarn => g.map.glazeWarn
  | .glazeLimit => g.map.glazeLimit
  | .condStart => g.map.condStart
  | .condStop => g.map.condStop
  | .cutGain => g.map.cutGain
  | .heightGain => g.map.heightGain
  | .padLife => g.map.padLife
  | .stallLimit => g.tracker.stallLimit
  | .windowLower => g.tracker.windowLower
  | .windowUpper => g.tracker.windowUpper
  | .homePreset l => g.tracker.homePreset.get l
  | .hubSize => g.tracker.hubSize
  | .laneReach l => g.tracker.laneReach.get l
  | .condReach => g.tracker.condReach
  | .limit l c => (g.press.limit.get l).get c
  | .rampRate l => g.press.rampRate.get l
  | .softHold l => g.press.softHold.get l
  | .supplyMin => g.press.supplyMin
  | .supplyTime => g.press.supplyTime
  | .tolerance => g.press.tolerance
  | .deviationTime => g.press.deviationTime
  | .policy => g.cond.policy.code
  | .parkRadius => g.cond.parkRadius
  | .sweepSpeed => g.cond.sweepSpeed
  | .sweepInner => g.cond.sweepInner
  | .sweepOuter => g.cond.sweepOuter
  | .downforce => g.cond.downforce
  | .downforceLimit => g.cond.downforceLimit
  | .dwellLimit => g.cond.dwellLimit
  | .diskLifeLimit => g.cond.diskLifeLimit
  | .maxFlow k => g.slurry.maxFlow.get k
  | .recirculation k => g.slurry.recirculation.get k
  | .primeCount k => g.slurry.primeCount.get k
  | .primeFlow k => g.slurry.primeFlow.get k
  | .stopTimeout k => g.slurry.stopTimeout.get k
  | .fallback k => feedCode (g.slurry.fallback.get k)
  | .pulsesPerLitre k => g.slurry.pulsesPerLitre.get k
  | .barMax l => g.slurry.barMax.get l
  | .outletFirst l o => (g.slurry.outletFirst.get l).get o
  | .outletCount l o => (g.slurry.outletCount.get l).get o
  | .outletMax l o => (g.slurry.outletMax.get l).get o
  | .debounceTime => g.matrix.debounceTime
  | .invertMask => g.matrix.invertMask.toNat
  | .mask t => (g.matrix.masks.get t).toNat
  | .severity l => (g.matrix.severity.get l).code
  | .dryLimit => g.matrix.dryLimit
  | .polarity o => (g.matrix.polarity.get o).code
  | .linkSilence => g.linkSilence

def policyOfCode : Nat → Policy
  | 0 => .shared
  | _ => .clear
def severityOfCode : Nat → Severity
  | 0 => .soft
  | _ => .hard
def polarityOfCode : Nat → Polarity
  | 0 => .high
  | _ => .low

/-! ### Replacing one value (R180) -/

/-- The map's settings with one replaced; an item of another owner leaves them, as in the five that follow. -/
def MapSettings.put (v : Nat) (g : MapSettings) : Item → MapSettings
  | .glazeWarn => { g with glazeWarn := v }
  | .glazeLimit => { g with glazeLimit := v }
  | .condStart => { g with condStart := v }
  | .condStop => { g with condStop := v }
  | .cutGain => { g with cutGain := v }
  | .heightGain => { g with heightGain := v }
  | .padLife => { g with padLife := v }
  | _ => g

def TrackerSettings.put (v : Nat) (g : TrackerSettings) : Item → TrackerSettings
  | .stallLimit => { g with stallLimit := v }
  | .windowLower => { g with windowLower := v }
  | .windowUpper => { g with windowUpper := v }
  | .homePreset l => { g with homePreset := g.homePreset.set l v }
  | .hubSize => { g with hubSize := v }
  | .laneReach l => { g with laneReach := g.laneReach.set l v }
  | .condReach => { g with condReach := v }
  | _ => g

def PressureSettings.put (v : Nat) (g : PressureSettings) : Item → PressureSettings
  | .limit l c => { g with limit := g.limit.set l ((g.limit.get l).set c v) }
  | .rampRate l => { g with rampRate := g.rampRate.set l v }
  | .softHold l => { g with softHold := g.softHold.set l v }
  | .supplyMin => { g with supplyMin := v }
  | .supplyTime => { g with supplyTime := v }
  | .tolerance => { g with tolerance := v }
  | .deviationTime => { g with deviationTime := v }
  | _ => g

def CondSettings.put (v : Nat) (g : CondSettings) : Item → CondSettings
  | .policy => { g with policy := policyOfCode v }
  | .parkRadius => { g with parkRadius := v }
  | .sweepSpeed => { g with sweepSpeed := v }
  | .sweepInner => { g with sweepInner := v }
  | .sweepOuter => { g with sweepOuter := v }
  | .downforce => { g with downforce := v }
  | .downforceLimit => { g with downforceLimit := v }
  | .dwellLimit => { g with dwellLimit := v }
  | .diskLifeLimit => { g with diskLifeLimit := v }
  | _ => g

def SlurrySettings.put (v : Nat) (g : SlurrySettings) : Item → SlurrySettings
  | .maxFlow k => { g with maxFlow := g.maxFlow.set k v }
  | .recirculation k => { g with recirculation := g.recirculation.set k v }
  | .primeCount k => { g with primeCount := g.primeCount.set k v }
  | .primeFlow k => { g with primeFlow := g.primeFlow.set k v }
  | .stopTimeout k => { g with stopTimeout := g.stopTimeout.set k v }
  | .fallback k => { g with fallback := g.fallback.set k (lineOfCode v) }
  | .pulsesPerLitre k => { g with pulsesPerLitre := g.pulsesPerLitre.set k v }
  | .barMax l => { g with barMax := g.barMax.set l v }
  | .outletFirst l o => { g with outletFirst := g.outletFirst.set l ((g.outletFirst.get l).set o v) }
  | .outletCount l o => { g with outletCount := g.outletCount.set l ((g.outletCount.get l).set o v) }
  | .outletMax l o => { g with outletMax := g.outletMax.set l ((g.outletMax.get l).set o v) }
  | _ => g

def MatrixSettings.put (v : Nat) (g : MatrixSettings) : Item → MatrixSettings
  | .debounceTime => { g with debounceTime := v }
  | .invertMask => { g with invertMask := BitVec.ofNat 8 v }
  | .mask t => { g with masks := g.masks.set t (BitVec.ofNat 8 v) }
  | .severity l => { g with severity := g.severity.set l (severityOfCode v) }
  | .dryLimit => { g with dryLimit := v }
  | .polarity o => { g with polarity := g.polarity.set o (polarityOfCode v) }
  | _ => g

/-- The settings with one value replaced (R180). -/
def Settings.put (item : Item) (v : Nat) (g : Settings) : Settings where
  map := g.map.put v item
  tracker := g.tracker.put v item
  press := g.press.put v item
  cond := g.cond.put v item
  slurry := g.slurry.put v item
  matrix := g.matrix.put v item
  linkSilence := if item = .linkSilence then v else g.linkSilence

/-! ### Ranges and constraints (R180 step 2) -/

/-- lo ≤ v ≤ hi. -/
def between (lo hi v : Nat) : Bool := decide (lo ≤ v) && decide (v ≤ hi)

/-- The value lies in the item's range (10.4). -/
def Item.inRange (v : Nat) : Item → Bool
  | .glazeWarn => between 0 65535 v
  | .glazeLimit => between 1 65535 v
  | .condStart => between 1 65535 v
  | .condStop => between 0 65534 v
  | .cutGain => between 0 255 v
  | .heightGain => between 0 255 v
  | .padLife => between 100 4000 v
  | .stallLimit => between 500 10000 v
  | .windowLower => between 10 6000 v
  | .windowUpper => between 10 6000 v
  | .homePreset _ => between 0 45000 v
  | .hubSize => between 1 6 v
  | .laneReach _ => between 10000 20000 v
  | .condReach => between 1000 10000 v
  | .limit _ _ => between 0 1000 v
  | .rampRate _ => between 10 5000 v
  | .softHold _ => between 0 1000 v
  | .supplyMin => between 0 10000 v
  | .supplyTime => between 100 10000 v
  | .tolerance => between 5 200 v
  | .deviationTime => between 20 2000 v
  | .policy => between 0 1 v
  | .parkRadius => between 40000 45000 v
  | .sweepSpeed => between 5 200 v
  | .sweepInner => between 0 40000 v
  | .sweepOuter => between 0 40000 v
  | .downforce => between 0 500 v
  | .downforceLimit => between 0 500 v
  | .dwellLimit => between 1 64 v
  | .diskLifeLimit => between 1 16777215 v
  | .maxFlow _ => between 50 2000 v
  | .recirculation _ => true
  | .primeCount _ => decide (v ∈ [0, 64, 256, 1024, 4096])
  | .primeFlow _ => between 10 2000 v
  | .stopTimeout _ => between 50 5000 v
  | .fallback _ => between 0 3 v
  | .pulsesPerLitre _ => between 100 10000 v
  | .barMax _ => between 10 2000 v
  | .outletFirst _ _ => between 0 19 v
  | .outletCount _ _ => between 1 20 v
  | .outletMax _ _ => between 10 500 v
  | .debounceTime => between 0 15 v
  | .invertMask => between 0 255 v
  | .mask _ => between 0 255 v
  | .severity _ => between 0 1 v
  | .dryLimit => between 0 8 v
  | .polarity _ => between 0 1 v
  | .linkSilence => between 50 2000 v

/-- The order of the map's thresholds (R9). -/
def MapSettings.ordered (g : MapSettings) : Bool :=
  decide (g.condStop < g.condStart) && decide (g.condStart ≤ g.glazeLimit) && decide (g.glazeWarn ≤ g.glazeLimit)

/-- The recirculation flow of a line is at or below its max flow, and its fallback line is another line (R145). -/
def SlurrySettings.lineConsistent (g : SlurrySettings) (k : Line) : Bool :=
  decide (g.recirculation.get k ≤ g.maxFlow.get k) && decide (g.fallback.get k ≠ some k)

/-- Every constraint between settings (R180 step 2). -/
def Settings.consistent (g : Settings) : Bool :=
  g.map.ordered && decide (g.tracker.windowLower ≤ g.tracker.windowUpper) &&
    decide (g.cond.sweepInner < g.cond.sweepOuter) && g.slurry.lineConsistent .l1 && g.slurry.lineConsistent .l2 &&
    g.slurry.lineConsistent .l3

/-! ### Quiet conditions (R180 step 3) -/

/-- The item's quiet condition holds (10.4). -/
def Item.quiet (s : State) : Item → Bool
  | .glazeWarn | .glazeLimit | .condStart | .condStop | .cutGain | .heightGain | .padLife =>
      decide (s.cond.mode = .off)
  | .hubSize => s.hub.quiet
  | .laneReach l => s.hub.quiet && s.laneRaised l
  | .condReach => s.hub.quiet && decide (s.cond.state = .parked)
  | .parkRadius => decide (s.cond.state = .unreferenced) || decide (s.cond.state = .fault)
  | .sweepInner | .sweepOuter => decide (s.cond.mode ≠ .sweep)
  | .primeCount k => decide ((s.line k).state ≠ .priming)
  | .outletFirst l _ | .outletCount l _ => (s.bar l).feed.isNone
  | _ => true

/-! ### Effects of a change -/

/-- A stall limit at or below the running stall timer stalls the tracker at once (R39). -/
def State.stallLimitChanged (s : State) : State :=
  match s.tracker.stallTimer with
  | some t => if s.settings.tracker.stallLimit ≤ t then s.enterStalled else s
  | none => s

/-- A stop timeout lowered below a running last-pulse timer stops the line at once (R145, R130). -/
def State.stopTimeoutChanged (k : Line) (s : State) : State :=
  if (s.line k).timed ∧ s.settings.slurry.stopTimeout.get k ≤ (s.line k).lastPulse then s.lineStops k else s

/-- A bar max lowered below a bar's stored rate lowers the rate, and the flows are recomputed (R136, R139). -/
def State.barMaxChanged (l : Lane) (s : State) : State :=
  (s.modBar l fun b => { b with rate := min b.rate (s.settings.slurry.barMax.get l) }).recompute

/-- A new outlet max flow rewrites that outlet's valve duty alone (R139). -/
def State.outletMaxChanged (l : Lane) (o : Outlet) (s : State) : State :=
  s.modBar l fun b =>
    let x := b.outlets.get o
    { b with outlets := b.outlets.set o { x with valve := valveDuty ((s.settings.slurry.outletMax.get l).get o) x.served } }

/-- A link silence time at or below a running timer makes the link silent at once (R177). -/
def State.silenceTimeChanged (l : Lane) (s : State) : State :=
  if s.settings.linkSilence ≤ (s.links.silence.get l).timer then s.silenceExpiry l else s

/-- What a change of a setting brings, once the value is replaced; `before` is the state before it (R180). -/
def Item.changed (before s : State) : Item → State
  | .stallLimit => s.stallLimitChanged
  | .windowLower | .windowUpper => s.evaluateWindow
  | .hubSize | .laneReach _ | .condReach => s.evaluateAllInside
  | .limit l c => s.limitChanged l c
  | .softHold l => s.deriveDrive l
  | .downforceLimit => s.downforceCut
  | .diskLifeLimit => s.evaluateSpent.actIfParked
  | .maxFlow _ | .recirculation _ | .primeFlow _ => s.recompute
  | .stopTimeout k => s.stopTimeoutChanged k
  | .barMax l => s.barMaxChanged l
  | .outletMax l o => s.outletMaxChanged l o
  | .invertMask | .mask _ => s.takeTargets before
  | .linkSilence => (s.silenceTimeChanged .a).silenceTimeChanged .b
  | .glazeWarn | .glazeLimit | .condStart | .condStop | .cutGain | .heightGain | .padLife => s
  | .homePreset _ | .rampRate _ | .supplyMin | .supplyTime | .tolerance | .deviationTime => s
  | .policy | .parkRadius | .sweepSpeed | .sweepInner | .sweepOuter | .downforce | .dwellLimit => s
  | .primeCount _ | .fallback _ | .pulsesPerLitre _ | .outletFirst _ _ | .outletCount _ _ => s
  | .debounceTime | .severity _ | .dryLimit | .polarity _ => s

/-! ### SET and GET -/

/-- The six bytes of a SET or GET reply (10.1). -/
def settingReply (id inst v : Nat) : List Byte := byte1 id ++ byte1 inst ++ beBytes 4 v

/-- The refusal of a SET of a setting, if any: RANGE, then BUSY (R180 steps 2 and 3). -/
def State.setRefusal (s : State) (item : Item) (v : Nat) : Option Result :=
  if !item.inRange v || !(s.settings.put item v).consistent then some .range
  else if !item.quiet s then some .busy
  else none

/-- Replace a setting and take the effects of the change; the value in force again changes nothing (R180, log 34). -/
def State.applySetting (item : Item) (v : Nat) (s : State) : State :=
  if item.value s.settings = v then s else item.changed s (s.modSettings (Settings.put item v))

/-- SET after dispatch (R180). -/
def decideSet (id inst v : Nat) (s : State) : Answer :=
  match Item.ofCode id inst with
  | none => refuse .range s
  | some item =>
      match s.setRefusal item v with
      | some r => refuse r s
      | none => { state := s.applySetting item v, result := .ok, payload := settingReply id inst v }

/-- GET after dispatch (R181). -/
def decideGet (id inst : Nat) (s : State) : Answer :=
  match Item.ofCode id inst with
  | none => refuse .range s
  | some item => { state := s, result := .ok, payload := settingReply id inst (item.value s.settings) }

end Sys2Proof.Machine
end

