-- ==== Sys2Proof/Machine/Status.lean ====
section
/-!
DEFINITION. The status pages (R176, R179) from the blocks' report rules (R20, R40, R72, R97, R122, R146, R163), in the
encodings of 10_formats_and_settings.md. The byte layout within an item is log 13.
-/

namespace Sys2Proof.Machine
open Sys2Proof

/-! ### Items -/

def targetsBytes (t : Six Nat) : List Byte := t.toList.flatMap (beBytes 2)

/-- A measured flow in two bytes; above 65535 the bytes are a free value (log 12). -/
def measuredBytes (flow : Nat) : List Byte :=
  if flow ≤ 65535 then beBytes 2 flow else beBytes 2 (Config.flowFieldAbove65535 flow).toNat

/-- The number of bands in a state (R20). -/
def PadMap.countIn (m : PadMap) (st : BandState) : Nat := m.bands.countP fun b => decide (b.state = st)

/-- The numbers of bands in each of the four states (R20). -/
def bandCountBytes (m : PadMap) : List Byte :=
  [BandState.fresh, .glazing, .glazed, .worn].flatMap fun st => byte1 (m.countIn st)

/-- An arm's position, referenced flag and inside flag (R40). -/
def armBytes (a : ArmTrack) : List Byte := positionBytes a.count ++ boolByte a.referenced ++ boolByte a.inside

/-- A lane's cause set in four bytes: members, HARD members, active members, channels (10.1). -/
def causeSetBytes (s : State) (l : Lane) : List Byte :=
  let entry := fun (f : CauseEntry → Bool) (k : CauseKind) => (s.causes l).any fun e => decide (e.kind = k) && f e
  let channels := ((s.causes l).find? fun e => decide (e.kind = .pressureFault)).map (·.channels)
  setBytes 1 (CauseKind.all.map (entry fun _ => true)) ++
    setBytes 1 (CauseKind.all.map (entry fun e => decide (e.severity = .hard))) ++
    setBytes 1 (CauseKind.all.map fun k => entry (fun _ => true) k && s.causeActive l k) ++
    setBytes 1 ((channels.getD (.all false)).toList)

/-- The trip cause set in two bytes: members, then active members (10.1). -/
def tripSetBytes (s : State) : List Byte :=
  let member := fun c => decide (c ∈ s.matrix.tripCauses)
  setBytes 1 (TripCause.all.map member) ++ setBytes 1 (TripCause.all.map fun c => member c && s.tripActive c)

/-- A lane's items of the matrix: level, remote hold, dry count, cause set (R163). -/
def laneHoldBytes (s : State) (l : Lane) : List Byte :=
  byte1 (s.holdLevel l).code ++ optCode ((s.matrix.remoteHold.get l).map Severity.code) ++
    byte1 (s.matrix.dryCount.get l) ++ causeSetBytes s l

/-- The wait list: a count and two claimant codes, oldest first (10.1). -/
def waitListBytes (w : List Arm) : List Byte :=
  byte1 w.length ++ ((w.map armCode ++ [0, 0]).take 2).flatMap byte1

/-- A bar's items on port S and on its own port alike (R146). DESIGN CHOICE (log 37): wet is 1 and dry 0. -/
def barBytes (b : Bar) : List Byte :=
  byte1 (feedCode b.feed) ++ boolByte b.fallback ++
    (match b.resume with
      | some r => presentByte ++ byte1 (feedCode (some r.line)) ++ boolByte r.fallback
      | none => [0, 0, 0]) ++
    beBytes 2 b.rate ++ b.weights.toList.flatMap byte1 ++ boolByte b.wet

/-- A line's items (R146). -/
def lineBytes (x : SupplyLine) : List Byte :=
  byte1 x.state.code ++ beBytes 2 x.prime ++ measuredBytes x.measured ++ beBytes 2 x.demand ++ boolByte x.servedLow ++
    beBytes 2 x.setpoint ++ beBytes 2 x.duty

/-- The current target: presence, the kind in the order of R100, and the band. -/
def condTargetBytes : Option CondTarget → List Byte
  | none => [0, 0, 0]
  | some (.band k) => presentByte ++ [0] ++ byte1 k
  | some .sweepStart => presentByte ++ [1, 0]
  | some .sweepResume => presentByte ++ [2, 0]
  | some .park => presentByte ++ [3, 0]

/-- The target band, or an absent mark (R122). -/
def condTargetBand : Option CondTarget → Option Nat
  | some (.band k) => some k
  | _ => none

/-- A queue entry (R104). -/
def queueEntryBytes (e : QueueEntry) : List Byte := byte1 e.band ++ beBytes 2 e.rankedWear ++ optCode e.rest

/-- The first four entries of the queue, missing ones as zeros (R122). -/
def queueHeadBytes (q : List QueueEntry) : List Byte :=
  (q.flatMap queueEntryBytes ++ List.replicate 20 0).take 20

/-- A set of ports as one byte (10.2). -/
def portSetBytes (f : Port → Bool) : List Byte := setBytes 1 [f .s, f .a, f .b]

/-- The note of a port's box: presence and sender (R176). -/
def noteSenderBytes (n : Option Note) : List Byte := optCode (n.map fun x => portCode x.sender)

def noteLength (n : Option Note) : Nat := (n.map fun x => x.bytes.length).getD 0

/-! ### Pages of port S -/

/-- The five bytes every page opens with (R179). -/
def pageOpening (s : State) : List Byte := beBytes 4 s.map.revCount.toNat ++ byte1 s.matrix.station.code

/-- Page 0 of port S: the summary (R179). DESIGN CHOICE (log 37): the lanes' items go lane by lane, state then hold level; the
box flags are one bit field, as 10.2 gives the notice-set flags; a box sender is its code alone, 0 for an empty box; each silent
flag is a byte. -/
def summaryPage (s : State) : List Byte :=
  boolByte s.map.valid ++ bandCountBytes s.map ++ byte1 s.tracker.state.code ++ holderBytes s.hub.holder ++
    ([Lane.a, .b].flatMap fun l => byte1 (s.lane l).state.code ++ byte1 (s.holdLevel l).code) ++
    byte1 s.cond.state.code ++ byte1 s.cond.mode.code ++
    ([Line.l1, .l2, .l3].flatMap fun k => byte1 (s.line k).state.code) ++
    ([Lane.a, .b].flatMap fun l => byte1 (feedCode (s.bar l).feed)) ++
    portSetBytes (fun p => !(s.port p).notices.isEmpty) ++ portSetBytes (fun p => (s.port p).noteBox.isSome) ++
    ([Port.s, .a, .b].flatMap fun p => byte1 (((s.port p).noteBox.map fun n => portCode n.sender).getD 0)) ++
    ([Port.s, .a, .b].flatMap fun p => byte1 (noteLength (s.port p).noteBox)) ++
    ([Lane.a, .b].flatMap fun l => boolByte (s.links.silence.get l).silent)

/-- Page 1 of port S: the map's R20 items and the tracker's R40 items (R179). DESIGN CHOICE (log 37): the arms' items go arm by
arm, count, referenced flag, inside flag. -/
def mapTrackerPage (s : State) : List Byte :=
  boolByte s.map.valid ++ restoredBytes s.map ++ beBytes 4 s.map.revCount.toNat ++ bandCountBytes s.map ++
    byte1 s.tracker.state.code ++ byte1 s.tracker.suspectRun ++ beBytes 3 s.tracker.period ++
    beBytes 2 s.tracker.speed ++ boolByte s.tracker.inWindow ++
    ([Arm.a, .b, .cond].flatMap fun m => armBytes (s.arm m))

/-- Page 2 of port S: the arbiter's R72 items and the link items of R176. DESIGN CHOICE (log 37): for each port the box's
presence and sender, the note's length, 0 for an empty box, and a byte that is 1 while the notice set is empty; after the
three ports a byte for each silent flag. -/
def hubLinkPage (s : State) : List Byte :=
  holderBytes s.hub.holder ++ waitListBytes s.hub.waitList ++
    setBytes 1 [s.hub.intruders.a, s.hub.intruders.b, s.hub.intruders.cond] ++ byte1 s.armsInside.length ++
    ([Port.s, .a, .b].flatMap fun p =>
      noteSenderBytes (s.port p).noteBox ++ byte1 (noteLength (s.port p).noteBox) ++
        boolByte (s.port p).notices.isEmpty) ++
    ([Lane.a, .b].flatMap fun l => boolByte (s.links.silence.get l).silent)

/-- Pages 3 and 5 of port S, and page 1 of a carrier port: a lane's state and targets (R97). -/
def laneTargetsPage (s : State) (l : Lane) : List Byte :=
  let x := s.lane l
  byte1 x.state.code ++ optCode (x.pending.map PendingApply.code) ++ targetsBytes x.active ++ targetsBytes x.staged ++
    targetsBytes (x.channels.map (·.effective)) ++ byte1 x.gain ++ byte1 x.bucket ++ boolByte x.compClamped ++
    setBytes 1 (s.faultChannels l).toList

/-- Pages 4 and 6 of port S, and page 2 of a carrier port: a lane's commands and readbacks (R97). -/
def laneCommandsPage (s : State) (l : Lane) : List Byte :=
  let x := s.lane l
  targetsBytes (x.channels.map (·.command)) ++ targetsBytes (x.channels.map (·.readback)) ++ boolByte x.supplyLow ++
    boolByte x.compEnable ++
    (match x.compPosition with
      | some q => presentByte ++ beBytes 4 q.position ++ boolByte q.referenced
      | none => [0, 0, 0, 0, 0, 0])

/-- The supply reading and the supply-low timer (R97). -/
def supplyBytes (s : State) : List Byte := beBytes 2 s.press.supplyReading ++ beBytes 2 s.press.supplyTimer

/-- Page 7 of port S: the conditioner's R122 items. -/
def condPage (s : State) : List Byte :=
  let c := s.cond
  byte1 c.mode.code ++ byte1 s.settings.cond.policy.code ++ byte1 c.state.code ++ condTargetBytes c.target ++
    byte1 c.dwell ++ positionBytes c.stepPos ++ beBytes 2 c.dfCommand ++ beBytes 2 c.dfReadback ++
    beBytes 3 c.diskLife ++ boolByte c.spent ++ optCode (c.faultKind.map FaultKind.code) ++ byte1 c.queue.length ++
    queueHeadBytes c.queue

/-- Page 8 of port S: the lines' R146 items. -/
def linesPage (s : State) : List Byte := [Line.l1, .l2, .l3].flatMap fun k => lineBytes (s.line k)

/-- Pages 9 and 10 of port S: a bar's R146 items and those of its three outlets. -/
def barPage (s : State) (l : Lane) : List Byte :=
  barBytes (s.bar l) ++
    (s.bar l).outlets.toList.flatMap fun o => beBytes 2 o.demand ++ beBytes 2 o.served ++ beBytes 2 o.valve

/-- Page 11 of port S: the matrix's R163 items. DESIGN CHOICE (log 37): the accepted levels and the activities of the eight
inputs are one bit field each. -/
def matrixPage (s : State) : List Byte :=
  let g := s.settings.matrix
  let targets := [Target.holdA, .holdB, .stationTrip, .slurryStop]
  setBytes 1 ((List.finRange 8).map fun i => (s.matrix.input i).accepted) ++
    setBytes 1 ((List.finRange 8).map s.inputActive) ++ byte1 g.invertMask.toNat ++
    (targets.flatMap fun t => byte1 (g.masks.get t).toNat) ++ setBytes 1 (targets.map s.targetActive) ++
    byte1 g.severity.a.code ++ byte1 g.severity.b.code ++ byte1 s.matrix.station.code ++ tripSetBytes s ++
    laneHoldBytes s .a ++ laneHoldBytes s .b

/-! ### Pages of a carrier port -/

/-- A band under the lane's carrier is GLAZED (R20). -/
def State.glazedUnder (s : State) (l : Lane) : Bool :=
  bandIndices.any fun k => decide (0 < s.laneChord l k) && decide ((s.map.band k).state = .glazed)

/-- A lane's standing: HOLDER, FIRST WAITING, SECOND WAITING, NONE (R72). -/
def Hub.standing (h : Hub) (m : Arm) : Nat :=
  if h.holder = some m then 0 else if m ∈ h.waitList then h.waitList.idxOf m + 1 else 3

/-- Page 0 of a carrier port: the lane's summary (R179). DESIGN CHOICE (log 37): whether a band is WORN, whether one under the
carrier is GLAZED, whether the hub is free and whether the lane's arm is an intruder (R20, R72) are a byte each, 1 for yes. -/
def laneSummaryPage (s : State) (l : Lane) : List Byte :=
  boolByte s.map.valid ++ beBytes 4 s.map.revCount.toNat ++ boolByte s.map.anyWorn ++ boolByte (s.glazedUnder l) ++
    byte1 s.tracker.state.code ++ beBytes 2 s.tracker.speed ++ boolByte s.tracker.inWindow ++ armBytes (s.arm l.arm) ++
    byte1 (s.hub.standing l.arm) ++ boolByte s.hub.holder.isNone ++ boolByte (s.hub.intruders.get l.arm) ++
    byte1 s.matrix.station.code ++ laneHoldBytes s l ++ byte1 s.cond.state.code ++
    optCode (condTargetBand s.cond.target) ++ noteSenderBytes (s.port l.port).noteBox ++
    boolByte (s.links.silence.get l).silent

/-- Page 3 of a carrier port: the port's own bar (R146). -/
def ownBarPage (s : State) (l : Lane) : List Byte :=
  barBytes (s.bar l) ++ ((s.bar l).outlets.toList.flatMap fun o => beBytes 2 o.served) ++
    optCode ((s.bar l).feed.map fun k => (s.line k).state.code)

/-! ### STATUS READ -/

/-- The contents of a page after its opening; none beyond the last page of the port (R179). -/
def pageBody (s : State) (p : Port) (page : Nat) : Option (List Byte) :=
  match p.lane?, page with
  | none, 0 => some (summaryPage s)
  | none, 1 => some (mapTrackerPage s)
  | none, 2 => some (hubLinkPage s)
  | none, 3 => some (laneTargetsPage s .a)
  | none, 4 => some (laneCommandsPage s .a ++ supplyBytes s)
  | none, 5 => some (laneTargetsPage s .b)
  | none, 6 => some (laneCommandsPage s .b)
  | none, 7 => some (condPage s)
  | none, 8 => some (linesPage s)
  | none, 9 => some (barPage s .a)
  | none, 10 => some (barPage s .b)
  | none, 11 => some (matrixPage s)
  | some l, 0 => some (laneSummaryPage s l)
  | some l, 1 => some (laneTargetsPage s l)
  | some l, 2 => some (laneCommandsPage s l ++ supplyBytes s)
  | some l, 3 => some (ownBarPage s l)
  | _, _ => none

/-- STATUS READ after dispatch (R176, R179): the empty payload names page 0. -/
def decideStatusRead (p : Port) (page : Option Nat) (s : State) : Answer :=
  match pageBody s p (page.getD 0) with
  | none => refuse .range s
  | some body => { state := s, result := .ok, payload := pageOpening s ++ body }

end Sys2Proof.Machine
end

