-- ==== Sys2Proof/Machine/Links.lean ====
section
/-!
DEFINITION. The link interface: roles and dispatch (R169), replies (R168), its own requests (R172 to R175), frames and
slots (R166, R167, R177), and the RESET input (R162, R165, R168, R178).
-/

namespace Sys2Proof.Machine
open Sys2Proof

/-! ### The link interface's own requests -/

/-- NOTICES READ (R172). -/
def decideNoticesRead (p : Port) (s : State) : Answer :=
  { state := s.modPort p fun k => { k with notices := [] }
    result := .ok
    payload := noticeBytes (s.port p).notices }

/-- NOTE SEND after dispatch (R173). -/
def decideNoteSend (p : Port) (recipient : Nat) (bytes : List Byte) (s : State) : Answer :=
  match portOfCode recipient with
  | none => refuse .range s
  | some q =>
      if q = p then refuse .range s
      else if (s.port q).noteBox.isSome then refuse .boxFull s
      else done ((s.modPort q fun k => { k with noteBox := some { sender := p, bytes := bytes } }).file q .noteArrived)

/-- NOTE TAKE (R174). -/
def decideNoteTake (p : Port) (s : State) : Answer :=
  match (s.port p).noteBox with
  | none => refuse .boxEmpty s
  | some n =>
      { state := (s.modPort p fun k => { k with noteBox := none }).file n.sender .noteTaken
        result := .ok
        payload := byte1 (portCode n.sender) ++ n.bytes }

/-- IDENT READ (R175, 10.1). -/
def decideIdentRead (s : State) : Answer :=
  { state := s
    result := .ok
    payload := beBytes 2 Config.vendorCode ++ beBytes 2 Config.partCode ++ byte1 Config.revision ++
      beBytes 6 Config.stationSerial.toNat }

/-! ### Dispatch (R169) -/

/-- The role table: whether a port may send a kind (R169). -/
def permitted (p : Port) : Kind → Bool
  | .identRead | .statusRead | .noticesRead | .noteSend | .noteTake | .get | .mapRead | .remoteHold | .resume => true
  | .set | .mapRestore | .padReset | .chordLoad | .hubForceRelease | .gainLoad | .condMode | .condReset | .diskReset
  | .lineStart | .lineRestart | .lineStop | .remoteTrip | .tripClear | .stationRestart => decide (p = .s)
  | .hubClaim | .hubRelease | .profileStage | .touchdown | .release | .feedSelect | .rateSet => decide (p ≠ .s)

/-- The payload of the request has a length that the kind allows on the port (R169 step 3, 10.1). -/
def lengthOk (p : Port) : Request → Bool
  | .noteSend _ bytes => between 1 16 bytes.length
  | .mapRestore entries => between 1 7 entries.length
  | .chordLoad _ chords => decide (chords.length = 20)
  | .gainLoad _ _ gains => decide (gains.length = 8)
  | .remoteHold lane _ => decide (lane.isSome = p.lane?.isNone)
  | .resume lane => decide (lane.isSome = p.lane?.isNone)
  | _ => true

/-- The rule that decides a request that has passed dispatch (R169). -/
def decideRequest (p : Port) (s : State) : Request → Answer
  | .identRead => decideIdentRead s
  | .statusRead page => decideStatusRead p page s
  | .noticesRead => decideNoticesRead p s
  | .noteSend recipient bytes => decideNoteSend p recipient bytes s
  | .noteTake => decideNoteTake p s
  | .get item inst => decideGet item inst s
  | .set item inst value => decideSet item inst value s
  | .mapRead first count => decideMapRead first count s
  | .mapRestore entries => decideMapRestore entries s
  | .padReset => decidePadReset s
  | .chordLoad lane chords => decideChordLoad lane chords s
  | .hubClaim => decideHubClaim p s
  | .hubRelease => decideHubRelease p s
  | .hubForceRelease => decideHubForceRelease s
  | .profileStage targets mode => decideProfileStage p targets mode s
  | .touchdown => decideTouchdown p s
  | .release => decideRelease p s
  | .gainLoad lane enable gains => decideGainLoad lane enable gains s
  | .condMode mode => decideCondMode mode s
  | .condReset => decideCondReset s
  | .diskReset count => decideDiskReset count s
  | .lineStart line => decideLineStart line s
  | .lineRestart line => decideLineRestart line s
  | .lineStop line => decideLineStop line s
  | .feedSelect line => decideFeedSelect p line s
  | .rateSet rate weights => decideRateSet p rate weights s
  | .remoteHold lane action => decideRemoteHold p lane action s
  | .remoteTrip action => decideRemoteTrip action s
  | .resume lane => decideResume p lane s
  | .tripClear => decideTripClear s
  | .stationRestart => decideStationRestart s

/-- Dispatch of a request whose kind is known: role, length, then the deciding rule (R169). -/
def dispatch (p : Port) (r : Request) (s : State) : Answer :=
  if !permitted p r.kind then refuse .role s
  else if !lengthOk p r then refuse .length s
  else decideRequest p s r

/-- Dispatch of the bytes of a request: unknown kind, role, length, then the deciding rule (R169). -/
def dispatchBytes (p : Port) (kind : Byte) (payload : List Byte) (s : State) : Answer :=
  match Kind.ofByte kind with
  | none => refuse .unknownKind s
  | some k =>
      if !permitted p k then refuse .role s
      else
        match Request.ofPayload p k payload with
        | none => refuse .length s
        | some r => decideRequest p s r

/-! ### Replies (R168) -/

/-- The flags of a reply composed on a port for an answer (R168). -/
def Answer.flags (a : Answer) (p : Port) : ReplyFlags where
  overrun := (a.state.port p).overrun
  crcSeen := (a.state.port p).crcSeen
  attention := !(a.state.port p).notices.isEmpty
  clamped := a.clamped
  noWeight := a.noWeight
  feedNotRestored := a.feedNotRestored

/-- The reply to a request, but for its tag (R168). -/
def Answer.reply (a : Answer) (p : Port) (kind : Byte) : Reply where
  kind := kind
  result := a.result
  flags := a.flags p
  payload := a.payload

/-- Compose the reply; the port's OVERRUN and CRC_SEEN flags are cleared at that moment (R168). -/
def Answer.compose (a : Answer) (p : Port) (kind : Byte) : State :=
  a.state.modPort p fun k => { k with overrun := false, crcSeen := false, reply := some (a.reply p kind) }

/-- The requests that change the band records, which the receivers of a map updated event read as they stand when they take it
(R12, R17, R56). A CHORD LOAD is none: a close taken before it uses the old table, through the map updated event too (R7). -/
def changesRecords : Kind → Bool
  | .padReset | .mapRestore => true
  | _ => false

/-- What earlier commands have brought about is taken before a request of a kind, so that a trip, a close or a hand-off is
wholly made or not begun when the request is taken (R176); a map updated event waits behind a request that changes the
band records (R56; log 2). -/
def State.settledFor (k : Option Kind) (s : State) : State :=
  if k.any changesRecords then s.settledBeforeMap else s.settled

/-- A request of another kind arrives on a port: its frame is heard (R177), and what is outstanding is taken (log 2). -/
def State.heard (p : Port) (s : State) : State := (s.hearFrame p).settled

/-- A request of a kind arrives on a port: its frame is heard (R177), and what is outstanding is taken (R56; log 2). -/
def State.heardFor (p : Port) (k : Kind) (s : State) : State := (s.hearFrame p).settledFor (some k)

/-- A request arrives on a port, is taken and its reply composed (R168, R169, R177; log 1). -/
def answerRequest (p : Port) (r : Request) (s : State) : State :=
  (dispatch p r (s.heardFor p r.kind)).compose p r.kind.byte

/-! ### Frames and slots (R166, R167) -/

/-- A frame error: CRC_SEEN, and hunting again (R166). -/
def State.frameError (p : Port) (s : State) : State :=
  s.modPort p fun k => { k with collecting := false, crcSeen := true }

def execFrameError (p : Port) (_finding : FrameFinding) (s : State) : Host.Outcome State Fault Refusal :=
  .next (s.frameError p)

/-- More than 100 µs between two bytes of a frame (R166); outside a frame no such time runs. -/
def State.interByteTimeout (p : Port) (s : State) : State := if (s.port p).collecting then s.frameError p else s

def execInterByteTimeout (p : Port) (s : State) : Host.Outcome State Fault Refusal := .next (s.interByteTimeout p)

/-- A sync byte: it starts the collection of a frame while hunting, and is a byte of the frame while collecting (R166). -/
def State.syncByte (p : Port) (s : State) : State := s.modPort p fun k => { k with collecting := true }

def execSyncByte (p : Port) (s : State) : Host.Outcome State Fault Refusal := .next (s.syncByte p)

/-- Send the reply composed last, with the tag of the request in process; nothing goes out while RESET is asserted (R168). -/
def State.sendReply (p : Port) (tag : Byte) (s : State) : State :=
  s.modPort p fun k => { k with sending := if s.resetAsserted then none else k.reply.map (replyFrame tag) }

/-- The request in process is taken, once what came before it is: dispatched, answered, and its reply sent (R167, R168;
log 2). -/
def State.takeRequest (p : Port) (q : SlotRequest) (s : State) : State :=
  let found := (s.modPort p fun k => { k with inProcess := some q }).settledFor (Kind.ofByte q.kind)
  ((dispatchBytes p q.kind q.payload found).compose p q.kind).sendReply p q.tag

/-- A valid frame handed to the slots (R167). -/
def State.handToSlots (p : Port) (q : SlotRequest) (s : State) : State :=
  match (s.port p).inProcess, (s.port p).waiting with
  | none, _ => s.takeRequest p q
  | some _, none => s.modPort p fun k => { k with waiting := some q }
  | some _, some _ => s.modPort p fun k => { k with overrun := true }

/-- A frame and its two CRC bytes, judged at the last byte (R166, log 7). -/
def State.frame (p : Port) (q : SlotRequest) (crc : BitVec 16) (s : State) : State :=
  if 60 < q.payload.length ∨ crc ≠ requestCrc q.tag q.kind q.payload then s.frameError p
  else ((s.modPort p fun k => { k with collecting := false }).hearFrame p).handToSlots p q

def execValidFrame (p : Port) (tag kind : Byte) (payload : List Byte) (crc : BitVec 16) (s : State) :
    Host.Outcome State Fault Refusal := .next (s.frame p ⟨tag, kind, payload⟩ crc)

/-- The last byte of a reply has been sent: the slot empties, and a waiting request is taken at once (R167). -/
def State.replySent (p : Port) (s : State) : State :=
  if (s.port p).sending.isSome then
    let s' := s.modPort p fun k => { k with sending := none, inProcess := none, waiting := none }
    match (s.port p).waiting with
    | some q => s'.takeRequest p q
    | none => s'
  else s

def execReplySent (p : Port) (s : State) : Host.Outcome State Fault Refusal := .next (s.replySent p)

/-! ### The RESET input -/

/-- RESET is asserted: every transmission stops, and the pins, attention lines and transmit pairs follow
`resetAsserted` (R162, R165, R168). -/
def State.assertReset (s : State) : State :=
  (({ s with resetAsserted := true }.modPort .s fun k => { k with sending := none }).modPort .a fun k =>
    { k with sending := none }).modPort .b fun k => { k with sending := none }

def execResetAsserted (s : State) : Host.Outcome State Fault Refusal := .next s.assertReset

/-- The matrix after a hard reset; the levels of the pins are the outside's (R149, R164). -/
def Matrix.hardReset (m : Matrix) : Matrix :=
  { Matrix.reset with inputs := (List.finRange 8).map fun i => { InterlockInput.reset with pin := (m.input i).pin } }

/-- Power-on or the release of RESET: every block in its hard-reset state (00_scope.md; R20, R40, R71, R98, R123,
R147, R164, R178, R181). The waiting commands stay, which are not the part's (log 1, log 8). -/
def State.hardReset (s : State) : State :=
  { State.reset with matrix := s.matrix.hardReset, pending := s.pending }

def execHardReset (s : State) : Host.Outcome State Fault Refusal := .next s.hardReset

end Sys2Proof.Machine
end

