-- ==== Sys2Proof/Machine/Requests.lean ====
section
/-!
DEFINITION. The request rows: each is one request taken on a port, dispatched by R169, decided by the rule named, and
answered by R168 (log 1).
-/

namespace Sys2Proof.Machine
open Sys2Proof

/-- IDENT READ (R175). -/
def execIdentRead (p : Port) (s : State) : Host.Outcome State Fault Refusal :=
  .next (answerRequest p .identRead s)

/-- STATUS READ (R176, R179). -/
def execStatusRead (p : Port) (page : Option Nat) (s : State) : Host.Outcome State Fault Refusal :=
  .next (answerRequest p (.statusRead page) s)

/-- NOTICES READ (R172). -/
def execNoticesRead (p : Port) (s : State) : Host.Outcome State Fault Refusal :=
  .next (answerRequest p .noticesRead s)

/-- NOTE SEND (R173). -/
def execNoteSend (p : Port) (recipient : Nat) (bytes : List Byte) (s : State) : Host.Outcome State Fault Refusal :=
  .next (answerRequest p (.noteSend recipient bytes) s)

/-- NOTE TAKE (R174). -/
def execNoteTake (p : Port) (s : State) : Host.Outcome State Fault Refusal :=
  .next (answerRequest p .noteTake s)

/-- GET (R181). -/
def execGet (p : Port) (item inst : Nat) (s : State) : Host.Outcome State Fault Refusal :=
  .next (answerRequest p (.get item inst) s)

/-- SET (R180). -/
def execSet (p : Port) (item inst value : Nat) (s : State) : Host.Outcome State Fault Refusal :=
  .next (answerRequest p (.set item inst value) s)

/-- MAP READ (R18). -/
def execMapRead (p : Port) (first count : Nat) (s : State) : Host.Outcome State Fault Refusal :=
  .next (answerRequest p (.mapRead first count) s)

/-- MAP RESTORE (R14). -/
def execMapRestore (p : Port) (entries : List RestoreEntry) (s : State) : Host.Outcome State Fault Refusal :=
  .next (answerRequest p (.mapRestore entries) s)

/-- PAD RESET (R12). -/
def execPadReset (p : Port) (s : State) : Host.Outcome State Fault Refusal :=
  .next (answerRequest p .padReset s)

/-- CHORD LOAD (R7). -/
def execChordLoad (p : Port) (lane : Nat) (chords : List Nat) (s : State) : Host.Outcome State Fault Refusal :=
  .next (answerRequest p (.chordLoad lane chords) s)

/-- HUB CLAIM (R60). -/
def execHubClaim (p : Port) (s : State) : Host.Outcome State Fault Refusal :=
  .next (answerRequest p .hubClaim s)

/-- HUB RELEASE (R62). -/
def execHubRelease (p : Port) (s : State) : Host.Outcome State Fault Refusal :=
  .next (answerRequest p .hubRelease s)

/-- HUB FORCE RELEASE (R65). -/
def execHubForceRelease (p : Port) (s : State) : Host.Outcome State Fault Refusal :=
  .next (answerRequest p .hubForceRelease s)

/-- PROFILE STAGE (R75). -/
def execProfileStage (p : Port) (targets : Six Nat) (mode : Nat) (s : State) : Host.Outcome State Fault Refusal :=
  .next (answerRequest p (.profileStage targets mode) s)

/-- TOUCHDOWN (R84). -/
def execTouchdown (p : Port) (s : State) : Host.Outcome State Fault Refusal :=
  .next (answerRequest p .touchdown s)

/-- RELEASE (R87). -/
def execRelease (p : Port) (s : State) : Host.Outcome State Fault Refusal :=
  .next (answerRequest p .release s)

/-- GAIN LOAD (R79). -/
def execGainLoad (p : Port) (lane enable : Nat) (gains : List Nat) (s : State) : Host.Outcome State Fault Refusal :=
  .next (answerRequest p (.gainLoad lane enable gains) s)

/-- COND MODE (R101). -/
def execCondMode (p : Port) (mode : Nat) (s : State) : Host.Outcome State Fault Refusal :=
  .next (answerRequest p (.condMode mode) s)

/-- COND RESET (R119). -/
def execCondReset (p : Port) (s : State) : Host.Outcome State Fault Refusal :=
  .next (answerRequest p .condReset s)

/-- DISK RESET (R120). -/
def execDiskReset (p : Port) (count : Nat) (s : State) : Host.Outcome State Fault Refusal :=
  .next (answerRequest p (.diskReset count) s)

/-- LINE START (R125). -/
def execLineStart (p : Port) (line : Nat) (s : State) : Host.Outcome State Fault Refusal :=
  .next (answerRequest p (.lineStart line) s)

/-- LINE RESTART (R126). -/
def execLineRestart (p : Port) (line : Nat) (s : State) : Host.Outcome State Fault Refusal :=
  .next (answerRequest p (.lineRestart line) s)

/-- LINE STOP (R127). -/
def execLineStop (p : Port) (line : Nat) (s : State) : Host.Outcome State Fault Refusal :=
  .next (answerRequest p (.lineStop line) s)

/-- FEED SELECT (R135). -/
def execFeedSelect (p : Port) (line : Nat) (s : State) : Host.Outcome State Fault Refusal :=
  .next (answerRequest p (.feedSelect line) s)

/-- RATE SET (R136). -/
def execRateSet (p : Port) (rate : Nat) (weights : Three Nat) (s : State) : Host.Outcome State Fault Refusal :=
  .next (answerRequest p (.rateSet rate weights) s)

/-- REMOTE HOLD (R151). -/
def execRemoteHold (p : Port) (lane : Option Nat) (action : Nat) (s : State) : Host.Outcome State Fault Refusal :=
  .next (answerRequest p (.remoteHold lane action) s)

/-- REMOTE TRIP (R151). -/
def execRemoteTrip (p : Port) (action : Nat) (s : State) : Host.Outcome State Fault Refusal :=
  .next (answerRequest p (.remoteTrip action) s)

/-- RESUME (R156). -/
def execResume (p : Port) (lane : Option Nat) (s : State) : Host.Outcome State Fault Refusal :=
  .next (answerRequest p (.resume lane) s)

/-- TRIP CLEAR (R159). -/
def execTripClear (p : Port) (s : State) : Host.Outcome State Fault Refusal :=
  .next (answerRequest p .tripClear s)

/-- STATION RESTART (R160). -/
def execStationRestart (p : Port) (s : State) : Host.Outcome State Fault Refusal :=
  .next (answerRequest p .stationRestart s)

end Sys2Proof.Machine
end

