-- ==== Sys2Proof/Machine/Signals.lean ====
section
/-!
DEFINITION. The rows of what reaches the part by its pins, sensors and timers: edges, pulses, samples, expiries and the
completions of moves. Each finds every effect of earlier commands taken (log 2) and is then the operation of its block.
-/

namespace Sys2Proof.Machine
open Sys2Proof

/-! ### Platen and arms -/

/-- An edge on a platen quadrature channel (R21). -/
def execPlatenEncoderCount (e : PlatenEdge) (s : State) : Host.Outcome State Fault Refusal :=
  .next (s.settled.platenCount e)

/-- A rising edge of the platen index input (R24, R27; log 5). -/
def execIndexEdge (elapsed : Nat) (s : State) : Host.Outcome State Fault Refusal :=
  .next (s.settled.indexEdge elapsed)

/-- The stall timer reaches the stall limit (R31; log 4). -/
def execStallTimerExpiry (s : State) : Host.Outcome State Fault Refusal :=
  .next s.settled.stallExpiry

/-- A count of an arm's scale (R36). -/
def execArmEncoderCount (m : Arm) (e : ArmEdge) (s : State) : Host.Outcome State Fault Refusal :=
  .next (s.settled.armCount m e)

/-- A rising edge of an arm's home switch (R36). -/
def execHomeSwitchEdge (m : Arm) (s : State) : Host.Outcome State Fault Refusal :=
  .next (s.settled.homeEdge m)

/-! ### Head pressures -/

/-- The 1 ms update of both lanes and the supply (R82). -/
def execPressureUpdate (adc : Lanes (Six (BitVec 12))) (supply : BitVec 12) (s : State) : Host.Outcome State Fault Refusal :=
  .next (s.settled.pressureUpdate adc supply)

/-- A touchdown completes (R86; log 6). -/
def execTouchdownDone (l : Lane) (s : State) : Host.Outcome State Fault Refusal :=
  .next (s.settled.touchdownDone l)

/-- A release completes (R88; log 6). -/
def execReleaseDone (l : Lane) (s : State) : Host.Outcome State Fault Refusal :=
  .next (s.settled.releaseDone l)

/-- The supply-low timer reaches the supply time (R92; log 4). -/
def execSupplyTimeExpiry (s : State) : Host.Outcome State Fault Refusal :=
  .next s.settled.supplyTimeExpiry

/-- A channel's deviation timer reaches the deviation time (R93; log 4). -/
def execDeviationTimeExpiry (l : Lane) (c : Chan) (s : State) : Host.Outcome State Fault Refusal :=
  .next (s.settled.deviationExpiry l c)

/-! ### The conditioner -/

/-- One step of the arm (R110, R115). -/
def execCondStep (s : State) : Host.Outcome State Fault Refusal :=
  .next s.settled.condStep

/-- One step of HOMING (R109). -/
def execHomingStep (homeActive : Bool) (s : State) : Host.Outcome State Fault Refusal :=
  .next (s.settled.homingStep homeActive)

/-- The 1 ms update of the downforce channel (R111). -/
def execDownforceUpdate (adc : BitVec 12) (diskUp : Bool) (s : State) : Host.Outcome State Fault Refusal :=
  .next (s.settled.downforceUpdate adc diskUp)

/-- A lowering completes (R111; log 6). -/
def execLoweringComplete (s : State) : Host.Outcome State Fault Refusal :=
  .next s.settled.loweringComplete

/-- A lift completes (R114; log 6). -/
def execLiftComplete (s : State) : Host.Outcome State Fault Refusal :=
  .next s.settled.liftComplete

/-- 500 ms after the last step with no arrival (R118; log 4). -/
def execSettleTimeout (s : State) : Host.Outcome State Fault Refusal :=
  .next s.settled.settleTimeout

/-- 2,000 ms with no disk-up sensor (R118; log 4). -/
def execLiftTimeout (s : State) : Host.Outcome State Fault Refusal :=
  .next s.settled.liftTimeout

/-- 60,000 ms of HOMING with no edge (R118; log 4). -/
def execHomingTimeout (s : State) : Host.Outcome State Fault Refusal :=
  .next s.settled.homingTimeout

/-- The downforce deviation timer reaches the deviation time (R118; log 4). -/
def execDownforceFault (s : State) : Host.Outcome State Fault Refusal :=
  .next s.settled.downforceFault

/-! ### Slurry -/

/-- A pulse of a line's flow meter (R129). -/
def execFlowMeterPulse (k : Line) (s : State) : Host.Outcome State Fault Refusal :=
  .next (s.settled.flowPulse k)

/-- A line's last-pulse timer reaches the stop timeout (R130; log 4). -/
def execStopTimeoutExpiry (k : Line) (s : State) : Host.Outcome State Fault Refusal :=
  .next (s.settled.stopTimeout k)

/-- A one-second window ends (R132). -/
def execFlowWindowEnd (s : State) : Host.Outcome State Fault Refusal :=
  .next s.settled.windowEnd

/-! ### Interlock inputs and carrier links -/

/-- An interlock pin changes level (R149). -/
def execInterlockPinChange (i : InputIndex) (level : Bool) (s : State) : Host.Outcome State Fault Refusal :=
  .next (s.settled.pinChange i level)

/-- An input's debounce timer reaches the debounce time (R149; log 4). -/
def execDebounceExpiry (i : InputIndex) (s : State) : Host.Outcome State Fault Refusal :=
  .next (s.settled.debounceExpiry i)

/-- A carrier link's silence timer reaches the link silence time (R177; log 4). -/
def execSilenceTimerExpiry (l : Lane) (s : State) : Host.Outcome State Fault Refusal :=
  .next (s.settled.silenceExpiry l)

end Sys2Proof.Machine
end

