-- ==== Sys2Proof/Machine/Time.lean ====
section
/-!
DEFINITION. The passing of 1 ms for every timer that runs by itself (log 3): stall and period (R31, R34), link silence
(R177), debounce (R149), last pulse and window (R130, R132), settle, lift and homing (R110, R114, R109, R118). A timer
that reaches its end does there what its row does.
-/

namespace Sys2Proof.Machine
open Sys2Proof

/-- The stall timer and the period timer. -/
def State.tickPlaten (s : State) : State :=
  match s.tracker.state with
  | .unhomed => s
  | _ =>
      let s := s.modTracker fun t =>
        { t with periodTimer := advancePeriod t.periodTimer 1000, stallTimer := t.stallTimer.map (· + 1) }
      match s.tracker.stallTimer with
      | some t => if s.settings.tracker.stallLimit ≤ t then s.stallExpiry else s
      | none => s

/-- A carrier link's silence timer, which runs while the silent flag is clear. -/
def State.tickSilence (l : Lane) (s : State) : State :=
  if (s.links.silence.get l).silent then s
  else
    let s := s.modSilence l fun x => { x with timer := x.timer + 1 }
    if s.settings.linkSilence ≤ (s.links.silence.get l).timer then s.silenceExpiry l else s

/-- An input's debounce timer, which runs while the pin differs from the accepted level. -/
def State.tickInput (s : State) (i : InputIndex) : State :=
  if (s.matrix.input i).pin = (s.matrix.input i).accepted then s
  else
    let s := s.modInput i fun x => { x with timer := x.timer + 1 }
    if (s.matrix.input i).limit ≤ (s.matrix.input i).timer then s.debounceExpiry i else s

/-- A line's last-pulse timer gains 1 ms while it runs. -/
def SupplyLine.advance (x : SupplyLine) : SupplyLine :=
  if x.timed then { x with lastPulse := x.lastPulse + 1 } else x

/-- A line's last-pulse timer runs and has reached its stop timeout. -/
def State.lineDue (s : State) (k : Line) : Bool :=
  (s.line k).timed && decide (s.settings.slurry.stopTimeout.get k ≤ (s.line k).lastPulse)

/-- The last-pulse timers: those that run gain 1 ms together, and then the lines whose time is up stop. A line that a stop
sets running starts at 0 (R130). -/
def State.tickLines (s : State) : State :=
  let timed := s.modSlurry fun q => { q with lines := q.lines.map SupplyLine.advance }
  let stop := fun k (u : State) => if timed.lineDue k then u.stopTimeout k else u
  stop .l3 (stop .l2 (stop .l1 timed))

/-- The one-second window. -/
def State.tickWindow (s : State) : State :=
  let s := s.modSlurry fun q => { q with windowMs := q.windowMs + 1 }
  if 1000 ≤ s.slurry.windowMs then s.windowEnd else s

/-- A timer has reached its end. -/
def reached (limit : Nat) : Option Nat → Bool
  | some t => decide (limit ≤ t)
  | none => false

/-- The settle, lift and homing timers. -/
def State.tickCond (s : State) : State :=
  let s := s.modCond fun c =>
    { c with
      settleTimer := c.settleTimer.map (· + 1), liftTimer := c.liftTimer.map (· + 1)
      homingTimer := c.homingTimer.map (· + 1) }
  if reached 500 s.cond.settleTimer then s.settleTimeout
  else if reached 2000 s.cond.liftTimer then s.liftTimeout
  else if reached 60000 s.cond.homingTimer then s.homingTimeout
  else s

/-- One millisecond passes (log 3). -/
def State.tick (s : State) : State :=
  let flowing := ((s.tickPlaten.tickSilence .a).tickSilence .b).tickLines
  ((List.finRange 8).foldl State.tickInput flowing.tickWindow).tickCond

end Sys2Proof.Machine
end

