-- ==== Sys2Proof/Machine/Dispatch.lean ====
section
/-!
DEFINITION. The one match of the machine: each command and its meaning.
-/

namespace Sys2Proof.Machine
open Sys2Proof

def exec (i : Instr) (s : State) : Host.Outcome State Fault Refusal :=
  match i with
  | .hardReset => Sys2Proof.Machine.execHardReset s
  | .identRead p => Sys2Proof.Machine.execIdentRead p s
  | .statusRead p page => Sys2Proof.Machine.execStatusRead p page s
  | .noticesRead p => Sys2Proof.Machine.execNoticesRead p s
  | .noteSend p recipient bytes => Sys2Proof.Machine.execNoteSend p recipient bytes s
  | .noteTake p => Sys2Proof.Machine.execNoteTake p s
  | .get p item inst => Sys2Proof.Machine.execGet p item inst s
  | .set p item inst value => Sys2Proof.Machine.execSet p item inst value s
  | .mapRead p first count => Sys2Proof.Machine.execMapRead p first count s
  | .mapRestore p entries => Sys2Proof.Machine.execMapRestore p entries s
  | .padReset p => Sys2Proof.Machine.execPadReset p s
  | .chordLoad p lane chords => Sys2Proof.Machine.execChordLoad p lane chords s
  | .hubClaim p => Sys2Proof.Machine.execHubClaim p s
  | .hubRelease p => Sys2Proof.Machine.execHubRelease p s
  | .hubForceRelease p => Sys2Proof.Machine.execHubForceRelease p s
  | .profileStage p targets mode => Sys2Proof.Machine.execProfileStage p targets mode s
  | .touchdown p => Sys2Proof.Machine.execTouchdown p s
  | .release p => Sys2Proof.Machine.execRelease p s
  | .gainLoad p lane enable gains => Sys2Proof.Machine.execGainLoad p lane enable gains s
  | .condMode p mode => Sys2Proof.Machine.execCondMode p mode s
  | .condReset p => Sys2Proof.Machine.execCondReset p s
  | .diskReset p count => Sys2Proof.Machine.execDiskReset p count s
  | .lineStart p line => Sys2Proof.Machine.execLineStart p line s
  | .lineRestart p line => Sys2Proof.Machine.execLineRestart p line s
  | .lineStop p line => Sys2Proof.Machine.execLineStop p line s
  | .feedSelect p line => Sys2Proof.Machine.execFeedSelect p line s
  | .rateSet p rate weights => Sys2Proof.Machine.execRateSet p rate weights s
  | .remoteHold p lane action => Sys2Proof.Machine.execRemoteHold p lane action s
  | .remoteTrip p action => Sys2Proof.Machine.execRemoteTrip p action s
  | .resume p lane => Sys2Proof.Machine.execResume p lane s
  | .tripClear p => Sys2Proof.Machine.execTripClear p s
  | .stationRestart p => Sys2Proof.Machine.execStationRestart p s
  | .validFrame p tag kind payload crc => Sys2Proof.Machine.execValidFrame p tag kind payload crc s
  | .frameError p finding => Sys2Proof.Machine.execFrameError p finding s
  | .interByteTimeout p => Sys2Proof.Machine.execInterByteTimeout p s
  | .replySent p => Sys2Proof.Machine.execReplySent p s
  | .silenceTimerExpiry l => Sys2Proof.Machine.execSilenceTimerExpiry l s
  | .platenEncoderCount e => Sys2Proof.Machine.execPlatenEncoderCount e s
  | .indexEdge elapsed => Sys2Proof.Machine.execIndexEdge elapsed s
  | .condMapUpdated => Sys2Proof.Machine.execCondMapUpdated s
  | .gainRecompute => Sys2Proof.Machine.execGainRecompute s
  | .dryCountUpdate => Sys2Proof.Machine.execDryCountUpdate s
  | .indexProfileApply => Sys2Proof.Machine.execIndexProfileApply s
  | .stallTimerExpiry => Sys2Proof.Machine.execStallTimerExpiry s
  | .armEncoderCount m e => Sys2Proof.Machine.execArmEncoderCount m e s
  | .homeSwitchEdge m => Sys2Proof.Machine.execHomeSwitchEdge m s
  | .hubEntry m => Sys2Proof.Machine.execHubEntry m s
  | .hubExit m => Sys2Proof.Machine.execHubExit m s
  | .pressureUpdate adc supply => Sys2Proof.Machine.execPressureUpdate adc supply s
  | .touchdownDone l => Sys2Proof.Machine.execTouchdownDone l s
  | .releaseDone l => Sys2Proof.Machine.execReleaseDone l s
  | .supplyTimeExpiry => Sys2Proof.Machine.execSupplyTimeExpiry s
  | .deviationTimeExpiry l c => Sys2Proof.Machine.execDeviationTimeExpiry l c s
  | .hardHoldVent l => Sys2Proof.Machine.execHardHoldVent l s
  | .softHoldCap l => Sys2Proof.Machine.execSoftHoldCap l s
  | .hardHoldBarEmpty l => Sys2Proof.Machine.execHardHoldBarEmpty l s
  | .hardHoldWithdraw l => Sys2Proof.Machine.execHardHoldWithdraw l s
  | .tripBarEmpty => Sys2Proof.Machine.execTripBarEmpty s
  | .condTripHalt => Sys2Proof.Machine.execCondTripHalt s
  | .condTripClear => Sys2Proof.Machine.execCondTripClear s
  | .mapReplaced => Sys2Proof.Machine.execMapReplaced s
  | .condGrant => Sys2Proof.Machine.execCondGrant s
  | .condGrantLost => Sys2Proof.Machine.execCondGrantLost s
  | .condStep => Sys2Proof.Machine.execCondStep s
  | .moveArrival => Sys2Proof.Machine.execMoveArrival s
  | .settleTimeout => Sys2Proof.Machine.execSettleTimeout s
  | .downforceUpdate adc diskUp => Sys2Proof.Machine.execDownforceUpdate adc diskUp s
  | .loweringComplete => Sys2Proof.Machine.execLoweringComplete s
  | .liftComplete => Sys2Proof.Machine.execLiftComplete s
  | .liftTimeout => Sys2Proof.Machine.execLiftTimeout s
  | .homingTimeout => Sys2Proof.Machine.execHomingTimeout s
  | .downforceFault => Sys2Proof.Machine.execDownforceFault s
  | .flowMeterPulse k => Sys2Proof.Machine.execFlowMeterPulse k s
  | .stopTimeoutExpiry k => Sys2Proof.Machine.execStopTimeoutExpiry k s
  | .flowWindowEnd => Sys2Proof.Machine.execFlowWindowEnd s
  | .slurryStop => Sys2Proof.Machine.execSlurryStop s
  | .interlockPinChange n level => Sys2Proof.Machine.execInterlockPinChange n level s
  | .debounceExpiry n => Sys2Proof.Machine.execDebounceExpiry n s
  | .homingStep homeActive => Sys2Proof.Machine.execHomingStep homeActive s
  | .resetAsserted => Sys2Proof.Machine.execResetAsserted s
  | .syncByte p => Sys2Proof.Machine.execSyncByte p s

end Sys2Proof.Machine
end

