-- ==== Sys2Proof/Machine/Step.lean ====
section
/-!
DEFINITION. One step of the machine: the command in front of the queue, or, with no command waiting, what happens by
itself (log 3).
-/

namespace Sys2Proof.Machine
open Sys2Proof

/-- The row by which an event between two blocks is taken (log 2). -/
def Event.command : Event → Instr
  | .hubEntry m => .hubEntry m
  | .hubExit m => .hubExit m
  | .condMapUpdated _ => .condMapUpdated
  | .gainRecompute _ => .gainRecompute
  | .dryCountUpdate _ => .dryCountUpdate
  | .indexProfileApply => .indexProfileApply
  | .hardHoldVent l => .hardHoldVent l
  | .softHoldCap l => .softHoldCap l
  | .hardHoldBarEmpty l => .hardHoldBarEmpty l
  | .hardHoldWithdraw l => .hardHoldWithdraw l
  | .tripBarEmpty => .tripBarEmpty
  | .condTripHalt => .condTripHalt
  | .condTripClear => .condTripClear
  | .mapReplaced => .mapReplaced
  | .condGrant => .condGrant
  | .condGrantLost => .condGrantLost
  | .slurryStop => .slurryStop

/-- With no command waiting: the oldest event between blocks is taken; with none, what is due happens and 1 ms passes
(log 3). -/
def State.idle (s : State) : Host.Outcome State Fault Refusal :=
  match s.events with
  | e :: _ => exec e.command s
  | [] => .next s.settled.tick

/-- One step. -/
def step (s : State) : Host.Outcome State Fault Refusal :=
  match s.pending with
  | c :: rest => exec c { s with pending := rest }
  | [] => s.idle

/-- `s` with the command that a word spells put in front of its queue; no row of the table has bits (log 32). -/
def State.withFetchWord (s : State) (nbits w : Nat) : State :=
  match decodeTableWord nbits w with
  | some c => { s with pending := c :: s.pending }
  | none => s

end Sys2Proof.Machine
end

