-- ==== Sys2Proof/WellFormed.lean ====
section
/-!
DEFINITION. Well-formed commands: the operands are ones the link can carry (10_formats_and_settings.md 10.1). A
well-formed request is one whose payload reads back as itself. An ill-formed one still has a meaning (its rule
refuses a value out of range); well-formedness is what an encoding statement needs.
-/

namespace Sys2Proof

/-- A one-byte value. -/
def fitsByte (n : Nat) : Bool := n < 256
/-- A two-byte value. -/
def fitsWord (n : Nat) : Bool := n < 65536

/-- A lane code stands in the payload exactly on port S (10.1, RESUME and REMOTE HOLD). -/
def laneCodeFits (p : Port) : Option Nat → Bool
  | none => p.lane?.isSome
  | some l => p.lane?.isNone && fitsByte l

/-- The request fits the payload layout of its kind on port `p` (10.1). -/
def Request.wf (p : Port) : Request → Bool
  | .statusRead (some page) => fitsByte page
  | .noteSend r bytes => fitsByte r && decide (1 ≤ bytes.length) && decide (bytes.length ≤ 16)
  | .get i n => fitsByte i && fitsByte n
  | .set i n v => fitsByte i && fitsByte n && decide (v < 4294967296)
  | .mapRead f c => fitsByte f && fitsByte c
  | .mapRestore es => decide (1 ≤ es.length) && decide (es.length ≤ 7) &&
      es.all fun e => fitsByte e.band && fitsWord e.wear && fitsWord e.heightUm
  | .chordLoad l cs => fitsByte l && decide (cs.length = 20) && cs.all fitsWord
  | .profileStage t m => t.toList.all fitsWord && fitsByte m
  | .gainLoad l e gs => fitsByte l && fitsByte e && decide (gs.length = 8) && gs.all fitsByte
  | .condMode m => fitsByte m
  | .diskReset c => decide (c < 16777216)
  | .lineStart l | .lineRestart l | .lineStop l | .feedSelect l => fitsByte l
  | .rateSet r w => fitsWord r && w.toList.all fitsByte
  | .remoteHold l x => laneCodeFits p l && fitsByte x
  | .remoteTrip x => fitsByte x
  | .resume l => laneCodeFits p l
  | .statusRead none | .identRead | .noticesRead | .noteTake | .padReset | .hubClaim | .hubRelease
  | .hubForceRelease | .touchdown | .release | .condReset | .tripClear | .stationRestart => true

/-- The request of a request row, with its port. -/
def Instr.request? : Instr → Option (Port × Request)
  | .identRead p => some (p, .identRead)
  | .statusRead p a => some (p, .statusRead a)
  | .noticesRead p => some (p, .noticesRead)
  | .noteSend p a b => some (p, .noteSend a b)
  | .noteTake p => some (p, .noteTake)
  | .get p a b => some (p, .get a b)
  | .set p a b c => some (p, .set a b c)
  | .mapRead p a b => some (p, .mapRead a b)
  | .mapRestore p a => some (p, .mapRestore a)
  | .padReset p => some (p, .padReset)
  | .chordLoad p a b => some (p, .chordLoad a b)
  | .hubClaim p => some (p, .hubClaim)
  | .hubRelease p => some (p, .hubRelease)
  | .hubForceRelease p => some (p, .hubForceRelease)
  | .profileStage p a b => some (p, .profileStage a b)
  | .touchdown p => some (p, .touchdown)
  | .release p => some (p, .release)
  | .gainLoad p a b c => some (p, .gainLoad a b c)
  | .condMode p a => some (p, .condMode a)
  | .condReset p => some (p, .condReset)
  | .diskReset p a => some (p, .diskReset a)
  | .lineStart p a => some (p, .lineStart a)
  | .lineRestart p a => some (p, .lineRestart a)
  | .lineStop p a => some (p, .lineStop a)
  | .feedSelect p a => some (p, .feedSelect a)
  | .rateSet p a b => some (p, .rateSet a b)
  | .remoteHold p a b => some (p, .remoteHold a b)
  | .remoteTrip p a => some (p, .remoteTrip a)
  | .resume p a => some (p, .resume a)
  | .tripClear p => some (p, .tripClear)
  | .stationRestart p => some (p, .stationRestart)
  | .hardReset | .validFrame _ _ _ _ _ | .frameError _ _ | .interByteTimeout _
  | .replySent _ | .silenceTimerExpiry _ | .platenEncoderCount _ | .indexEdge _
  | .condMapUpdated | .gainRecompute | .dryCountUpdate | .indexProfileApply
  | .stallTimerExpiry | .armEncoderCount _ _ | .homeSwitchEdge _ | .hubEntry _
  | .hubExit _ | .pressureUpdate _ _ | .touchdownDone _ | .releaseDone _
  | .supplyTimeExpiry | .deviationTimeExpiry _ _ | .hardHoldVent _ | .softHoldCap _
  | .hardHoldBarEmpty _ | .hardHoldWithdraw _ | .tripBarEmpty | .condTripHalt
  | .condTripClear | .mapReplaced | .condGrant | .condGrantLost
  | .condStep | .moveArrival | .settleTimeout | .downforceUpdate _ _
  | .loweringComplete | .liftComplete | .liftTimeout | .homingTimeout
  | .downforceFault | .flowMeterPulse _ | .stopTimeoutExpiry _ | .flowWindowEnd
  | .slurryStop | .interlockPinChange _ _ | .debounceExpiry _ | .homingStep _
  | .resetAsserted | .syncByte _ => none

/-- A command is well-formed: a request row fits its payload layout, and a valid frame's length is at most 60
(R166). -/
def Instr.wf (i : Instr) : Bool :=
  match i.request? with
  | some (p, r) => r.wf p
  | none =>
    match i with
    | .validFrame _ _ _ payload _ => decide (payload.length ≤ 60)
    | _ => true

end Sys2Proof
end

