-- ==== Sys2Proof/Safety.lean ====
section
/-!
DEFINITION. The terms that claims about the machine use: the laws that the chapters state of the whole part, as
predicates on State, and shorthands for the next states of requests, of taken events and of the conditioner's turns. A run is
safe while every state of it is lawful.
-/

namespace Sys2Proof.Machine
open Sys2Proof

/-! ### Shorthands of statements -/

/-- `u` after the request of kind `k` taken on port `p` has been answered with a result and a payload, with no request
flag (R168). -/
def replied (p : Port) (k : Kind) (r : Result) (payload : List Byte) (u : State) : State :=
  ({ state := u, result := r, payload := payload } : Answer).compose p k.byte

/-- The event `e` is the next that the channel `ch` has told and is not yet taken, and `u` is the state once it is
(log 2). -/
def State.told (s : State) (ch : Event → Bool) (e : Event) (u : State) : Prop :=
  ∃ before after, s.events = before ++ e :: after ∧ (∀ x ∈ before, ch x = false) ∧ ch e = true ∧
    u = { s with events := before ++ after }

/-- The event is a channel of its own. -/
def Event.is (e : Event) : Event → Bool := fun x => decide (x = e)

/-- From `s` to `t` notices are filed with the ports, and the ports change in nothing else (R171). -/
def State.portsFiled (s t : State) : Prop :=
  ∀ p, t.port p = { s.port p with notices := (t.port p).notices } ∧ ∀ n ∈ (s.port p).notices, n ∈ (t.port p).notices

/-- From `s` to `t` notices are filed, and the link interface changes in nothing else (R171). -/
def State.onlyFiled (s t : State) : Prop := t.links.silence = s.links.silence ∧ s.portsFiled t

/-- The severity with which the matrix adds an entry of each kind to a lane's cause set (R152): INPUT by the lane's hold severity
setting, REMOTE by its remote hold, DRY and SUPPLY_LOW SOFT, the others HARD. -/
def State.addsAt (s : State) (l : Lane) : CauseKind → Option Severity
  | .input => some (s.settings.matrix.severity.get l)
  | .remote => s.matrix.remoteHold.get l
  | .dry | .supplyLow => some .soft
  | .pressureFault | .linkSilent | .trip => some .hard

/-- From `s` to `t` the matrix takes causes and trips, and changes in nothing else; an entry stays, its severity never lowered,
and so does a trip cause; and an entry has the severity that it had, or the one with which its kind is added (R152, R157,
R158). -/
def State.onlyCaused (s t : State) : Prop :=
  t.matrix = { s.matrix with
    causes := t.matrix.causes, station := t.matrix.station, tripCauses := t.matrix.tripCauses } ∧
  (∀ l, ∀ e ∈ s.causes l, ∃ x ∈ t.causes l, x.kind = e.kind ∧ (e.severity = .hard → x.severity = .hard)) ∧
  (∀ l, ∀ x ∈ t.causes l, t.addsAt l x.kind = some x.severity ∨
    ∃ e ∈ s.causes l, e.kind = x.kind ∧ e.severity = x.severity) ∧
  ∀ c ∈ s.matrix.tripCauses, c ∈ t.matrix.tripCauses

/-- From `s` to `t` a hold level that has changed is filed to the lane's port and to S, and told to the blocks that act on it
(R153): SOFT to the head pressure controller, HARD to it, the slurry unit and the arbiter. -/
def State.levelsTold (s t : State) : Prop :=
  ∀ l : Lane, t.holdLevel l ≠ s.holdLevel l →
    .holdEntered ∈ (t.port l.port).notices ∧ .holdEntered ∈ (t.port .s).notices ∧
      (t.holdLevel l = .soft → .softHoldCap l ∈ t.events) ∧
      (t.holdLevel l = .hard →
        .hardHoldVent l ∈ t.events ∧ .hardHoldBarEmpty l ∈ t.events ∧ .hardHoldWithdraw l ∈ t.events)

/-- What a trip cause whose condition becomes active makes of the matrix, the notices and the outstanding events, from `s`
to `t`: in NORMAL the station trips (R157), in TRIPPED the cause joins the set and nothing else happens (R158). -/
def State.tripsTo (s : State) (c : TripCause) (t : State) : Prop :=
  t.matrix.station = .tripped ∧ (∀ x, x ∈ t.matrix.tripCauses ↔ x = c ∨ x ∈ s.matrix.tripCauses) ∧
    (s.matrix.station = .normal →
      (∀ p, .tripEntered ∈ (t.port p).notices) ∧ .tripBarEmpty ∈ t.events ∧ .condTripHalt ∈ t.events ∧
      ∀ l,
        t.holdLevel l = .hard ∧ (∃ e ∈ t.causes l, e.kind = .trip ∧ e.severity = .hard) ∧
        (s.holdLevel l ≠ .hard →
          .holdEntered ∈ (t.port l.port).notices ∧ .holdEntered ∈ (t.port .s).notices ∧ .hardHoldVent l ∈ t.events ∧
            .hardHoldBarEmpty l ∈ t.events ∧ .hardHoldWithdraw l ∈ t.events)) ∧
    (s.matrix.station = .tripped → t.matrix.causes = s.matrix.causes ∧ t.events = s.events)

/-! ### What the conditioner turns to (R103, R107, R108, R115) -/

/-- The settle timer where a move or a stroke begins: it starts from 0 where the step position stands at the radius (R110). -/
def State.settleFrom (s : State) : Option Nat :=
  match s.strokeRadius with
  | some r => if s.cond.stepPos.toInt = r then some 0 else none
  | none => none

/-- The conditioner's record as it turns from `s` to the state and the target it has in `t`: its timers stop, and the settle
timer starts where the steps of a move are already at their end (R100, R110; log 40). -/
def State.turned (s t : State) : Prop :=
  t.cond = { s.cond.enter t.cond.state with target := t.cond.target, settleTimer := t.settleFrom }

/-- `needsHub` says which targets need the hub (R108): a band whose centre less the conditioner reach, and the two sweep targets
where the sweep's inner radius less the reach, lies below the hub radius. -/
def State.needsHubTrue (s : State) : Prop :=
  let inside := fun r : Nat => (r : Int) - s.settings.tracker.condReach < (s.settings.tracker.hubSize * 2000 : Nat)
  (∀ k, s.needsHub (.band k) = true ↔ inside (2000 * k + 1000)) ∧
    (s.needsHub .sweepStart = true ↔ inside s.settings.cond.sweepInner) ∧
    (s.needsHub .sweepResume = true ↔ inside s.settings.cond.sweepInner) ∧ s.needsHub .park = false

/-- A sweep stroke begins, from `s` to `t` (R115). -/
def State.stroke (s : State) (d : SweepDir) (t : State) : Prop :=
  t.cond = { s.cond.enter .sweeping with sweepDir := some d, settleTimer := t.settleFrom }

/-- `s` with no grant event on its way: the conditioner's own dealing with the arbiter overtakes one (log 17). -/
def State.overtaken (s : State) : State := { s with events := s.events.filter fun e => decide (e ≠ .condGrant) }

/-- What a conditioner that needs the hub no longer makes of it, from `s` to `t` (R108): no claim waits, a grant held with
the arm inside is kept, a grant held outside is released and handed on (R63), and with neither a grant nor a claim the hub is as
it was. -/
def State.gaveUp (s t : State) : Prop :=
  (s.hub.holder = some .cond → (s.arm .cond).inside = false →
    t.hub = s.overtaken.endGrant.hub ∧ t.links = s.overtaken.endGrant.links ∧ t.events = s.overtaken.endGrant.events) ∧
  (s.hub.holder ≠ some .cond ∨ (s.arm .cond).inside = true →
    t.links = s.links ∧ t.events = s.overtaken.events ∧ (s.hub.holder ≠ some .cond →
      t.hub = { s.hub with waitList := s.hub.waitList.filter fun x => decide (x ≠ Arm.cond) })) ∧
  .cond ∉ t.hub.waitList ∧ (t.hub.holder = some .cond → (s.arm .cond).inside = true) ∧
    (s.hub.holder = some .cond → (s.arm .cond).inside = true → t.hub = s.hub) ∧
    (s.hub.holder ≠ some .cond → .cond ∉ s.hub.waitList → t.hub = s.hub)

/-- The conditioner's return to park (R102, R107). -/
def State.returned (s t : State) : Prop :=
  t.cond.state = .returning ∧ t.cond.target = some .park ∧ s.turned t ∧ s.gaveUp t

/-- No work is left (R107): PARKED stays as it is, any other state returns to park. -/
def State.restsOrReturns (s t : State) : Prop :=
  (s.cond.state = .parked → t.cond = s.cond ∧ t.hub = s.hub ∧ t.links = s.links ∧ t.events = s.events) ∧
    (s.cond.state ≠ .parked → s.returned t)

/-- The arbiter's answer to a claim of the referenced conditioner, from `s` to `t` (R60, R61): the hub is granted where free and
kept where held, and behind another holder the claim waits, at the end of the list where it did not wait already. -/
def State.claimed (s t : State) : Prop :=
  t.links = s.links ∧ t.events = s.overtaken.events ∧
    (s.hub.holder = some .cond → t.hub = s.hub) ∧
    (s.hub.holder = none →
      t.hub = { s.hub with holder := some .cond, intruders := s.hub.intruders.set .cond false }) ∧
    (s.hub.holder ≠ none → s.hub.holder ≠ some .cond →
      t.hub = { s.hub with
        waitList := if .cond ∈ s.hub.waitList then s.hub.waitList else s.hub.waitList ++ [.cond] })

/-- The dealing with the arbiter for a target, from `s` to `t` (R108), ending in the state `work` where the work goes on at
once: a target outside the hub gives the hub up; one inside claims it and works with the grant, or waits for it. -/
def State.dealt (s : State) (x : CondTarget) (needs : Bool) (work : CondState) (t : State) : Prop :=
  t.cond.target = some x ∧ s.turned t ∧ (needs = false → t.cond.state = work ∧ s.gaveUp t) ∧
    (needs = true → (s.arm .cond).referenced = true →
      t.cond.state = (if s.hub.holder = none ∨ s.hub.holder = some .cond then work else .waitHub) ∧ s.claimed t)

/-- A selection from `s` to `t` (R103, R107): with the disk spent, no work; else the first entry that has no rest and is not
blocked becomes the target; with every entry that has no rest blocked the conditioner waits where it stands; with every entry
resting, no work. The model's choice (log 38): an entry that rests under a lane that is down is passed over as resting. -/
def State.selected (s t : State) : Prop :=
  let blocked := fun k => s.settings.cond.policy = .clear ∧ ∃ l, (s.lane l).state ≠ .raised ∧ 0 < s.laneChord l k
  let free := fun e : QueueEntry => e.rest = none ∧ ¬ blocked e.band
  let edge := s.settings.tracker.hubSize * 2000 + s.settings.tracker.condReach
  t = { s with cond := t.cond, hub := t.hub, links := t.links, events := t.events } ∧ s.onlyFiled t ∧
    t.cond.mode = s.cond.mode ∧ t.cond.queue = s.cond.queue ∧ (s.cond.spent = true → s.restsOrReturns t) ∧
    (s.cond.spent = false →
      (∀ before e after, s.cond.queue = before ++ e :: after → (∀ x ∈ before, ¬ free x) → free e →
        s.dealt (.band e.band) (decide (2000 * e.band + 1000 < edge)) .moving t) ∧
      ((∀ e ∈ s.cond.queue, ¬ free e) → (∃ e ∈ s.cond.queue, e.rest = none) →
        t.cond.state = .waitClear ∧ t.cond.target = none ∧ s.turned t ∧ s.gaveUp t) ∧
      ((∀ e ∈ s.cond.queue, e.rest ≠ none) → s.restsOrReturns t))

/-- The sweep start from `s` to `t` (R107, R115): with the disk spent, no work; else the sweep inner radius becomes the
target. -/
def State.sweepBegun (s t : State) : Prop :=
  t = { s with cond := t.cond, hub := t.hub, links := t.links, events := t.events } ∧ s.onlyFiled t ∧
    t.cond.mode = s.cond.mode ∧ t.cond.queue = s.cond.queue ∧ (s.cond.spent = true → s.restsOrReturns t) ∧
    (s.cond.spent = false →
      s.dealt .sweepStart
        (decide (s.settings.cond.sweepInner < s.settings.tracker.hubSize * 2000 + s.settings.tracker.condReach)) .moving t)

/-- The mode acts with the disk up, from `s` to `t` (R102, R109, R110, R120). -/
def State.modeActed (s t : State) : Prop :=
  (s.cond.mode = .off → t = s) ∧ (s.cond.mode = .map → s.selected t) ∧ (s.cond.mode = .sweep → s.sweepBegun t)

/-- The fault of kind `k` (R119): the conditioner in FAULT without a target, its command at 0 and its claim withdrawn, and
COND_FAULT filed to port S. -/
def State.faulted (s : State) (k : FaultKind) : State :=
  ({ s with
      cond := { s.cond.enter .fault with dfCommand := 0, faultKind := some k, target := none, clearNoted := false }
      hub := { s.hub with waitList := s.hub.waitList.filter (fun x => decide (x ≠ Arm.cond)) } }).file .s .condFault

/-! ### What pressure and slurry make of a change -/

/-- Line `k` keeps from `s` to `t` all but what a recompute derives (R138, R139); its last-pulse timer is held at 0 once its duty
is 0 (R130). -/
def State.lineKept (s t : State) (k : Line) : Prop :=
  t.line k = { s.line k with
    demand := (t.line k).demand, servedLow := (t.line k).servedLow, setpoint := (t.line k).setpoint
    duty := (t.line k).duty, lastPulse := (t.line k).lastPulse } ∧
  ((t.line k).lastPulse = (s.line k).lastPulse ∨ ((t.line k).duty = 0 ∧ (t.line k).lastPulse = 0))

/-- The bar of `l` keeps from `s` to `t` its feed, its flag and its resume record. -/
def State.barKept (s t : State) (l : Lane) : Prop :=
  (t.bar l).feed = (s.bar l).feed ∧ (t.bar l).fallback = (s.bar l).fallback ∧ (t.bar l).resume = (s.bar l).resume

/-- The bar of `l` keeps from `s` to `t` its rate and its weights. -/
def State.rateKept (s t : State) (l : Lane) : Prop := (t.bar l).rate = (s.bar l).rate ∧ (t.bar l).weights = (s.bar l).weights

/-- The drive targets of a lane's record `x`, with the hold level and the soft-hold pressure that `s` gives the lane (R74). -/
def State.drives (s : State) (l : Lane) (x : LanePressure) : Prop :=
  ∀ c,
    (x.state = .raised ∨ x.state = .releasing → (x.channels.get c).drive = 0) ∧
      (x.state = .touchdown ∨ x.state = .polish →
        (s.holdLevel l = .none → (x.channels.get c).drive = (x.channels.get c).effective) ∧
        (s.holdLevel l = .soft →
          (x.channels.get c).drive = min (s.settings.press.softHold.get l) (x.channels.get c).effective))

/-- The moves of the bars, from `s` to `t`, when line `k` alone stops flowing (R131): a bar on another line stays, a bar on `k`
goes once to the fallback line, and to NONE where it may not. -/
def State.barsMoved (s : State) (k : Line) (t : State) : Prop :=
  ∀ l,
    ((t.bar l).resume = (s.bar l).resume ∧ (t.bar l).rate = (s.bar l).rate ∧ (t.bar l).weights = (s.bar l).weights) ∧
    ((s.bar l).feed ≠ some k → (t.bar l).feed = (s.bar l).feed ∧ (t.bar l).fallback = (s.bar l).fallback) ∧
    (∀ f, (s.bar l).feed = some k → (s.bar l).fallback = false → s.settings.slurry.fallback.get k = some f → f ≠ k →
      (s.line f).state = .ready →
      (t.bar l).feed = some f ∧ (t.bar l).fallback = true ∧ .feedFallback ∈ (t.port l.port).notices) ∧
    ((s.bar l).feed = some k →
      (s.bar l).fallback = true ∨ s.settings.slurry.fallback.get k = none ∨
        (∃ f, s.settings.slurry.fallback.get k = some f ∧ (s.line f).state ≠ .ready) →
      (t.bar l).feed = none ∧ (t.bar l).fallback = false ∧ .feedLost ∈ (t.port l.port).notices)

/-! ### What a command takes -/

/-- Running the command in `s` takes a request of kind `k`: its row, a frame that carries it to a port with no request in
process, or the end of a reply behind which it waits (R167). -/
def State.takesBy (s : State) (c : Instr) (k : Kind) : Prop :=
  (∃ (p : Port) (r : Request), c = r.command p ∧ r.kind = k) ∨
    (∃ (p : Port) (tag : Byte) (payload : List Byte), (s.port p).inProcess = none ∧ payload.length ≤ 60 ∧
      c = .validFrame p tag k.byte payload (requestCrc tag k.byte payload)) ∨
    ∃ (p : Port) (q : SlotRequest), c = .replySent p ∧
      (s.port p).sending.isSome = true ∧ (s.port p).waiting = some q ∧ q.kind = k.byte

/-- The next step takes a request of kind `k`. -/
def State.takes (s : State) (k : Kind) : Prop := ∃ c rest, s.pending = c :: rest ∧ s.takesBy c k

/-! ### The map (R1, R3, R19) -/

/-- A band record's fields lie in their ranges, and glazed-since is present exactly while the band is GLAZED. -/
def Band.lawful (b : Band) : Prop :=
  b.wear ≤ 65535 ∧ b.height ≤ 4000000 ∧ (b.glazedSince.isSome ↔ b.state = .glazed)

/-- Twenty lawful records; while the map is INVALID its count is 0, and while VALID no band is marked restored. -/
def PadMap.lawful (m : PadMap) : Prop :=
  m.bands.length = 20 ∧ (∀ b ∈ m.bands, b.lawful) ∧ (m.valid = false → m.revCount = 0) ∧
    (m.valid = true → ∀ r ∈ m.restored, r = false)

/-! ### The tracker (R21, R22, R28, R37) -/

/-- The ranges of the tracker's state: the angle, the next-mark pointer, the run count, the held period and speed, the
platen-suspect flag of a revolution begun outside TRACKING, and the stall timer's states. -/
def Tracker.lawful (t : Tracker) : Prop :=
  -16383 ≤ t.angle ∧ t.angle ≤ 16388 ∧ (t.state = .unhomed → t.angle = 0 ∧ t.suspectRun = 0) ∧
    (∃ n, 1 ≤ n ∧ n ≤ 16 ∧ t.nextMark = 1024 * n) ∧ t.suspectRun ≤ 3 ∧ (t.state = .lost → t.suspectRun = 3) ∧
    t.period ≤ 16777215 ∧ t.speed ≤ 65535 ∧ (t.state.outside = true → t.platenSuspect = true) ∧
    (t.stallTimer.isSome ↔ t.state = .tracking ∨ t.state = .lost)

/-- Every inside flag says whether a referenced arm's inner edge is less than the hub radius (R37). -/
def State.insideTrue (s : State) : Prop := ∀ m, (s.arm m).inside = s.footprintInside m

/-! ### The hub (R59, R66, R68) -/

/-- The arbiter's limits (R59, R63): the wait list holds at most two claimants, none twice and never the holder, and none
while the hub is free; the intruder set never holds the holder. -/
def Hub.lawful (h : Hub) : Prop :=
  h.waitList.length ≤ 2 ∧ h.waitList.Nodup ∧ (∀ m, h.holder = some m → m ∉ h.waitList ∧ h.intruders.get m = false) ∧
    (h.holder = none → h.waitList = [])

/-- The last crossing of an arm that has been raised and not yet taken. -/
def lastCrossing (m : Arm) (events : List Event) : Option Event := (events.filter (Event.crossingOf m)).getLast?

/-- An arm inside the hub holds it, or is an intruder, or its entry is on its way; an arm whose last crossing on its way
is an entry is inside, and one whose last is an exit is not; an intruder means a TRIPPED station (R66, R68). -/
def State.hubGuarded (s : State) : Prop :=
  s.insideTrue ∧
    ∀ m,
      ((s.arm m).inside = true →
        s.hub.holder = some m ∨ s.hub.intruders.get m = true ∨ .hubEntry m ∈ s.events) ∧
      (lastCrossing m s.events = some (.hubEntry m) → (s.arm m).inside = true) ∧
      (lastCrossing m s.events = some (.hubExit m) → (s.arm m).inside = false) ∧
      (s.hub.intruders.get m = true → s.matrix.station = .tripped)

/-! ### Pressure (R74, R81, R82, R85, R95) -/

/-- A channel's effective target, drive target and command lie within its limit, and its remainder is under one unit. -/
def Channel.lawful (limit : Nat) (c : Channel) : Prop :=
  c.effective ≤ limit ∧ c.drive ≤ limit ∧ c.command ≤ limit ∧ c.remainder ≤ 999

/-- A lane's profiles and channels keep to its limits, and a RAISED lane presses nowhere. -/
def LanePressure.lawful (limit : Six Nat) (x : LanePressure) : Prop :=
  ∀ c, x.staged.get c ≤ limit.get c ∧ x.active.get c ≤ limit.get c ∧ (x.channels.get c).lawful (limit.get c) ∧
    (x.state = .raised → (x.channels.get c).drive = 0 ∧ (x.channels.get c).command = 0)

/-- Both lanes of the head pressure controller. -/
def State.pressLawful (s : State) : Prop := ∀ l, (s.lane l).lawful (s.settings.press.limit.get l)

/-! ### The conditioner (R100, R104, R111) -/

/-- What is present only in one state is present exactly there (R100), and the downforce command lies within the
downforce limit (R111). -/
def Conditioner.lawful (limit : Nat) (c : Conditioner) : Prop :=
  (c.liftPurpose.isSome ↔ c.state = .lifting) ∧ (c.sweepDir.isSome ↔ c.state = .sweeping) ∧
    (c.faultKind.isSome ↔ c.state = .fault) ∧ c.dfCommand ≤ limit

/-- One entry comes before another in the queue's order (R104). -/
def QueueEntry.precedes (x y : QueueEntry) : Prop :=
  y.rankedWear < x.rankedWear ∨ (x.rankedWear = y.rankedWear ∧ x.band < y.band)

/-- The conditioning queue: bands of the pad, in its order and so each at most once, every ranked wear at least cond
stop, every rest in 1..64, and none in mode OFF (R104, R105). -/
def Conditioner.queueLawful (condStop : Nat) (c : Conditioner) : Prop :=
  c.queue.Pairwise QueueEntry.precedes ∧ (c.queue.map (·.band)).Nodup ∧
    (∀ e ∈ c.queue, e.band ≤ 19 ∧ condStop ≤ e.rankedWear ∧ ∀ n, e.rest = some n → 1 ≤ n ∧ n ≤ 64) ∧
    (c.mode = .off → c.queue = [])

/-! ### Slurry (R133, R138) -/

/-- The flow served by a bar from a line. -/
def Bar.servedFrom (b : Bar) (k : Line) : Nat := if b.feed = some k then (b.outlets.map (·.served)).sum else 0

/-- A bar's feed is NONE or a READY line, its fallback flag is clear at NONE, and its rate and weights are in range
(R133). -/
def Slurry.barLawful (g : SlurrySettings) (q : Slurry) (l : Lane) : Prop :=
  (∀ k, (q.bars.get l).feed = some k → (q.lines.get k).state = .ready) ∧
    ((q.bars.get l).feed = none → (q.bars.get l).fallback = false) ∧ (q.bars.get l).rate ≤ g.barMax.get l ∧
    (q.bars.get l).weights.inner ≤ 15 ∧ (q.bars.get l).weights.middle ≤ 15 ∧ (q.bars.get l).weights.outer ≤ 15

/-- The served flows of the outlets fed from one line sum to no more than its max flow (R138). -/
def Slurry.servedLawful (g : SlurrySettings) (q : Slurry) : Prop :=
  ∀ k, q.bars.a.servedFrom k + q.bars.b.servedFrom k ≤ g.maxFlow.get k

/-- The demand of a bar's outlets on a line. -/
def Bar.demandOn (b : Bar) (k : Line) : Nat := if b.feed = some k then (b.outlets.map (·.demand)).sum else 0

/-- Every demand, served flow, valve duty, setpoint and pump duty is the one that the rates, weights, feeds, line states and
settings give (R128, R137 to R139). -/
def Slurry.flowsTrue (g : SlurrySettings) (q : Slurry) : Prop :=
  (∀ l o,
    let b := q.bars.get l
    let x := b.outlets.get o
    let sum := b.weights.inner + b.weights.middle + b.weights.outer
    x.demand = (if sum = 0 then 0 else b.rate * b.weights.get o / sum) ∧ (b.feed = none → x.served = 0) ∧
      (∀ k, b.feed = some k → x.served =
        if (q.lines.get k).demand ≤ g.maxFlow.get k then x.demand
        else x.demand * g.maxFlow.get k / (q.lines.get k).demand) ∧
      x.valve = min 4095 (x.served * 4095 / (g.outletMax.get l).get o)) ∧
  ∀ k,
    let y := q.lines.get k
    y.demand = q.bars.a.demandOn k + q.bars.b.demandOn k ∧ y.servedLow = decide (g.maxFlow.get k < y.demand) ∧
      (y.state = .off ∨ y.state = .stopped → y.setpoint = 0) ∧
      (y.state = .priming → y.setpoint = min (g.primeFlow.get k) (g.maxFlow.get k)) ∧
      (y.state = .ready → y.setpoint = max (g.recirculation.get k) (min y.demand (g.maxFlow.get k))) ∧
      y.duty = y.setpoint * 4095 / g.maxFlow.get k

/-- While a line's duty is 0 its last-pulse timer is held at 0 (R130). -/
def Slurry.timersHeld (q : Slurry) : Prop := ∀ k, (q.lines.get k).duty = 0 → (q.lines.get k).lastPulse = 0

/-- Both bars, what they are served, and every flow. -/
def State.slurryLawful (s : State) : Prop :=
  (∀ l, s.slurry.barLawful s.settings.slurry l) ∧ s.slurry.servedLawful s.settings.slurry ∧
    s.slurry.flowsTrue s.settings.slurry

/-! ### Holds and trips (R152, R153, R157, R158) -/

/-- Eight inputs; one entry a kind; while TRIPPED both lanes hold the HARD cause TRIP; the trip cause set is empty exactly while the
station is NORMAL. -/
def Matrix.lawful (m : Matrix) : Prop :=
  m.inputs.length = 8 ∧ (∀ l, ((m.causes.get l).map (·.kind)).Nodup) ∧
    (m.station = .tripped → ∀ l, ∃ e ∈ m.causes.get l, e.kind = .trip ∧ e.severity = .hard) ∧
    (m.tripCauses = [] ↔ m.station = .normal) ∧ m.tripCauses.Nodup ∧ ∀ l, m.dryCount.get l ≤ 8

/-- The order of hold levels (R153). -/
def HoldLevel.rank : HoldLevel → Nat
  | .none => 0
  | .soft => 1
  | .hard => 2

/-! ### Links (R171, R173) -/

/-- A port's notice set holds no name twice; its box is empty or holds a note of 1 to 16 bytes from another port; it does
not keep a request waiting while none is in process. -/
def PortLink.lawful (p : Port) (k : PortLink) : Prop :=
  k.notices.Nodup ∧ (∀ n, k.noteBox = some n → n.sender ≠ p ∧ 1 ≤ n.bytes.length ∧ n.bytes.length ≤ 16) ∧
    (k.waiting.isSome → k.inProcess.isSome)

def State.linksLawful (s : State) : Prop := ∀ p, (s.port p).lawful p

/-! ### Settings (R180) -/

/-- Every setting is in range, and the constraints between settings hold (R180 step 2). -/
def Settings.lawful (g : Settings) : Prop := (∀ item : Item, item.inRange (item.value g) = true) ∧ g.consistent = true

/-! ### All together -/

/-- Every law of the part. -/
structure State.lawful (s : State) : Prop where
  map : s.map.lawful
  tracker : s.tracker.lawful
  hub : s.hub.lawful
  guarded : s.hubGuarded
  press : s.pressLawful
  cond : s.cond.lawful s.settings.cond.downforceLimit
  queue : s.cond.queueLawful s.settings.map.condStop
  slurry : s.slurryLawful
  timers : s.slurry.timersHeld
  matrix : s.matrix.lawful
  links : s.linksLawful
  settings : s.settings.lawful

/-- A run of `n` steps from `s` stays lawful: no step stops, and every state it reaches is lawful. -/
def safeFor : Nat → State → Prop
  | 0, s => s.lawful
  | n + 1, s => s.lawful ∧ ∃ t, step s = .next t ∧ safeFor n t

end Sys2Proof.Machine
end

