-- ==== Sys2Proof/Certificates/Slice0/Obligations.lean ====
section
/-!
DEFINITION. The statements for the provers. Each docstring names the rules it formalises; a clause that rests on a choice
of the model names the log entry. `replied`, `State.told`, `State.tripsTo`, what the conditioner turns to and the laws are
defined in Sys2Proof/Safety.lean. In the statement of a row, `s₀` is the state the row is carried out in and `s` the state it
finds: `s₀.heard p = s` where the row is a request on port p, `s₀.heardFor p k = s` where the request may be of the kinds before
which map updated events may wait, `s₀.settled = s` where the row is no request. The statement OutstandingIsTakenFirst says
what they do (log 1, log 2).
-/

open Sys2Proof Sys2Proof.Machine

/-! ### The queue of commands, frames and replies -/

/-- The model's choice (log 1): a step takes the command in front of the queue and runs it with the queue's rest. -/
def Obligations.StepRunsFrontCommand : Prop :=
  ∀ (c : Instr) (rest : List Instr) (s : State),
    step { s with pending := c :: rest } = exec c { s with pending := rest }

/-- The model's choice (log 3): a step with no command waiting runs the row of the oldest outstanding event, and with none
outstanding 1 ms passes. Then the stall timer (R31), the period timer (R34), the silence timers (R177), the debounce timers
(R149), the last-pulse timers (R130), the one-second window (R132; one for all three lines, log 20) and the settle, lift and
homing timers (R118) each gain 1 ms, and each expires exactly at its limit. A line that another line's stop sets running
starts its last-pulse timer where it was held (R130, R131), and the millisecond just passed is not counted for it: the timers
advance together before a line stops (the model's choice of the order within a millisecond, log 31). With several stops in one
millisecond a line that does not stop has its timer as with none, where the flows and timers before it were as the rules
derive them. Short of its limit a timer changes nothing else of its block. -/
def Obligations.PassingTime : Prop :=
  (∀ (e : Event) (rest : List Event) (s : State), s.pending = [] → s.events = e :: rest → step s = exec e.command s) ∧
  ∀ s₀ s : State, s₀.settled = s → s₀.pending = [] → s₀.events = [] →
    ∃ t, step s₀ = .next t ∧
      let ends := decide (1000 ≤ s.slurry.windowMs + 1)
      let timed := fun k => ((s.line k).state = .priming ∨ (s.line k).state = .ready) ∧ 0 < (s.line k).duty
      let expires := fun k => timed k ∧ s.settings.slurry.stopTimeout.get k ≤ (s.line k).lastPulse + 1
      let due := fun (limit : Nat) (timer : Option Nat) => ∃ n, timer = some n ∧ limit ≤ n + 1
      let quiet := (s.tracker.state = .unhomed ∨ ¬ due s.settings.tracker.stallLimit s.tracker.stallTimer) ∧
        (∀ l, (s.links.silence.get l).silent = true ∨ (s.links.silence.get l).timer + 1 < s.settings.linkSilence) ∧
        ∀ i, (s.matrix.input i).pin = (s.matrix.input i).accepted ∨
          (s.matrix.input i).timer + 1 < (s.matrix.input i).limit
      let condQuiet := ¬ due 500 s.cond.settleTimer ∧ ¬ due 2000 s.cond.liftTimer ∧ ¬ due 60000 s.cond.homingTimer
      t = { s with
        map := t.map, tracker := t.tracker, hub := t.hub, cond := t.cond, slurry := t.slurry, matrix := t.matrix
        links := t.links, events := t.events } ∧
      State.onlyCaused { s with matrix := { s.matrix with inputs := t.matrix.inputs } } t ∧
      s.portsFiled t ∧ s.levelsTold t ∧
      (quiet → t.matrix = { s.matrix with inputs := t.matrix.inputs } ∧ t.events = s.events) ∧
      (quiet → condQuiet → (∀ k, ¬ expires k) → t.links = { s.links with silence := t.links.silence }) ∧
      (s.tracker.state = .unhomed → t.tracker = s.tracker ∧ t.map = s.map) ∧
      (s.tracker.state ≠ .unhomed →
        let timed := { s.tracker with
          periodTimer := min 16777215 (s.tracker.periodTimer + 1000), stallTimer := s.tracker.stallTimer.map (· + 1) }
        ((∀ n, s.tracker.stallTimer = some n → n + 1 < s.settings.tracker.stallLimit) →
          t.tracker = timed ∧ t.map = s.map) ∧
        (∀ n, s.tracker.stallTimer = some n → s.settings.tracker.stallLimit ≤ n + 1 → s.tracker.state ≠ .stalled →
          t.tracker = { timed with state := .stalled, stallTimer := none, platenSuspect := true, disturbed := true } ∧
            t.map = { s.map with suspect := true } ∧ t.matrix.station = .tripped ∧
            .platenStall ∈ t.matrix.tripCauses)) ∧
      (∀ l,
        let x := s.links.silence.get l
        (x.silent = true → t.links.silence.get l = x) ∧
        (x.silent = false → x.timer + 1 < s.settings.linkSilence →
          t.links.silence.get l = { x with timer := x.timer + 1 }) ∧
        (x.silent = false → s.settings.linkSilence ≤ x.timer + 1 →
          t.links.silence.get l =
              { timer := s.settings.linkSilence, silent := true, cause := decide ((s.lane l).state ≠ .raised) } ∧
            ((s.lane l).state ≠ .raised → ∃ e ∈ t.causes l, e.kind = .linkSilent ∧ e.severity = .hard))) ∧
      (s.matrix.inputs.length = 8 → ∀ i,
        let x := s.matrix.input i
        t.matrix.input i =
          if x.pin = x.accepted then x
          else if x.timer + 1 < x.limit then { x with timer := x.timer + 1 }
          else { x with accepted := x.pin, timer := 0 }) ∧
      t.slurry.windowMs = (if ends then 0 else s.slurry.windowMs + 1) ∧
      ((∀ k, ¬ expires k) → t.slurry.bars = s.slurry.bars) ∧
      ((∃ k, expires k) → t.slurry.flowsTrue s.settings.slurry) ∧
      (∀ k,
        let x := s.line k
        let y := t.line k
        y.measured = (if ends then x.window * 60000 / s.settings.slurry.pulsesPerLitre.get k else x.measured) ∧
        y.window = (if ends then 0 else x.window) ∧
        ((∀ j, ¬ expires j) → (timed k → y.lastPulse = x.lastPulse + 1) ∧ (¬ timed k → y.lastPulse = x.lastPulse) ∧
          y = { x with lastPulse := y.lastPulse, measured := y.measured, window := y.window }) ∧
        (¬ expires k → y.state = x.state ∧ y.prime = x.prime ∧
          ((∀ i j, expires i → expires j → i = j) →
            y.lastPulse = (if timed k then x.lastPulse + 1 else x.lastPulse) ∨ (y.duty = 0 ∧ y.lastPulse = 0)) ∧
          (s.slurry.flowsTrue s.settings.slurry → s.slurry.timersHeld →
            y.lastPulse = if timed k then x.lastPulse + 1 else x.lastPulse)) ∧
        (expires k → (∀ j, j ≠ k → ¬ expires j) →
          y.state = .stopped ∧ y.duty = 0 ∧ .lineStopped ∈ (t.port .s).notices ∧ s.barsMoved k t)) ∧
      (condQuiet →
        t.hub = s.hub ∧ t.cond = { s.cond with
          settleTimer := s.cond.settleTimer.map (· + 1), liftTimer := s.cond.liftTimer.map (· + 1)
          homingTimer := s.cond.homingTimer.map (· + 1) }) ∧
      (∀ r, s.strokeRadius = some r → 50 < ((s.arm .cond).count.toInt - r).natAbs → due 500 s.cond.settleTimer →
        t.cond = (s.faulted .settle).cond ∧ t.hub = (s.faulted .settle).hub ∧ .condFault ∈ (t.port .s).notices) ∧
      (s.cond.state = .lifting → s.cond.settleTimer = none → due 2000 s.cond.liftTimer →
        t.cond = (s.faulted .lift).cond ∧ t.hub = (s.faulted .lift).hub ∧ .condFault ∈ (t.port .s).notices) ∧
      (s.cond.state = .homing → s.cond.settleTimer = none → s.cond.liftTimer = none → due 60000 s.cond.homingTimer →
        t.cond = (s.faulted .homing).cond ∧ t.hub = (s.faulted .homing).hub ∧ .condFault ∈ (t.port .s).notices)

/-- R38, R56, R110, R142, R155, R176 as the model carries them out (log 2, log 36): before a command other than a block's
taking of an event, every outstanding event is taken, oldest first, each with the effect of its row and with those that it
raises, and twice an arrival that is due happens; sweep radii within 100 of each other may leave one due (log 36). No event is
outstanding after that, and the map, the tracker, the settings and the queue of commands are as they were. Before a PAD RESET
and a MAP RESTORE, map updated events wait (R56), so each receiver reads the records as they stand after the request.
A request is dispatched in the state so found (R169), after its frame has restarted the silence timer of a carrier link (R177,
log 1). -/
def Obligations.OutstandingIsTakenFirst : Prop :=
  (∀ s : State, s.drain.events = [] ∧ s.settled.events = [] ∧
    s.settled = { s.settled with
      map := s.map, tracker := s.tracker, settings := s.settings, resetAsserted := s.resetAsserted, pending := s.pending }) ∧
  (∀ (s : State) (e : Event) (rest : List Event), s.events = e :: rest →
    ∃ u, exec e.command s = .next u ∧ s.drain = u.drain) ∧
  (∀ s : State, s.events = [] → s.drain = s ∧ (s.arrivalDue = false → s.settled = s)) ∧
  (∀ s : State, ∃ u v, exec .moveArrival s.drain = .next u ∧ exec .moveArrival u.drain = .next v ∧ s.settled = v.drain) ∧
  (∀ (p : Port) (r : Request) (s : State),
    exec (r.command p) s = .next ((dispatch p r (s.heardFor p r.kind)).compose p r.kind.byte)) ∧
  (∀ (p : Port) (k : Kind) (s : State),
    let mapUpdated := fun e : Event => (e.isCondMapUpdated || e.isGainRecompute || e.isDryCountUpdate)
    let heard := s.hearFrame p
    (k ∉ [Kind.padReset, .mapRestore] → s.heardFor p k = s.heard p) ∧
    (k ∈ [Kind.padReset, .mapRestore] →
      s.heardFor p k =
        { State.settled { heard with events := s.events.filter fun e => !mapUpdated e } with
          events := s.events.filter mapUpdated })) ∧
  ∀ s : State, s.heard .s = s.settled ∧ ∀ l : Lane,
    s.heard l.port =
      State.settled { s with links := { s.links with
        silence := s.links.silence.set l { timer := 0, silent := false, cause := false } } }

/-- 10.1: the kind byte and the payload of a well-formed request read back as that request. The kind codes are those of
section 10.1: 0x01 to 0x1F in the order of the role table. -/
def Obligations.RequestReadsBack : Prop :=
  (∀ k : Kind, k.byte.toNat = 1 +
    [Kind.identRead, .statusRead, .noticesRead, .noteSend, .noteTake, .get, .set, .mapRead, .mapRestore, .padReset,
      .chordLoad, .hubClaim, .hubRelease, .hubForceRelease, .profileStage, .touchdown, .release, .gainLoad, .condMode,
      .condReset, .diskReset, .lineStart, .lineRestart, .lineStop, .feedSelect, .rateSet, .remoteHold, .remoteTrip,
      .resume, .tripClear, .stationRestart].idxOf k) ∧
  ∀ (p : Port) (r : Request), r.wf p = true →
    Kind.ofByte r.kind.byte = some r.kind ∧ Request.ofPayload p r.kind r.payload = some r

/-- R166, R167, R177: a valid frame on a port with no request in process is taken at once, whatever its tag, its kind byte and
its payload of at most 60 bytes. It is dispatched, as DispatchAndReply says of the bytes, in the state in which the receiver
hunts, the silence timer has restarted, the slot is occupied and what was outstanding is taken (log 2), and its reply is sent
under the frame's tag, except while RESET is asserted (R168). The frame of a well-formed request has the effect of the
request's row. Then what a frame does on a port whose in-process slot is occupied, and a frame that fails its length or its
CRC. The model's choice (log 7): the row carries any length and any CRC, a bad one ending as R166's frame error, and it is
taken whether the receiver hunts or collects. R166, R168 and section 10.1: the bytes of a reply frame in their order, the bits
of its flags byte and the codes of the results, and the CRC of requests and replies, each byte most significant bit first. -/
def Obligations.FramesAndSlots : Prop :=
  (let shift := fun reg : BitVec 16 => if reg.getLsbD 15 then (reg <<< 1) ^^^ 0x1021#16 else reg <<< 1
   let crc := fun bytes : List Byte => bytes.foldl (fun (reg : BitVec 16) (byte : Byte) =>
     shift (shift (shift (shift (shift (shift (shift (shift (reg ^^^ (byte.zeroExtend 16 <<< 8)))))))))) 0xFFFF#16
   (∀ (tag kind : Byte) (payload : List Byte),
     requestCrc tag kind payload = crc ([tag, kind, BitVec.ofNat 8 payload.length] ++ payload)) ∧
   ∀ (tag : Byte) (r : Reply),
     let result := [Result.ok, .accepted, .granted, .queued, .held, .withdrawn, .notHeld, .state, .range, .busy, .role,
       .unknownKind, .length, .notReady, .inUse, .causeActive, .mapInvalid, .noChord, .platen, .speed, .notHomed,
       .padSpent, .dry, .stillInside, .boxFull, .boxEmpty].idxOf r.result
     let bit := fun (b : Bool) (weight : Nat) => if b then weight else 0
     let flags := bit r.flags.overrun 1 + bit r.flags.crcSeen 2 + bit r.flags.attention 4 + bit r.flags.clamped 8 +
       bit r.flags.noWeight 16 + bit r.flags.feedNotRestored 32
     let body : List Byte :=
       [tag, r.kind, BitVec.ofNat 8 result, BitVec.ofNat 8 flags, BitVec.ofNat 8 r.payload.length] ++ r.payload
     replyFrame tag r =
       ([0xC3#8] ++ body ++ [((crc body) >>> 8).truncate 8, (crc body).truncate 8] : List Byte)) ∧
  (∀ (p : Port) (tag : Byte) (r : Request) (s : State), r.wf p = true → s.resetAsserted = false →
     (s.port p).inProcess = none → (s.port p).waiting = none →
     ∃ u t : State,
       u = (s.hearFrame p).modPort p (fun k =>
         { k with collecting := false, inProcess := some ⟨tag, r.kind.byte, r.payload⟩ }) ∧
       exec (r.command p) u = .next t ∧
       exec (r.frame p tag) s =
         .next (t.modPort p fun k => { k with sending := k.reply.map (replyFrame tag) })) ∧
  (∀ (p : Port) (tag kind : Byte) (payload : List Byte) (s : State), payload.length ≤ 60 →
     (s.port p).inProcess = none →
     ∃ u t : State,
       u = State.settledFor (Kind.ofByte kind) ((s.hearFrame p).modPort p fun k =>
         { k with collecting := false, inProcess := some ⟨tag, kind, payload⟩ }) ∧
       t = (dispatchBytes p kind payload u).compose p kind ∧
       exec (.validFrame p tag kind payload (requestCrc tag kind payload)) s =
         .next (t.modPort p fun k =>
           { k with sending := if s.resetAsserted then none else k.reply.map (replyFrame tag) })) ∧
  (∀ (p : Port) (tag kind : Byte) (payload : List Byte) (s : State) (q : SlotRequest),
     (payload.length ≤ 60 → (s.port p).inProcess = some q → (s.port p).waiting = none →
       exec (.validFrame p tag kind payload (requestCrc tag kind payload)) s =
         .next ((s.hearFrame p).modPort p fun k =>
           { k with collecting := false, waiting := some ⟨tag, kind, payload⟩ })) ∧
     (payload.length ≤ 60 → (s.port p).inProcess = some q → (s.port p).waiting.isSome = true →
       exec (.validFrame p tag kind payload (requestCrc tag kind payload)) s =
         .next ((s.hearFrame p).modPort p fun k => { k with collecting := false, overrun := true })) ∧
     (∀ crc : BitVec 16, 60 < payload.length ∨ crc ≠ requestCrc tag kind payload →
       exec (.validFrame p tag kind payload crc) s =
         .next (s.modPort p fun k => { k with collecting := false, crcSeen := true })))

/-- R166, R167: frame errors, the 100 µs between bytes, sync bytes, and the end of a reply: it empties the in-process
slot, and a waiting request, whatever its kind byte and its payload, is taken at once, after all that is outstanding (log 2), and
its reply sent, except while RESET is asserted (R168). -/
def Obligations.ReceiverAndSlotEvents : Prop :=
  ∀ (p : Port) (s : State),
    (∀ f, exec (.frameError p f) s = .next (s.modPort p fun k => { k with collecting := false, crcSeen := true })) ∧
    ((s.port p).collecting = true →
      exec (.interByteTimeout p) s = .next (s.modPort p fun k => { k with collecting := false, crcSeen := true })) ∧
    ((s.port p).collecting = false → exec (.interByteTimeout p) s = .next s) ∧
    exec (.syncByte p) s = .next (s.modPort p fun k => { k with collecting := true }) ∧
    ((s.port p).sending = none → exec (.replySent p) s = .next s) ∧
    ((s.port p).sending.isSome = true → (s.port p).waiting = none →
      exec (.replySent p) s = .next (s.modPort p fun k => { k with sending := none, inProcess := none })) ∧
    (∀ (tag : Byte) (r : Request), (s.port p).sending.isSome = true → s.resetAsserted = false → r.wf p = true →
      (s.port p).waiting = some ⟨tag, r.kind.byte, r.payload⟩ →
      ∃ u t : State,
        u = State.settledFor (some r.kind) (s.modPort p fun k =>
          { k with sending := none, inProcess := some ⟨tag, r.kind.byte, r.payload⟩, waiting := none }) ∧
        t = (dispatch p r u).compose p r.kind.byte ∧
        exec (.replySent p) s = .next (t.modPort p fun k => { k with sending := k.reply.map (replyFrame tag) })) ∧
    ∀ q : SlotRequest, (s.port p).sending.isSome = true → (s.port p).waiting = some q →
      ∃ u t : State,
        u = State.settledFor (Kind.ofByte q.kind) (s.modPort p fun k =>
          { k with sending := none, inProcess := some q, waiting := none }) ∧
        t = (dispatchBytes p q.kind q.payload u).compose p q.kind ∧
        exec (.replySent p) s =
          .next (t.modPort p fun k =>
            { k with sending := if s.resetAsserted then none else k.reply.map (replyFrame q.tag) })

/-- R169: an unknown kind, a kind that the role table does not permit on the port, and a payload length that the kind does not
allow are refused in that order, read from a row or from the bytes of a frame; bytes that pass have the effect of the request
they carry; and a refusal changes only the port's reply and its two link flags in the state the request finds, in which its
frame has restarted the silence timer (R177) and what was outstanding is taken (log 2). R168: the reply composed for an
answer, its flags, and the two port flags it clears; nothing else changes. -/
def Obligations.DispatchAndReply : Prop :=
  (∀ (p : Port) (r : Request) (s₀ s : State), s₀.heardFor p r.kind = s →
     (p ≠ .s → r.kind ∈ [Kind.set, .mapRestore, .padReset, .chordLoad, .hubForceRelease, .gainLoad, .condMode,
         .condReset, .diskReset, .lineStart, .lineRestart, .lineStop, .remoteTrip, .tripClear, .stationRestart] →
       exec (r.command p) s₀ = .next (replied p r.kind .role [] s)) ∧
     (p = .s → r.kind ∈ [Kind.hubClaim, .hubRelease, .profileStage, .touchdown, .release, .feedSelect, .rateSet] →
       exec (r.command p) s₀ = .next (replied p r.kind .role [] s)) ∧
     (permitted p r.kind = true → lengthOk p r = false →
       exec (r.command p) s₀ = .next (replied p r.kind .length [] s)) ∧
     (∀ (kind : Byte) (payload : List Byte), kind.toNat = 0 ∨ 31 < kind.toNat →
       dispatchBytes p kind payload s = refuse .unknownKind s) ∧
     (∀ (k : Kind) (payload : List Byte), permitted p k = false → dispatchBytes p k.byte payload s = refuse .role s) ∧
     (∀ (k : Kind) (payload : List Byte), permitted p k = true → Request.ofPayload p k payload = none →
       dispatchBytes p k.byte payload s = refuse .length s) ∧
     (∀ payload : List Byte, permitted p r.kind = true → lengthOk p r = true →
       Request.ofPayload p r.kind payload = some r → dispatchBytes p r.kind.byte payload s = dispatch p r s)) ∧
  (∀ (a : Answer) (p : Port) (kind : Byte),
     ((a.compose p kind).port p).reply = some
       { kind := kind
         result := a.result
         flags :=
           { overrun := (a.state.port p).overrun
             crcSeen := (a.state.port p).crcSeen
             attention := decide ((a.state.port p).notices ≠ [])
             clamped := a.clamped
             noWeight := a.noWeight
             feedNotRestored := a.feedNotRestored }
         payload := a.payload } ∧
     ((a.compose p kind).port p).overrun = false ∧ ((a.compose p kind).port p).crcSeen = false ∧
     (a.compose p kind).modPort p (fun k =>
       { k with
         reply := (a.state.port p).reply, overrun := (a.state.port p).overrun, crcSeen := (a.state.port p).crcSeen }) =
       a.state)

/-! ### Requests that every port may send, and the settings -/

/-- R172, R175, R176, R179: IDENT READ, NOTICES READ (bit i of the set's three bytes is set exactly when notice i belongs),
and STATUS READ, whose pages open with the valid revolution count and the station state, fit in 58 bytes, and carry the items
of R20, R40, R72, R97, R122, R146, R163 and R176 page by page. The model's choices in their bytes are log 13 and log 37, a
measured flow above 65535 is a free value (log 12), and a kept LINK_SILENT entry is reported inactive in a later silence (log
30). -/
def Obligations.ReadRequests : Prop :=
  (∀ (p : Port) (s₀ s : State), s₀.heard p = s →
     exec (.identRead p) s₀ =
       .next (replied p .identRead .ok ([0x3A, 0x17, 0x73, 0x20, 0x01] ++ beBytes 6 Config.stationSerial.toNat) s) ∧
     ∃ set : List Byte,
       exec (.noticesRead p) s₀ = .next (replied p .noticesRead .ok set (s.modPort p fun k => { k with notices := [] })) ∧
       set.length = 3 ∧ ∀ n : Notice, (beNat set).testBit (Notice.all.idxOf n) = decide (n ∈ (s.port p).notices)) ∧
  (∀ (p : Port) (page : Nat) (s₀ s : State), s₀.heard p = s →
     let one := fun n : Nat => beBytes 1 n
     let two := fun n : Nat => beBytes 2 n
     let flag := fun b : Bool => one (if b then 1 else 0)
     let optional := fun x : Option Nat =>
       match x with
       | none => ([0, 0] : List Byte)
       | some n => [1] ++ one n
     let bits := fun members : List Bool => setBytes 1 members
     let six := fun t : Six Nat => two t.z1 ++ two t.z2 ++ two t.z3 ++ two t.z4 ++ two t.z5 ++ two t.ring
     let count := fun st : BandState => one (s.map.bands.countP fun b => decide (b.state = st))
     let counts := count .fresh ++ count .glazing ++ count .glazed ++ count .worn
     let arm := fun m : Arm => beBytes 4 (s.arm m).count.toNat ++ flag (s.arm m).referenced ++ flag (s.arm m).inside
     let holder := optional (s.hub.holder.map armCode)
     let sender := fun q : Port => (s.port q).noteBox.map fun n => portCode n.sender
     let noteLength := fun q : Port => one (((s.port q).noteBox.map fun n => n.bytes.length).getD 0)
     let silent := fun l : Lane => flag (s.links.silence.get l).silent
     let hold := fun l : Lane =>
       let member := fun k : CauseKind => (s.causes l).any fun e => decide (e.kind = k)
       let channels := ((s.causes l).find? fun e => decide (e.kind = .pressureFault)).map (·.channels)
       one (s.holdLevel l).code ++ optional ((s.matrix.remoteHold.get l).map Severity.code) ++
         one (s.matrix.dryCount.get l) ++ bits (CauseKind.all.map member) ++
         bits (CauseKind.all.map fun k => (s.causes l).any fun e => decide (e.kind = k ∧ e.severity = .hard)) ++
         bits (CauseKind.all.map fun k => member k && s.causeActive l k) ++
         bits (match channels with
           | none => []
           | some c => [c.z1, c.z2, c.z3, c.z4, c.z5, c.ring])
     let targets := fun l : Lane =>
       let x := s.lane l
       one x.state.code ++ optional (x.pending.map PendingApply.code) ++ six x.active ++ six x.staged ++
         six (x.channels.map (·.effective)) ++ one x.gain ++ one x.bucket ++ flag x.compClamped ++
         bits [x.channels.z1.fault, x.channels.z2.fault, x.channels.z3.fault, x.channels.z4.fault, x.channels.z5.fault,
           x.channels.ring.fault]
     let commands := fun l : Lane =>
       let x := s.lane l
       six (x.channels.map (·.command)) ++ six (x.channels.map (·.readback)) ++ flag x.supplyLow ++ flag x.compEnable ++
         (match x.compPosition with
           | none => [0, 0, 0, 0, 0, 0]
           | some q => [1] ++ beBytes 4 q.position ++ flag q.referenced)
     let supply := two s.press.supplyReading ++ two s.press.supplyTimer
     let line := fun k : Line =>
       let x := s.line k
       one x.state.code ++ two x.prime ++
         two (if x.measured ≤ 65535 then x.measured else (Config.flowFieldAbove65535 x.measured).toNat) ++ two x.demand ++
         flag x.servedLow ++ two x.setpoint ++ two x.duty
     let bar := fun l : Lane =>
       let b := s.bar l
       one (feedCode b.feed) ++ flag b.fallback ++
         (match b.resume with
           | none => [0, 0, 0]
           | some y => [1] ++ one (feedCode (some y.line)) ++ flag y.fallback) ++
         two b.rate ++ one b.weights.inner ++ one b.weights.middle ++ one b.weights.outer ++ flag b.wet
     let outlet := fun (l : Lane) (o : Outlet) =>
       let y := (s.bar l).outlets.get o
       two y.demand ++ two y.served ++ two y.valve
     let entry := fun n : Nat =>
       match s.cond.queue[n]? with
       | none => ([0, 0, 0, 0, 0] : List Byte)
       | some e => one e.band ++ two e.rankedWear ++ optional e.rest
     let summary :=
       flag s.map.valid ++ counts ++ one s.tracker.state.code ++ holder ++ one (s.lane .a).state.code ++
         one (s.holdLevel .a).code ++ one (s.lane .b).state.code ++ one (s.holdLevel .b).code ++
         one s.cond.state.code ++ one s.cond.mode.code ++ one (s.line .l1).state.code ++ one (s.line .l2).state.code ++
         one (s.line .l3).state.code ++ one (feedCode (s.bar .a).feed) ++ one (feedCode (s.bar .b).feed) ++
         bits [!(s.port .s).notices.isEmpty, !(s.port .a).notices.isEmpty, !(s.port .b).notices.isEmpty] ++
         bits [(s.port .s).noteBox.isSome, (s.port .a).noteBox.isSome, (s.port .b).noteBox.isSome] ++
         one ((sender .s).getD 0) ++ one ((sender .a).getD 0) ++ one ((sender .b).getD 0) ++
         noteLength .s ++ noteLength .a ++ noteLength .b ++ silent .a ++ silent .b
     let mapAndTracker :=
       flag s.map.valid ++ setBytes 3 s.map.restored ++ beBytes 4 s.map.revCount.toNat ++ counts ++
         one s.tracker.state.code ++ one s.tracker.suspectRun ++ beBytes 3 s.tracker.period ++ two s.tracker.speed ++
         flag s.tracker.inWindow ++ arm .a ++ arm .b ++ arm .cond
     let hubAndLinks :=
       let port := fun q : Port => optional (sender q) ++ noteLength q ++ flag (s.port q).notices.isEmpty
       holder ++ one s.hub.waitList.length ++
         (match s.hub.waitList with
           | [] => [0, 0]
           | [m] => one (armCode m) ++ [0]
           | m :: n :: _ => one (armCode m) ++ one (armCode n)) ++
         bits [s.hub.intruders.a, s.hub.intruders.b, s.hub.intruders.cond] ++
         one ([Arm.a, .b, .cond].countP fun m => (s.arm m).referenced && (s.arm m).inside) ++
         port .s ++ port .a ++ port .b ++ silent .a ++ silent .b
     let conditioner :=
       let c := s.cond
       one c.mode.code ++ one s.settings.cond.policy.code ++ one c.state.code ++
         (match c.target with
           | none => [0, 0, 0]
           | some (.band k) => [1, 0] ++ one k
           | some .sweepStart => [1, 1, 0]
           | some .sweepResume => [1, 2, 0]
           | some .park => [1, 3, 0]) ++
         one c.dwell ++ beBytes 4 c.stepPos.toNat ++ two c.dfCommand ++ two c.dfReadback ++ beBytes 3 c.diskLife ++
         flag c.spent ++ optional (c.faultKind.map FaultKind.code) ++ one c.queue.length ++ entry 0 ++ entry 1 ++
         entry 2 ++ entry 3
     let matrix :=
       let g := s.settings.matrix
       let inputs : List InputIndex := [0, 1, 2, 3, 4, 5, 6, 7]
       bits (inputs.map fun i => (s.matrix.input i).accepted) ++
         bits (inputs.map fun i => xor (s.matrix.input i).accepted (g.invertMask.getLsbD i)) ++ one g.invertMask.toNat ++
         one (g.masks.get .holdA).toNat ++ one (g.masks.get .holdB).toNat ++ one (g.masks.get .stationTrip).toNat ++
         one (g.masks.get .slurryStop).toNat ++
         bits [s.targetActive .holdA, s.targetActive .holdB, s.targetActive .stationTrip, s.targetActive .slurryStop] ++
         one (g.severity.get .a).code ++ one (g.severity.get .b).code ++ one s.matrix.station.code ++
         bits (TripCause.all.map fun c => decide (c ∈ s.matrix.tripCauses)) ++
         bits (TripCause.all.map fun c => decide (c ∈ s.matrix.tripCauses) && s.tripActive c) ++ hold .a ++ hold .b
     let laneSummary := fun l : Lane =>
       flag s.map.valid ++ beBytes 4 s.map.revCount.toNat ++ flag (s.map.bands.any fun b => decide (b.state = .worn)) ++
         flag ((List.range 20).any fun k => decide (0 < s.laneChord l k ∧ (s.map.band k).state = .glazed)) ++
         one s.tracker.state.code ++ two s.tracker.speed ++ flag s.tracker.inWindow ++ arm l.arm ++
         one (if s.hub.holder = some l.arm then 0
           else if l.arm ∈ s.hub.waitList then s.hub.waitList.idxOf l.arm + 1 else 3) ++
         flag s.hub.holder.isNone ++ flag (s.hub.intruders.get l.arm) ++ one s.matrix.station.code ++ hold l ++
         one s.cond.state.code ++
         optional (match s.cond.target with
           | some (.band k) => some k
           | _ => none) ++ optional (sender l.port) ++ silent l
     let ownBar := fun l : Lane =>
       bar l ++ two ((s.bar l).outlets.get .inner).served ++ two ((s.bar l).outlets.get .middle).served ++
         two ((s.bar l).outlets.get .outer).served ++ optional ((s.bar l).feed.map fun k => (s.line k).state.code)
     let items :=
       match p.lane?, page with
       | none, 0 => summary
       | none, 1 => mapAndTracker
       | none, 2 => hubAndLinks
       | none, 3 => targets .a
       | none, 4 => commands .a ++ supply
       | none, 5 => targets .b
       | none, 6 => commands .b
       | none, 7 => conditioner
       | none, 8 => line .l1 ++ line .l2 ++ line .l3
       | none, 9 => bar .a ++ outlet .a .inner ++ outlet .a .middle ++ outlet .a .outer
       | none, 10 => bar .b ++ outlet .b .inner ++ outlet .b .middle ++ outlet .b .outer
       | none, _ => matrix
       | some l, 0 => laneSummary l
       | some l, 1 => targets l
       | some l, 2 => commands l ++ supply
       | some l, _ => ownBar l
     (page ≤ (if p = .s then 11 else 3) →
       items.length ≤ 53 ∧
         exec (.statusRead p (some page)) s₀ =
           .next (replied p .statusRead .ok
             (beBytes 4 s.map.revCount.toNat ++ beBytes 1 s.matrix.station.code ++ items) s)) ∧
     exec (.statusRead p none) s₀ = exec (.statusRead p (some 0)) s₀ ∧
     ((if p = .s then 11 else 3) < page →
       exec (.statusRead p (some page)) s₀ = .next (replied p .statusRead .range [] s)))

/-- R173, R174: NOTE SEND and NOTE TAKE by their cases. -/
def Obligations.Notes : Prop :=
  (∀ (p q : Port) (bytes : List Byte) (s₀ s : State), s₀.heard p = s → 1 ≤ bytes.length → bytes.length ≤ 16 →
     (q ≠ p → (s.port q).noteBox = none →
       ∃ u, exec (.noteSend p (portCode q) bytes) s₀ = .next (replied p .noteSend .ok [] u) ∧
         u = s.modPort q (fun _ => u.port q) ∧
         u.port q = { s.port q with noteBox := some ⟨p, bytes⟩, notices := (u.port q).notices } ∧
         ∀ n, n ∈ (u.port q).notices ↔ n = .noteArrived ∨ n ∈ (s.port q).notices) ∧
     exec (.noteSend p (portCode p) bytes) s₀ = .next (replied p .noteSend .range [] s) ∧
     (∀ n, 2 < n → exec (.noteSend p n bytes) s₀ = .next (replied p .noteSend .range [] s)) ∧
     (q ≠ p → (s.port q).noteBox ≠ none →
       exec (.noteSend p (portCode q) bytes) s₀ = .next (replied p .noteSend .boxFull [] s))) ∧
  (∀ (p : Port) (s₀ s : State), s₀.heard p = s →
     ((s.port p).noteBox = none → exec (.noteTake p) s₀ = .next (replied p .noteTake .boxEmpty [] s)) ∧
     (∀ n : Note, (s.port p).noteBox = some n → n.sender ≠ p →
       ∃ u, exec (.noteTake p) s₀ =
           .next (replied p .noteTake .ok ([BitVec.ofNat 8 (portCode n.sender)] ++ n.bytes) u) ∧
         u = (s.modPort p fun k => { k with noteBox := none }).modPort n.sender (fun _ => u.port n.sender) ∧
         u.port n.sender = { s.port n.sender with notices := (u.port n.sender).notices } ∧
         ∀ x, x ∈ (u.port n.sender).notices ↔ x = .noteTaken ∨ x ∈ (s.port n.sender).notices))

/-- R180, R181: GET, and the refusals of a SET in their order, each of which leaves the state it finds as it is. The table of
section 10.4 row by row: the ids with their instances, the ranges, the defaults, the constraints between settings (the range
of a recirculation flow, up to the line's max flow, is one) and the quiet conditions. -/
def Obligations.GetAndSetRefusals : Prop :=
  let lanes := fun f : Lane → Item => [f .a, f .b]
  let lines := fun f : Line → Item => [f .l1, f .l2, f .l3]
  let outlets := fun f : Lane → Outlet → Item =>
    [f .a .inner, f .a .middle, f .a .outer, f .b .inner, f .b .middle, f .b .outer]
  let table : List (Nat × List Item) :=
    [(0x01, [.glazeWarn]), (0x02, [.glazeLimit]), (0x03, [.condStart]), (0x04, [.condStop]), (0x05, [.cutGain]),
      (0x06, [.heightGain]), (0x07, [.padLife])] ++
    [(0x10, [.stallLimit]), (0x11, [.windowLower]), (0x12, [.windowUpper]), (0x13, lanes .homePreset), (0x14, [.hubSize]),
      (0x15, lanes .laneReach), (0x16, [.condReach])] ++
    [(0x20, [.limit .a .z1, .limit .a .z2, .limit .a .z3, .limit .a .z4, .limit .a .z5, .limit .a .ring,
        .limit .b .z1, .limit .b .z2, .limit .b .z3, .limit .b .z4, .limit .b .z5, .limit .b .ring]),
      (0x21, lanes .rampRate), (0x22, lanes .softHold), (0x23, [.supplyMin]), (0x24, [.supplyTime]), (0x25, [.tolerance]),
      (0x26, [.deviationTime])] ++
    [(0x30, [.policy]), (0x31, [.parkRadius]), (0x32, [.sweepSpeed]), (0x33, [.sweepInner]), (0x34, [.sweepOuter]),
      (0x35, [.downforce]), (0x36, [.downforceLimit]), (0x37, [.dwellLimit]), (0x38, [.diskLifeLimit])] ++
    [(0x40, lines .maxFlow), (0x41, lines .recirculation), (0x42, lines .primeCount), (0x43, lines .primeFlow),
      (0x44, lines .stopTimeout), (0x45, lines .fallback), (0x46, lines .pulsesPerLitre), (0x47, lanes .barMax),
      (0x48, outlets .outletFirst), (0x49, outlets .outletCount), (0x4A, outlets .outletMax)] ++
    [(0x50, [.debounceTime]), (0x51, [.invertMask]),
      (0x52, [.mask .holdA, .mask .holdB, .mask .stationTrip, .mask .slurryStop]), (0x53, lanes .severity),
      (0x54, [.dryLimit]), (0x55, [.polarity .armStop, .polarity .slurryShutoff, .polarity .stationReady]),
      (0x60, [.linkSilence])]
  let row : Item → Nat × Nat × Nat := fun
    | .glazeWarn => (0, 65535, 24576)
    | .glazeLimit => (1, 65535, 49152)
    | .condStart => (1, 65535, 16384)
    | .condStop => (0, 65534, 8192)
    | .cutGain => (0, 255, 64)
    | .heightGain => (0, 255, 16)
    | .padLife => (100, 4000, 1500)
    | .stallLimit => (500, 10000, 5000)
    | .windowLower => (10, 6000, 200)
    | .windowUpper => (10, 6000, 1500)
    | .homePreset _ => (0, 45000, 44000)
    | .hubSize => (1, 6, 3)
    | .laneReach _ => (10000, 20000, 16500)
    | .condReach => (1000, 10000, 5000)
    | .limit _ c => (0, 1000, if c = .ring then 900 else 700)
    | .rampRate _ => (10, 5000, 200)
    | .softHold _ => (0, 1000, 50)
    | .supplyMin => (0, 10000, 2000)
    | .supplyTime => (100, 10000, 2000)
    | .tolerance => (5, 200, 20)
    | .deviationTime => (20, 2000, 200)
    | .policy => (0, 1, 1)
    | .parkRadius => (40000, 45000, 43000)
    | .sweepSpeed => (5, 200, 40)
    | .sweepInner => (0, 40000, 12000)
    | .sweepOuter => (0, 40000, 36000)
    | .downforce => (0, 500, 200)
    | .downforceLimit => (0, 500, 500)
    | .dwellLimit => (1, 64, 8)
    | .diskLifeLimit => (1, 16777215, 200000)
    | .maxFlow _ => (50, 2000, 1000)
    | .recirculation _ => (0, 2000, 100)
    | .primeCount _ => (0, 4096, 256)
    | .primeFlow _ => (10, 2000, 500)
    | .stopTimeout _ => (50, 5000, 500)
    | .fallback _ => (0, 3, 0)
    | .pulsesPerLitre _ => (100, 10000, 2000)
    | .barMax _ => (10, 2000, 300)
    | .outletFirst _ o => (0, 19, if o = .inner then 0 else if o = .middle then 7 else 14)
    | .outletCount _ o => (1, 20, if o = .outer then 6 else 7)
    | .outletMax _ _ => (10, 500, 200)
    | .debounceTime => (0, 15, 5)
    | .invertMask => (0, 255, 0)
    | .mask _ => (0, 255, 0)
    | .severity _ => (0, 1, 1)
    | .dryLimit => (0, 8, 2)
    | .polarity _ => (0, 1, 0)
    | .linkSilence => (50, 2000, 250)
  (∀ id inst, Item.ofCode id inst = (table.lookup id).bind fun items => items[inst]?) ∧
  (∀ (item : Item) (v : Nat),
    ((∀ k, item ≠ .recirculation k ∧ item ≠ .primeCount k) →
      (item.inRange v = true ↔ (row item).1 ≤ v ∧ v ≤ (row item).2.1)) ∧
    (∀ k, (Item.primeCount k).inRange v = true ↔ v ∈ [0, 64, 256, 1024, 4096])) ∧
  (∀ (k : Line) (v : Nat) (g : Settings), g.consistent = true →
    ((Item.recirculation k).inRange v = true ∧ (g.put (.recirculation k) v).consistent = true ↔
      v ≤ g.slurry.maxFlow.get k)) ∧
  (∀ item : Item, item.value State.reset.settings = (row item).2.2) ∧
  (∀ g : Settings, g.consistent = true ↔
    g.map.condStop < g.map.condStart ∧ g.map.condStart ≤ g.map.glazeLimit ∧ g.map.glazeWarn ≤ g.map.glazeLimit ∧
      g.tracker.windowLower ≤ g.tracker.windowUpper ∧ g.cond.sweepInner < g.cond.sweepOuter ∧
      ∀ k, g.slurry.recirculation.get k ≤ g.slurry.maxFlow.get k ∧ g.slurry.fallback.get k ≠ some k) ∧
  (∀ (item : Item) (s : State),
    let hubQuiet := s.hub.holder = none ∧ s.hub.waitList = []
    (item ∈ [.glazeWarn, .glazeLimit, .condStart, .condStop, .cutGain, .heightGain, .padLife] →
      (item.quiet s = true ↔ s.cond.mode = .off)) ∧
    (item = .hubSize → (item.quiet s = true ↔ hubQuiet)) ∧
    (∀ l, item = .laneReach l → (item.quiet s = true ↔ hubQuiet ∧ (s.lane l).state = .raised)) ∧
    (item = .condReach → (item.quiet s = true ↔ hubQuiet ∧ s.cond.state = .parked)) ∧
    (item = .parkRadius → (item.quiet s = true ↔ s.cond.state = .unreferenced ∨ s.cond.state = .fault)) ∧
    (item = .sweepInner ∨ item = .sweepOuter → (item.quiet s = true ↔ s.cond.mode ≠ .sweep)) ∧
    (∀ k, item = .primeCount k → (item.quiet s = true ↔ (s.line k).state ≠ .priming)) ∧
    (∀ l o, item = .outletFirst l o ∨ item = .outletCount l o → (item.quiet s = true ↔ (s.bar l).feed = none)) ∧
    (item ∉ [.glazeWarn, .glazeLimit, .condStart, .condStop, .cutGain, .heightGain, .padLife, .hubSize, .condReach,
        .parkRadius, .sweepInner, .sweepOuter] →
      (∀ l o k, item ≠ .laneReach l ∧ item ≠ .primeCount k ∧ item ≠ .outletFirst l o ∧ item ≠ .outletCount l o) →
      item.quiet s = true)) ∧
  (∀ (p : Port) (id inst : Nat) (s₀ s : State), s₀.heard p = s →
     (∀ item, Item.ofCode id inst = some item →
       exec (.get p id inst) s₀ =
         .next (replied p .get .ok (beBytes 1 id ++ beBytes 1 inst ++ beBytes 4 (item.value s.settings)) s)) ∧
     (Item.ofCode id inst = none → exec (.get p id inst) s₀ = .next (replied p .get .range [] s))) ∧
  (∀ (id inst v : Nat) (s₀ s : State), s₀.heard .s = s →
     (Item.ofCode id inst = none → exec (.set .s id inst v) s₀ = .next (replied .s .set .range [] s)) ∧
     ∀ item, Item.ofCode id inst = some item →
       (item.inRange v = false ∨ (s.settings.put item v).consistent = false →
         exec (.set .s id inst v) s₀ = .next (replied .s .set .range [] s)) ∧
       (item.inRange v = true → (s.settings.put item v).consistent = true → item.quiet s = false →
         exec (.set .s id inst v) s₀ = .next (replied .s .set .busy [] s)))

/-- R180: an accepted SET makes its value the one in force and leaves every other setting as it was. The model's reading
(log 34, where R180 and R120 differ): the value already in force changes nothing, for every item. -/
def Obligations.SetReplacesOneSetting : Prop :=
  ∀ (id inst v : Nat) (item : Item) (s₀ s : State), s₀.heard .s = s → Item.ofCode id inst = some item →
    item.inRange v = true → (s.settings.put item v).consistent = true → item.quiet s = true →
    ∃ u, exec (.set .s id inst v) s₀ =
        .next (replied .s .set .ok (beBytes 1 id ++ beBytes 1 inst ++ beBytes 4 v) u) ∧
      item.value u.settings = v ∧ (∀ other, other ≠ item → other.value u.settings = other.value s.settings) ∧
      (item.value s.settings = v → u = s)

/-- R35, R38, R39, R90, R95, R111, R120, R136, R139, R145, R150, R177: what an accepted SET of a new value brings beside the
value itself, item by item, with what it leaves as it was. `put` is the state with the value alone replaced. The model's
choices: the silence timer that a SET of the link silence time stops holds the new time (log 41); where the disk life limit
lets a PARKED conditioner act, its selection passes over an entry that rests under a lane that is down as resting (log 38),
and how it meets a grant event on its way and where its settle timer starts is log 17 and log 40. An INPUT entry that a mask
adds has the lane's hold severity (R152). -/
def Obligations.SetTakesEffect : Prop :=
  ∀ (id inst v : Nat) (item : Item) (s₀ s : State), s₀.heard .s = s → Item.ofCode id inst = some item →
    item.inRange v = true → (s.settings.put item v).consistent = true → item.quiet s = true → item.value s.settings ≠ v →
    ∃ u, exec (.set .s id inst v) s₀ =
        .next (replied .s .set .ok (beBytes 1 id ++ beBytes 1 inst ++ beBytes 4 v) u) ∧
      let put : State := { s with settings := s.settings.put item v }
      let alone : Item → Bool := fun
        | .glazeWarn | .glazeLimit | .condStart | .condStop | .cutGain | .heightGain | .padLife | .homePreset _ => true
        | .rampRate _ | .supplyMin | .supplyTime | .tolerance | .deviationTime | .policy | .parkRadius | .sweepSpeed => true
        | .sweepInner | .sweepOuter | .downforce | .dwellLimit | .primeCount _ | .fallback _ | .pulsesPerLitre _ => true
        | .outletFirst _ _ | .outletCount _ _ | .debounceTime | .severity _ | .dryLimit | .polarity _ => true
        | _ => false
      let sameLines := ∀ k, s.lineKept u k
      let sameBars := ∀ x, s.barKept u x ∧ (u.bar x).weights = (s.bar x).weights
      (alone item = true → u = put) ∧
      (item = .stallLimit →
        ((∀ n, s.tracker.stallTimer = some n → n < v) → u = put) ∧
        (∀ n, s.tracker.stallTimer = some n → v ≤ n → s.tracker.state = .tracking ∨ s.tracker.state = .lost →
          u.tracker = { s.tracker with state := .stalled, stallTimer := none, platenSuspect := true, disturbed := true } ∧
            u.map = { s.map with suspect := true } ∧ (∀ p, .platenState ∈ (u.port p).notices) ∧ s.tripsTo .platenStall u ∧
            s.onlyFiled u ∧ s.onlyCaused u ∧
            u = { put with
              tracker := u.tracker, map := u.map, matrix := u.matrix, links := u.links, events := u.events })) ∧
      (item = .windowLower ∨ item = .windowUpper →
        let now := decide (put.settings.tracker.windowLower ≤ s.tracker.speed ∧
          s.tracker.speed ≤ put.settings.tracker.windowUpper)
        u.tracker = { s.tracker with inWindow := now } ∧ u = { put with tracker := u.tracker, links := u.links } ∧
          (now = s.tracker.inWindow → u.links = s.links) ∧ s.onlyFiled u ∧
          (now ≠ s.tracker.inWindow → ∀ p n, n ∈ (u.port p).notices ↔ n = .speedWindow ∨ n ∈ (s.port p).notices)) ∧
      (item = .hubSize ∨ (∃ l, item = .laneReach l) ∨ item = .condReach →
        let now := fun m => (s.arm m).referenced &&
          decide ((s.arm m).count.toInt - (put.reach m : Int) < (put.settings.tracker.hubSize * 2000 : Nat))
        let crossing := fun m =>
          if now m = (s.arm m).inside then [] else if now m then [Event.hubEntry m] else [Event.hubExit m]
        (∀ m, u.arm m = { s.arm m with inside := now m }) ∧
          u.events = s.events ++ crossing .a ++ crossing .b ++ crossing .cond ∧
          u = { put with tracker := { s.tracker with arms := u.tracker.arms }, events := u.events }) ∧
      (∀ l c, item = .limit l c →
        let x := s.lane l
        let y := u.lane l
        let limits := (s.settings.press.limit.get l).set c v
        u = put.modLane l (fun _ => y) ∧ y.staged = x.staged.set c (min (x.staged.get c) v) ∧
          y.active = x.active.set c (min (x.active.get c) v) ∧
          y.channels.map (·.effective) = effectiveTargets x.gain y.active limits ∧
          (y.compClamped = true ↔ ∃ z, z ≠ .ring ∧ limits.get z < (y.active.get z * (1024 + x.gain) + 512) / 1024) ∧
          put.drives l y ∧
          (∀ z, y.channels.get z = { x.channels.get z with
              effective := (y.channels.get z).effective, drive := (y.channels.get z).drive
              command := (y.channels.get z).command, remainder := (y.channels.get z).remainder } ∧
            (z ≠ c ∨ (x.channels.get z).command ≤ v → (y.channels.get z).command = (x.channels.get z).command ∧
              (y.channels.get z).remainder = (x.channels.get z).remainder)) ∧
          (v < (x.channels.get c).command → (y.channels.get c).command = v ∧ (y.channels.get c).remainder = 0) ∧
          y = { x with
            staged := y.staged, active := y.active, channels := y.channels, compClamped := y.compClamped }) ∧
      (∀ l, item = .softHold l →
        u = put.modLane l (fun _ => u.lane l) ∧ u.lane l = { s.lane l with channels := (u.lane l).channels } ∧
          put.drives l (u.lane l) ∧ ∀ z, (u.lane l).channels.get z =
              { (s.lane l).channels.get z with drive := ((u.lane l).channels.get z).drive }) ∧
      (item = .downforceLimit → u = { put with cond := { s.cond with dfCommand := min s.cond.dfCommand v } }) ∧
      (item = .diskLifeLimit →
        let judged : State := { put with cond := { s.cond with spent := decide (v ≤ s.cond.diskLife) } }
        (s.cond.spent = false → v ≤ s.cond.diskLife → .diskSpent ∈ (u.port .s).notices) ∧
          (v ≤ s.cond.diskLife ∨ s.cond.mode = .off ∨ s.cond.state ≠ .parked →
            u = { judged with links := u.links } ∧ s.onlyFiled u) ∧
          (s.cond.diskLife < v → s.cond.state = .parked → s.hub.lawful → judged.modeActed u)) ∧
      ((∃ k, item = .maxFlow k ∨ item = .recirculation k ∨ item = .primeFlow k) →
        u = { put with slurry := u.slurry } ∧ u.slurry.flowsTrue put.settings.slurry ∧ sameBars ∧ sameLines ∧
          u.slurry.windowMs = s.slurry.windowMs ∧ ∀ x, (u.bar x).rate = (s.bar x).rate) ∧
      (∀ k, item = .stopTimeout k →
        let runs := ((s.line k).state = .priming ∨ (s.line k).state = .ready) ∧ 0 < (s.line k).duty
        (runs → v ≤ (s.line k).lastPulse →
          u = { put with slurry := u.slurry, links := u.links } ∧ (u.line k).duty = 0 ∧
            State.lineKept (s.modLine k fun y =>
              { y with state := .stopped, prime := if y.state = .priming then 0 else y.prime }) u k ∧
            .lineStopped ∈ (u.port .s).notices ∧ u.slurry.flowsTrue put.settings.slurry ∧ s.barsMoved k u ∧
            s.onlyFiled u ∧ u.slurry.windowMs = s.slurry.windowMs ∧ ∀ j, j ≠ k → s.lineKept u j) ∧
        (¬ runs ∨ (s.line k).lastPulse < v → u = put)) ∧
      (∀ l, item = .barMax l →
        u = { put with slurry := u.slurry } ∧ u.slurry.flowsTrue put.settings.slurry ∧ sameBars ∧
          (u.bar l).rate = min (s.bar l).rate v ∧ (∀ x, x ≠ l → (u.bar x).rate = (s.bar x).rate) ∧ sameLines ∧
          u.slurry.windowMs = s.slurry.windowMs) ∧
      (∀ l o, item = .outletMax l o →
        u = put.modBar l fun b =>
          let x := b.outlets.get o
          { b with outlets := b.outlets.set o { x with valve := min 4095 (x.served * 4095 / v) } }) ∧
      (item = .invertMask ∨ (∃ x, item = .mask x) →
        let rises := fun x => s.targetActive x = false ∧ put.targetActive x = true
        u = { put with matrix := u.matrix, links := u.links, events := u.events } ∧
          s.onlyFiled u ∧ s.onlyCaused u ∧ s.levelsTold u ∧
          (∀ l : Lane, rises l.holdTarget →
            (∃ e ∈ u.causes l, e.kind = .input ∧ (s.settings.matrix.severity.get l = .hard → e.severity = .hard)) ∧
              u.holdLevel l ≠ .none) ∧
          (∀ l : Lane, ¬ rises .stationTrip →
            (¬ rises l.holdTarget → u.causes l = s.causes l) ∧
            (rises l.holdTarget → s.causes l = [] → u.causes l =
              [{ kind := .input, severity := s.settings.matrix.severity.get l, channels := .all false }])) ∧
          (rises .stationTrip → u.matrix.station = .tripped ∧ .input ∈ u.matrix.tripCauses ∧
            (s.matrix.station = .normal → ∀ l, u.holdLevel l = .hard)) ∧
          (rises .slurryStop → .slurryStop ∈ u.events) ∧ ((∀ x, ¬ rises x) → u = put)) ∧
      (item = .linkSilence →
        u = { put with matrix := u.matrix, links := u.links, events := u.events } ∧
          u.matrix = { s.matrix with causes := u.matrix.causes } ∧ s.portsFiled u ∧ s.onlyCaused u ∧ s.levelsTold u ∧
          (∀ l, ((s.links.silence.get l).silent = true ∨ (s.links.silence.get l).timer < v →
              u.links.silence.get l = s.links.silence.get l ∧ u.causes l = s.causes l) ∧
            ((s.links.silence.get l).silent = false → v ≤ (s.links.silence.get l).timer →
              u.links.silence.get l = { timer := v, silent := true, cause := decide ((s.lane l).state ≠ .raised) } ∧
                ((s.lane l).state ≠ .raised →
                  (∃ e ∈ u.causes l, e.kind = .linkSilent ∧ e.severity = .hard) ∧ u.holdLevel l = .hard) ∧
                ((s.lane l).state = .raised → u.causes l = s.causes l))))

/-! ### The map -/

/-- R18: a MAP READ answers with the validity, the first band and the count, then one record a band while VALID, or the
restored-band set while INVALID; a run that is empty, too long or past band 19 is refused. The model's choice (log 37): bits 5
and 6 of the first byte and bits 20 to 23 of the restored-band set are 0. -/
def Obligations.MapReadAnswers : Prop :=
  ∀ (p : Port) (first count : Nat) (s₀ s : State), s₀.heard p = s →
    (1 ≤ count → count ≤ 7 → first + count ≤ 20 →
      ∃ body : List Byte,
        exec (.mapRead p first count) s₀ =
          .next (replied p .mapRead .ok
            (beBytes 1 ((if s.map.valid then 128 else 0) + first) ++ beBytes 4 s.map.revCount.toNat ++ body) s) ∧
        (s.map.valid = true → body.length = 7 * count ∧ ∀ j, j < count →
          (body.drop (7 * j)).take 7 =
            beBytes 2 (s.map.band (first + j)).wear ++
              beBytes 3 ((s.map.band (first + j)).state.code * 2 ^ 22 + (s.map.band (first + j)).height) ++
              beBytes 2 (match (s.map.band (first + j)).glazedSince with
                | none => 0
                | some since => min 65535 (s.map.revCount - since).toNat)) ∧
        (s.map.valid = false → body = setBytes 3 s.map.restored)) ∧
    (count = 0 ∨ 7 < count ∨ 20 < first + count →
      exec (.mapRead p first count) s₀ = .next (replied p .mapRead .range [] s))

/-- R3, R14 to R17: an accepted MAP RESTORE stores and classifies each entry, with its glazed-since, and leaves the other bands;
the request that completes the twenty bands makes the map VALID and tells the conditioner controller; the refusals come in
their order. -/
def Obligations.MapRestoreStores : Prop :=
  ∀ (entries : List RestoreEntry) (s₀ s : State), s₀.heardFor .s .mapRestore = s → 1 ≤ entries.length → entries.length ≤ 7 →
    ((∃ e ∈ entries, 19 < e.band ∨ 65535 < e.wear ∨ 4000 < e.heightUm) ∨ ¬ (entries.map (·.band)).Nodup →
      exec (.mapRestore .s entries) s₀ = .next (replied .s .mapRestore .range [] s)) ∧
    ((∀ e ∈ entries, e.band ≤ 19 ∧ e.wear ≤ 65535 ∧ e.heightUm ≤ 4000) → (entries.map (·.band)).Nodup →
      (s.map.valid = true → exec (.mapRestore .s entries) s₀ = .next (replied .s .mapRestore .state [] s)) ∧
      (s.map.valid = false → s.map.bands.length = 20 → s.map.restored.length = 20 →
        ∃ u, exec (.mapRestore .s entries) s₀ =
            .next (replied .s .mapRestore .ok (restoreReply u.map) u) ∧
          u = { s with map := u.map, events := u.events } ∧ u.map.chords = s.map.chords ∧
          restoreReply u.map =
            (if u.map.valid then [20, 1] else [BitVec.ofNat 8 (u.map.restored.count true), 0]) ∧
          (∀ e ∈ entries, (u.map.band e.band).wear = e.wear ∧ (u.map.band e.band).height = e.heightUm * 1000 ∧
            (u.map.band e.band).state = classify s.settings.map e.wear (e.heightUm * 1000) ∧
            (u.map.band e.band).glazedSince =
              (if (u.map.band e.band).state = .glazed then
                (if (s.map.band e.band).state = .glazed then (s.map.band e.band).glazedSince else some s.map.revCount)
              else none)) ∧
          (∀ k, k ∉ entries.map (·.band) → u.map.band k = s.map.band k) ∧
          ((∀ k < 20, s.map.restored.getD k false = true ∨ k ∈ entries.map (·.band)) →
            u.map.valid = true ∧ u.map.revCount = 0 ∧ u.map.suspect = true ∧ u.map.cutMark = false ∧
              u.map.tally = List.replicate 20 0 ∧ u.map.cut = List.replicate 20 0 ∧ u.map.dryMarks = ⟨0, 0⟩ ∧
              u.map.restored = List.replicate 20 false ∧ u.events = s.events ++ [.mapReplaced]) ∧
          (∀ j < 20, s.map.restored.getD j false = false → j ∉ entries.map (·.band) →
            u.map = { s.map with bands := u.map.bands, restored := u.map.restored } ∧ u.events = s.events ∧
              ∀ k < 20, u.map.restored.getD k false =
                (s.map.restored.getD k false || decide (k ∈ entries.map (·.band))))))

/-- R12: an accepted PAD RESET zeroes and classifies every record, makes the map VALID with count 0, clears what the
revolution accrued and marks it suspect, and tells the conditioner controller; otherwise BUSY. CHORD LOAD (R7)
replaces the table of a RAISED lane and sets its loaded flag. -/
def Obligations.PadResetAndChordLoad : Prop :=
  (∀ s₀ s : State, s₀.heardFor .s .padReset = s →
     ((s.lane .a).state = .raised → (s.lane .b).state = .raised → s.cond.state ∈ [.parked, .unreferenced, .fault] →
       exec (.padReset .s) s₀ =
         .next (replied .s .padReset .ok []
           { s with
             map :=
               { s.map with
                 bands := List.replicate 20
                   { wear := 0, height := 0, state := classify s.settings.map 0 0, glazedSince := none }
                 valid := true, restored := List.replicate 20 false, revCount := 0
                 tally := List.replicate 20 0, cut := List.replicate 20 0, dryMarks := ⟨0, 0⟩, cutMark := false
                 suspect := true }
             events := s.events ++ [.mapReplaced] })) ∧
     ((s.lane .a).state ≠ .raised ∨ (s.lane .b).state ≠ .raised ∨ s.cond.state ∉ [.parked, .unreferenced, .fault] →
       exec (.padReset .s) s₀ = .next (replied .s .padReset .busy [] s))) ∧
  (∀ (l : Lane) (chords : List Nat) (s₀ s : State), s₀.heard .s = s → chords.length = 20 →
     ((∀ c ∈ chords, c ≤ 300) → (s.lane l).state = .raised →
       exec (.chordLoad .s (laneCode l) chords) s₀ =
         .next (replied .s .chordLoad .ok []
           { s with map := { s.map with chords := s.map.chords.set l { entries := chords, loaded := true } } })) ∧
     ((∀ c ∈ chords, c ≤ 300) → (s.lane l).state ≠ .raised →
       exec (.chordLoad .s (laneCode l) chords) s₀ = .next (replied .s .chordLoad .state [] s)) ∧
     ((∃ c ∈ chords, 300 < c) →
       exec (.chordLoad .s (laneCode l) chords) s₀ = .next (replied .s .chordLoad .range [] s)) ∧
     (∀ n, 1 < n → exec (.chordLoad .s n chords) s₀ = .next (replied .s .chordLoad .range [] s)))

/-! ### Revolution accounting and the tracker -/

/-- R6, R42 to R48: a lane's chord for band k, what a lane and the conditioner add to band k at an accrual, and when a lane is
dry. -/
def Obligations.AccrualAmounts : Prop :=
  ∀ (l : Lane) (k : Nat) (s : State),
    let works := (s.lane l).state ≠ .raised ∧ (s.arm l.arm).referenced = true ∧ (s.map.chords.get l).loaded = true
    (works →
      s.laneWork l k =
        ((((s.lane l).channels.get .z1).command + ((s.lane l).channels.get .z2).command +
            ((s.lane l).channels.get .z3).command + ((s.lane l).channels.get .z4).command +
            ((s.lane l).channels.get .z5).command) / 5) * s.laneChord l k * s.wetFactor l k) ∧
    (¬ works → s.laneWork l k = 0) ∧
    (s.dryContact l = true ↔ works ∧ ∃ j < 20, 0 < s.laneChord l j ∧ s.wetFactor l j = 2) ∧
    (s.laneChord l k =
      (let place := ((2000 * k + 1000 : Nat) - max 0 (min 45000 (s.arm l.arm).count.toInt) : Int).natAbs / 1000
        if (s.arm l.arm).referenced = true ∧ (s.map.chords.get l).loaded = true ∧ place ≤ 19 then
          (s.map.chords.get l).entries.getD place 0
        else 0)) ∧
    ((∃ o, 0 < ((s.bar l).outlets.get o).served ∧ (s.settings.slurry.outletFirst.get l).get o ≤ k ∧
        k ≤ 19 ∧ k + 1 ≤ (s.settings.slurry.outletFirst.get l).get o + (s.settings.slurry.outletCount.get l).get o) →
      s.wetFactor l k = 1) ∧
    ((∀ o, 1 ≤ (s.settings.slurry.outletCount.get l).get o) →
      (∀ o, ((s.bar l).outlets.get o).served = 0 ∨ k < (s.settings.slurry.outletFirst.get l).get o ∨
        (s.settings.slurry.outletFirst.get l).get o + (s.settings.slurry.outletCount.get l).get o ≤ k) →
      s.wetFactor l k = 2) ∧
    (s.cond.state = .dwelling ∨ s.cond.state = .sweeping →
      s.diskWork k =
        if ((2000 * k + 1000 : Nat) - (s.arm .cond).count.toInt : Int).natAbs < s.settings.tracker.condReach
        then s.cond.dfCommand else 0) ∧
    (s.cond.state ≠ .dwelling → s.cond.state ≠ .sweeping → s.diskWork k = 0)

/-- R21, R22, R42, R46 to R48: a forward count. Where it reaches the next-mark pointer it issues a mark, and the map
accrues; elsewhere it only moves the angle. -/
def Obligations.ForwardCount : Prop :=
  ∀ s₀ s : State, s₀.settled = s → s.tracker.state ≠ .unhomed → s.tracker.angle ≤ 16387 →
    (s.tracker.angle + 1 = s.tracker.nextMark → s.tracker.nextMark ≤ 15360 →
      exec (.platenEncoderCount .forward) s₀ =
        .next { s with
          tracker := { s.tracker with angle := s.tracker.angle + 1, nextMark := s.tracker.nextMark + 1024 }
          map :=
            { s.map with
              tally := (List.range 20).map fun k => s.map.tally.getD k 0 + s.laneWork .a k + s.laneWork .b k
              cut := (List.range 20).map fun k => s.map.cut.getD k 0 + s.diskWork k
              dryMarks := ⟨s.map.dryMarks.a + (if s.dryContact .a then 1 else 0),
                s.map.dryMarks.b + (if s.dryContact .b then 1 else 0)⟩
              cutMark := s.map.cutMark || decide (s.cond.state = .dwelling ∨ s.cond.state = .sweeping) } }) ∧
    (s.tracker.angle + 1 ≠ s.tracker.nextMark ∨ 15360 < s.tracker.nextMark →
      exec (.platenEncoderCount .forward) s₀ =
        .next { s with tracker := { s.tracker with angle := s.tracker.angle + 1 } })

/-- R21, R23: a reverse count, with and without a crossing, an edge without direction, and UNHOMED, which ignores every count.
R25: a count that would take the counter to 16389 or to -16384 makes a synthetic index event, whose close is suspect. That
close's own work is R28 to R33, R50 and R51: the run count, LOST, the notices, what it discards, that the map files no notice,
and the next revolution. -/
def Obligations.OtherPlatenCounts : Prop :=
  (∀ s₀ s : State, s₀.settled = s →
     (s.tracker.state = .unhomed → ∀ e, exec (.platenEncoderCount e) s₀ = .next s) ∧
     (s.tracker.state ≠ .unhomed → -16382 ≤ s.tracker.angle →
       (¬ (0 ≤ s.tracker.angle ∧ s.tracker.angle ≤ 15360 ∧ (1024 : Int) ∣ s.tracker.angle) ∨ s.tracker.reversed = true →
         exec (.platenEncoderCount .reverse) s₀ =
           .next { s with tracker := { s.tracker with angle := s.tracker.angle - 1 } }) ∧
       (0 ≤ s.tracker.angle → s.tracker.angle ≤ 15360 → (1024 : Int) ∣ s.tracker.angle → s.tracker.reversed = false →
         exec (.platenEncoderCount .reverse) s₀ =
           .next (({ s with
             tracker :=
               { s.tracker with
                 angle := s.tracker.angle - 1, reversed := true, platenSuspect := true, disturbed := true }
             map := { s.map with suspect := true } }).file .s .platenReverse))) ∧
     (s.tracker.state ≠ .unhomed →
       exec (.platenEncoderCount .undirected) s₀ =
         .next { s with
           tracker := { s.tracker with platenSuspect := true, disturbed := true }
           map := { s.map with suspect := true } })) ∧
  (∀ (e : PlatenEdge) (s₀ s : State), s₀.settled = s → s.tracker.state ≠ .unhomed →
     (e = .forward ∧ s.tracker.angle = 16388) ∨ (e = .reverse ∧ s.tracker.angle = -16383) →
     ∃ t, exec (.platenEncoderCount e) s₀ = .next t ∧
       (let run := min 3 (s.tracker.suspectRun + 1)
         let state := if s.tracker.state = .lost ∨ run = 3 then TrackerState.lost else .tracking
         t.tracker = { s.tracker with
           state := state, suspectRun := run, angle := 0, nextMark := 1024, reversed := false, disturbed := false
           platenSuspect := decide (state = .lost), stallTimer := some 0, periodTimer := 0 }) ∧
       t.map = { s.map with
         tally := List.replicate 20 0, cut := List.replicate 20 0, dryMarks := ⟨0, 0⟩, cutMark := false
         suspect := decide (t.tracker.state = .lost) } ∧
       (∀ p, .platenState ∈ (t.port p).notices ↔
         .platenState ∈ (s.port p).notices ∨ t.tracker.state ≠ s.tracker.state) ∧
       (∀ p, ∀ n ∈ [Notice.glaze, .glazeUnder, .padSpent], n ∈ (t.port p).notices ↔ n ∈ (s.port p).notices) ∧
       (t.tracker.state = .lost → s.tracker.state ≠ .lost → t.events = t.events.dropLast ++ [.indexProfileApply] ∧
         s.tripsTo .platenLost { t with events := t.events.dropLast }) ∧
       (t.tracker.state ≠ .lost ∨ s.tracker.state = .lost →
         t.matrix = s.matrix ∧ t.events = s.events ++ [.indexProfileApply]) ∧
       s.onlyFiled t ∧ s.onlyCaused t ∧
       t = { s with map := t.map, tracker := t.tracker, matrix := t.matrix, links := t.links, events := t.events })

/-- R2: the classification, its tests in their order. R52 to R57: the valid close at a clean index in TRACKING, with the fold
of every band, the count, the classification and the map updated event. -/
def Obligations.ValidClose : Prop :=
  (∀ (g : MapSettings) (wear height : Nat), classify g wear height =
    if g.padLife * 1000 ≤ height then .worn
    else if g.glazeLimit ≤ wear then .glazed
    else if g.glazeWarn ≤ wear then .glazing
    else .fresh) ∧
  ∀ (elapsed : Nat) (s₀ s : State), s₀.settled = s → s.tracker.state = .tracking → s.tracker.platenSuspect = false →
    s.tracker.disturbed = false → 16380 ≤ s.tracker.angle → s.map.suspect = false → s.map.valid = true →
    ∃ t, exec (.indexEdge elapsed) s₀ = .next t ∧
      (∀ k < 20,
        let tally := s.map.tally.getD k 0 + s.laneWork .a k + s.laneWork .b k
        let cut := s.map.cut.getD k 0 + s.diskWork k
        let old := s.map.band k
        let new := t.map.band k
        (new.wear : Int) =
            max 0 (min 65535 ((old.wear : Int) + ((tally + 8192) / 16384 : Nat) -
              (cut * s.settings.map.cutGain / 256 : Nat))) ∧
          new.height = min 4000000 (old.height + cut * s.settings.map.heightGain / 256) ∧
          new.state = classify s.settings.map new.wear new.height ∧
          new.glazedSince =
            (if new.state = .glazed then (if old.state = .glazed then old.glazedSince else some (s.map.revCount + 1))
            else none)) ∧
      s.onlyFiled t ∧ t.map.bands.length = 20 ∧ t.map = { s.map with
        bands := t.map.bands, revCount := s.map.revCount + 1, tally := List.replicate 20 0
        cut := List.replicate 20 0, dryMarks := ⟨0, 0⟩, cutMark := false, suspect := false } ∧
      (∃ u : MapUpdated, t.events = s.events ++ [.condMapUpdated u, .gainRecompute u, .dryCountUpdate u,
          .indexProfileApply] ∧
        u.diskCut = (s.map.cutMark || decide (s.cond.state = .dwelling ∨ s.cond.state = .sweeping)) ∧
        (∀ l, u.dry.get l = decide (1 ≤ s.map.dryMarks.get l + (if s.dryContact l then 1 else 0))) ∧
        ∀ l, u.positions.get l =
          { position := clampRadius (s.arm l.arm).position, referenced := (s.arm l.arm).referenced }) ∧
      (.glaze ∈ (t.port .s).notices ↔ .glaze ∈ (s.port .s).notices ∨
        ∃ k < 20, (t.map.band k).state = .glazed ∧ (s.map.band k).state ≠ .glazed) ∧
      (∀ l : Lane, .glazeUnder ∈ (t.port l.port).notices ↔ .glazeUnder ∈ (s.port l.port).notices ∨
        ∃ k < 20, (t.map.band k).state = .glazed ∧ (s.map.band k).state ≠ .glazed ∧ 0 < s.laneChord l k) ∧
      (∀ p, .padSpent ∈ (t.port p).notices ↔ .padSpent ∈ (s.port p).notices ∨
        ∃ k < 20, (t.map.band k).state = .worn ∧ (s.map.band k).state ≠ .worn) ∧
      t = { s with map := t.map, tracker := t.tracker, links := t.links, events := t.events }

/-- R50, R51, R57: a suspect close discards what was accrued, changes no record, files no notice (GLAZE, GLAZE_UNDER and
PAD_SPENT belong to the sets exactly as before) and issues no map updated event; the next revolution is marked exactly when it
begins in LOST. -/
def Obligations.SuspectClose : Prop :=
  ∀ (elapsed : Nat) (s₀ s : State), s₀.settled = s → s.tracker.state ≠ .unhomed →
    s.tracker.platenSuspect = true ∨ s.tracker.angle < 16380 ∨ s.map.suspect = true ∨ s.map.valid = false →
    ∃ t, exec (.indexEdge elapsed) s₀ = .next t ∧
      t.map = { s.map with
        tally := List.replicate 20 0, cut := List.replicate 20 0, dryMarks := ⟨0, 0⟩, cutMark := false
        suspect := decide (t.tracker.state = .lost) } ∧
      (∀ p, ∀ n ∈ [Notice.glaze, .glazeUnder, .padSpent], n ∈ (t.port p).notices ↔ n ∈ (s.port p).notices) ∧
      (∀ e ∈ t.events, e ∉ s.events → e.isCondMapUpdated = false ∧ e.isGainRecompute = false ∧
        e.isDryCountUpdate = false) ∧
      t = { s with
        map := t.map, tracker := t.tracker, matrix := t.matrix, links := t.links, events := t.events } ∧
      s.onlyFiled t ∧ s.onlyCaused t

/-- R24, R28 to R30, R32 to R35, R157: the tracker's own work at an index edge: the run count, the state, the speed and the new
revolution's counter, pointer, flags and timers; the notices of a changed state and of a speed that enters or leaves the window;
and the trip that entering LOST is. -/
def Obligations.TrackerClose : Prop :=
  ∀ (elapsed : Nat) (s₀ s : State), s₀.settled = s → s.tracker.state ≠ .unhomed →
    ∃ t : State, exec (.indexEdge elapsed) s₀ = .next t ∧
      (s.tracker.angle < 16380 ∨ s.tracker.platenSuspect = true →
        ¬ (s.tracker.state = .lost ∧ 16380 ≤ s.tracker.angle ∧ s.tracker.disturbed = false) →
        t.tracker.suspectRun = min 3 (s.tracker.suspectRun + 1)) ∧
      (s.tracker.state = .lost → 16380 ≤ s.tracker.angle → s.tracker.disturbed = false →
        t.tracker.suspectRun = 0 ∧ t.tracker.state = .tracking) ∧
      (s.tracker.state = .lost → s.tracker.angle < 16380 ∨ s.tracker.disturbed = true → t.tracker.state = .lost) ∧
      (16380 ≤ s.tracker.angle → s.tracker.platenSuspect = false → t.tracker.suspectRun = 0) ∧
      (s.tracker.state = .tracking ∨ s.tracker.state = .stalled →
        t.tracker.state = if t.tracker.suspectRun = 3 then .lost else .tracking) ∧
      (16380 ≤ s.tracker.angle → s.tracker.disturbed = false → 0 < s.tracker.periodTimer + elapsed →
        t.tracker.period = min 16777215 (s.tracker.periodTimer + elapsed) ∧
          t.tracker.speed = min 65535 (600000000 / t.tracker.period) ∧
          t.tracker.inWindow = decide (s.settings.tracker.windowLower ≤ t.tracker.speed ∧
            t.tracker.speed ≤ s.settings.tracker.windowUpper)) ∧
      (s.tracker.angle < 16380 ∨ s.tracker.disturbed = true →
        t.tracker.period = s.tracker.period ∧ t.tracker.speed = s.tracker.speed ∧
          t.tracker.inWindow = s.tracker.inWindow) ∧
      t.tracker.angle = 0 ∧ t.tracker.nextMark = 1024 ∧ t.tracker.reversed = false ∧ t.tracker.disturbed = false ∧
      t.tracker.platenSuspect = decide (t.tracker.state = .lost) ∧ t.tracker.stallTimer = some 0 ∧
      t.tracker.periodTimer = 0 ∧ t.tracker.arms = s.tracker.arms ∧
      (∀ p, (.platenState ∈ (t.port p).notices ↔
          .platenState ∈ (s.port p).notices ∨ t.tracker.state ≠ s.tracker.state) ∧
        (.speedWindow ∈ (t.port p).notices ↔
          .speedWindow ∈ (s.port p).notices ∨ t.tracker.inWindow ≠ s.tracker.inWindow)) ∧
      (t.tracker.state = .lost → s.tracker.state ≠ .lost → t.events = t.events.dropLast ++ [.indexProfileApply] ∧
        s.tripsTo .platenLost { t with events := t.events.dropLast }) ∧
      (t.tracker.state ≠ .lost ∨ s.tracker.state = .lost → t.matrix = s.matrix) ∧ s.onlyFiled t ∧ s.onlyCaused t ∧
      t = { s with map := t.map, tracker := t.tracker, matrix := t.matrix, links := t.links, events := t.events }

/-- R27: the first index edge in UNHOMED begins the first revolution without a close. R31, R33, R157, R158: the stall timer's
expiry in TRACKING or LOST; the model's choice (log 4): STALL_TIMER_EXPIRY acts whatever the count of the running timer. -/
def Obligations.StartIndexAndStall : Prop :=
  (∀ (elapsed : Nat) (s₀ s : State), s₀.settled = s → s.tracker.state = .unhomed →
     exec (.indexEdge elapsed) s₀ =
       .next (({ s with
         tracker :=
           { s.tracker with state := .tracking, angle := 0, nextMark := 1024, stallTimer := some 0, periodTimer := 0 }
         map :=
           { s.map with
             tally := List.replicate 20 0, cut := List.replicate 20 0, dryMarks := ⟨0, 0⟩, cutMark := false
             suspect := false } }).fileAll .platenState)) ∧
  (∀ s₀ s : State, s₀.settled = s → (s.tracker.state = .tracking ∨ s.tracker.state = .lost) → s.tracker.stallTimer.isSome = true →
     ∃ t, exec .stallTimerExpiry s₀ = .next t ∧
       t.tracker = { s.tracker with
         state := .stalled, stallTimer := none, platenSuspect := true, disturbed := true } ∧
       t.map = { s.map with suspect := true } ∧
       (∀ p, .platenState ∈ (t.port p).notices) ∧ s.tripsTo .platenStall t ∧ s.onlyFiled t ∧ s.onlyCaused t ∧
       t = { s with
         tracker := t.tracker, map := t.map, matrix := t.matrix, links := t.links, events := t.events })

/-- R36, R37, R118: a count of an arm's scale, which wraps, the arm's inside flag and its crossing; for the conditioner's arm,
while the following check passes or is not made. R100, R109, R110: a rising edge of a home switch, which for the conditioner's
arm loads the step position, ends the steps of a move to that radius, and in HOMING parks. The model's choices: a count that
both breaks the following check and comes within 50 of the target faults, the check being made before the arrival (log 36); in
HOMING the arbiter takes the crossing of that edge first, with the effect that HubCrossingsAreTaken says (R66, R67; log 39);
outside HOMING a running settle timer goes on where the edge takes the step position off the radius, and starts anew where it
loads the radius (log 40); and in HOMING with mode MAP the selection passes over an entry that rests under a lane that is down
as resting (log 38), a grant event on its way being overtaken (log 17). -/
def Obligations.ArmCountAndHomeEdge : Prop :=
  (∀ (m : Arm) (e : ArmEdge) (s₀ s : State), s₀.settled = s →
     let count := if e = .outward then (s.arm m).count + 1 else (s.arm m).count - 1
     let inside := (s.arm m).referenced && decide (count.toInt - (s.reach m : Int) <
       (s.settings.tracker.hubSize * 2000 : Nat))
     let counted := { s with
       events := s.events ++
         (if inside = (s.arm m).inside then [] else if inside then [Event.hubEntry m] else [Event.hubExit m]) }.modArm m
           fun a => { a with count := count, inside := inside }
     (m ≠ .cond ∨ s.cond.state ∈ [.unreferenced, .homing, .fault] ∨
         (count.toInt - s.cond.stepPos.toInt).natAbs ≤ 200 →
       exec (.armEncoderCount m e) s₀ = .next counted) ∧
     (m = .cond → s.cond.state ∉ [.unreferenced, .homing, .fault] →
       200 < (count.toInt - s.cond.stepPos.toInt).natAbs →
       exec (.armEncoderCount m e) s₀ = .next (counted.faulted .following))) ∧
  (∀ (m : Arm) (s₀ s : State), s₀.settled = s →
     let inside := decide ((BitVec.ofNat 32 (s.homePreset m)).toInt - (s.reach m : Int) <
       (s.settings.tracker.hubSize * 2000 : Nat))
     let loaded := { s with
       events := s.events ++
         (if inside = (s.arm m).inside then [] else if inside then [Event.hubEntry m] else [Event.hubExit m]) }.modArm m
           fun _ => { count := BitVec.ofNat 32 (s.homePreset m), referenced := true, inside := inside }
     let park := BitVec.ofNat 32 s.settings.cond.parkRadius
     (m ≠ .cond → exec (.homeSwitchEdge m) s₀ = .next loaded) ∧
     (m = .cond → s.cond.state ≠ .homing →
       exec (.homeSwitchEdge m) s₀ =
         .next { loaded with cond := { s.cond with
           stepPos := park
           settleTimer := match s.strokeRadius with
             | some r => if park.toInt = r then some 0 else s.cond.settleTimer
             | none => s.cond.settleTimer } }) ∧
     (m = .cond → s.cond.state = .homing →
       ∃ w t : State, exec (.homeSwitchEdge m) s₀ = .next t ∧
         let crossed :=
           if inside = (s.arm m).inside then loaded
           else if inside then State.hubEntry m { loaded with events := s.events }
           else State.hubExit m { loaded with events := s.events }
         w = { crossed with
           cond := { s.cond.enter .parked with stepPos := park, target := none }
           hub := w.hub, links := w.links, events := w.events } ∧
         (s.cond.target = none → w.hub = crossed.hub ∧ w.links = crossed.links ∧ w.events = crossed.events) ∧
         crossed.onlyFiled t ∧ (s.hub.lawful → (s.cond.target ≠ none → crossed.gaveUp w) ∧ w.modeActed t) ∧
         (s.cond.mode = .off → t = w) ∧
         t = { crossed with cond := t.cond, hub := t.hub, links := t.links, events := t.events }))

/-! ### The hub -/

/-- R60: HUB CLAIM by the first case that holds. -/
def Obligations.HubClaimCases : Prop :=
  ∀ (l : Lane) (s₀ s : State), s₀.heard l.port = s →
    ((s.arm l.arm).referenced = false →
      exec (.hubClaim l.port) s₀ = .next (replied l.port .hubClaim .notHomed [] s)) ∧
    ((s.arm l.arm).referenced = true →
      (s.hub.holder = some l.arm → exec (.hubClaim l.port) s₀ = .next (replied l.port .hubClaim .held [0] s)) ∧
      (s.hub.holder ≠ some l.arm → l.arm ∈ s.hub.waitList →
        exec (.hubClaim l.port) s₀ =
          .next (replied l.port .hubClaim .queued (beBytes 1 (s.hub.waitList.idxOf l.arm + 1)) s)) ∧
      (s.hub.holder ≠ some l.arm → l.arm ∉ s.hub.waitList →
        (s.holdLevel l = .hard → exec (.hubClaim l.port) s₀ = .next (replied l.port .hubClaim .state [] s)) ∧
        (s.holdLevel l ≠ .hard → s.hub.holder = none →
          exec (.hubClaim l.port) s₀ =
            .next (replied l.port .hubClaim .granted [0]
              { s with
                hub := { s.hub with holder := some l.arm, intruders := s.hub.intruders.set l.arm false } })) ∧
        (s.holdLevel l ≠ .hard → s.hub.holder ≠ none →
          exec (.hubClaim l.port) s₀ =
            .next (replied l.port .hubClaim .queued (beBytes 1 (s.hub.waitList.length + 1))
              { s with hub := { s.hub with waitList := s.hub.waitList ++ [l.arm] } }))))

/-- R62, R63, R65: HUB RELEASE and HUB FORCE RELEASE by their cases, and the hand-off that ends a grant: the oldest waiting
claimant becomes the holder, leaves the intruder set and is told; with no one waiting the hub is free. The model's choice
(log 37): in the reply to a force release the presence byte of a new holder is 1. -/
def Obligations.HubReleaseAndHandOff : Prop :=
  (∀ (l : Lane) (s₀ s : State), s₀.heard l.port = s →
    (s.hub.holder = some l.arm → (s.arm l.arm).inside = true →
      exec (.hubRelease l.port) s₀ = .next (replied l.port .hubRelease .stillInside [] s)) ∧
    (s.hub.holder = some l.arm → (s.arm l.arm).inside = false →
      exec (.hubRelease l.port) s₀ = .next (replied l.port .hubRelease .ok [] s.endGrant)) ∧
    (s.hub.holder ≠ some l.arm → l.arm ∈ s.hub.waitList →
      exec (.hubRelease l.port) s₀ =
        .next (replied l.port .hubRelease .withdrawn []
          { s with hub := { s.hub with waitList := s.hub.waitList.filter (fun x => decide (x ≠ l.arm)) } })) ∧
    (s.hub.holder ≠ some l.arm → l.arm ∉ s.hub.waitList →
      exec (.hubRelease l.port) s₀ = .next (replied l.port .hubRelease .notHeld [] s))) ∧
  (∀ s₀ s : State, s₀.heard .s = s →
    (s.hub.holder = none → exec (.hubForceRelease .s) s₀ = .next (replied .s .hubForceRelease .notHeld [] s)) ∧
    (∀ m, s.hub.holder = some m → (s.arm m).inside = true →
      exec (.hubForceRelease .s) s₀ = .next (replied .s .hubForceRelease .stillInside [] s)) ∧
    (∀ m, s.hub.holder = some m → (s.arm m).inside = false →
      exec (.hubForceRelease .s) s₀ =
        .next (replied .s .hubForceRelease .ok
          ([BitVec.ofNat 8 (armCode m)] ++ (match s.hub.waitList with
            | [] => [0, 0]
            | n :: _ => [1, BitVec.ofNat 8 (armCode n)]))
          (match m with
            | .a => s.endGrant.file .a .hubLost
            | .b => s.endGrant.file .b .hubLost
            | .cond => { s.endGrant with events := s.endGrant.events ++ [Event.condGrantLost] })))) ∧
  ∀ s : State,
    (s.hub.waitList = [] → s.endGrant = { s with hub := { s.hub with holder := none } }) ∧
    (∀ m rest, s.hub.waitList = m :: rest →
      s.endGrant =
        (match m with
          | .a => fun u : State => u.file .a .hubGranted
          | .b => fun u : State => u.file .b .hubGranted
          | .cond => fun u : State => { u with events := u.events ++ [Event.condGrant] })
          { s with hub := { holder := some m, waitList := rest, intruders := s.hub.intruders.set m false } })

/-- R66 to R68: the arbiter takes a crossing. The holder's own entry is allowed; any other entry is an intrusion, which
trips a NORMAL station; an exit ends the conditioner's grant, leaves a carrier's, and removes an intruder. -/
def Obligations.HubCrossingsAreTaken : Prop :=
  ∀ (m : Arm) (s u : State),
    (s.told (Event.crossingOf m) (.hubEntry m) u →
      (s.hub.holder = some m → exec (.hubEntry m) s = .next u) ∧
      (s.hub.holder ≠ some m → s.hub.intruders ≠ ⟨false, false, false⟩ →
        exec (.hubEntry m) s =
          .next { u with hub := { u.hub with intruders := u.hub.intruders.set m true } }) ∧
      (s.hub.holder ≠ some m → s.hub.intruders = ⟨false, false, false⟩ →
        ∃ t, exec (.hubEntry m) s = .next t ∧ t.hub = { u.hub with intruders := u.hub.intruders.set m true } ∧
          u.tripsTo .hubIntrusion t ∧ u.onlyFiled t ∧ u.onlyCaused t ∧
          t = { u with hub := t.hub, matrix := t.matrix, links := t.links, events := t.events })) ∧
    (s.told (Event.crossingOf m) (.hubExit m) u →
      (s.hub.holder = some m → m = .cond → exec (.hubExit m) s = .next u.endGrant) ∧
      (s.hub.holder = some m → m ≠ .cond → exec (.hubExit m) s = .next u) ∧
      (s.hub.holder ≠ some m →
        exec (.hubExit m) s = .next { u with hub := { u.hub with intruders := u.hub.intruders.set m false } }))

/-! ### Head pressure -/

/-- R74 to R76, R81: PROFILE STAGE clamps and stages six targets; NOW copies them into the active profile at once and derives
the effective targets and the drive targets; the other modes leave them for later. No command moves. R77: at an index event a
pending AT_INDEX apply is made and announced. Nothing else of the lane changes. -/
def Obligations.ProfileStageAndIndexApply : Prop :=
  (∀ (l : Lane) (targets : Six Nat) (mode : Nat) (s₀ s : State), s₀.heard l.port = s →
     ((∃ c, 1000 < targets.get c) ∨ 2 < mode →
       exec (.profileStage l.port targets mode) s₀ = .next (replied l.port .profileStage .range [] s)) ∧
     ((∀ c, targets.get c ≤ 1000) → mode ≤ 2 →
       ∃ (u : State) (clamped : Bool),
         exec (.profileStage l.port targets mode) s₀ =
           .next (({ state := u, result := .ok, clamped := clamped } : Answer).compose l.port Kind.profileStage.byte) ∧
         (clamped = true ↔ ∃ c, (s.settings.press.limit.get l).get c < targets.get c) ∧
         u = s.modLane l (fun _ => u.lane l) ∧
         u.lane l = { s.lane l with
           staged := (u.lane l).staged, pending := (u.lane l).pending, active := (u.lane l).active
           channels := (u.lane l).channels, compClamped := (u.lane l).compClamped } ∧
         (∀ c, (u.lane l).channels.get c = { (s.lane l).channels.get c with
           effective := ((u.lane l).channels.get c).effective, drive := ((u.lane l).channels.get c).drive }) ∧
         (∀ c, (u.lane l).staged.get c = min (targets.get c) ((s.settings.press.limit.get l).get c)) ∧
         (∀ c, ((u.lane l).channels.get c).command = ((s.lane l).channels.get c).command) ∧
         (u.lane l).state = (s.lane l).state ∧ (u.lane l).gain = (s.lane l).gain ∧
         (mode = 0 → (u.lane l).pending = none ∧ (u.lane l).active = (u.lane l).staged ∧ s.drives l (u.lane l) ∧
           (∀ c, c ≠ .ring → ((u.lane l).channels.get c).effective =
             min (((u.lane l).active.get c * (1024 + (s.lane l).gain) + 512) / 1024)
               ((s.settings.press.limit.get l).get c)) ∧
           ((u.lane l).channels.get .ring).effective = (u.lane l).active.get .ring ∧
           ((u.lane l).compClamped = true ↔ ∃ c, c ≠ .ring ∧ (s.settings.press.limit.get l).get c <
             ((u.lane l).active.get c * (1024 + (s.lane l).gain) + 512) / 1024)) ∧
         (mode ≠ 0 → (u.lane l).pending = some (if mode = 1 then .atIndex else .nextTouchdown) ∧
           (u.lane l).active = (s.lane l).active ∧ (u.lane l).channels = (s.lane l).channels ∧
           (u.lane l).compClamped = (s.lane l).compClamped))) ∧
  (∀ (s u : State), s.told (Event.is .indexProfileApply) .indexProfileApply u →
     ∃ t, exec .indexProfileApply s = .next t ∧ t = { u with press := t.press, links := t.links } ∧ u.onlyFiled t ∧
       t.press = { u.press with lanes := t.press.lanes } ∧ ∀ l,
         ((s.lane l).pending ≠ some .atIndex → t.lane l = s.lane l ∧ (t.port l.port).notices = (s.port l.port).notices) ∧
         ((s.lane l).pending = some .atIndex →
           t.lane l = { s.lane l with
               active := (t.lane l).active, pending := none, channels := (t.lane l).channels
               compClamped := (t.lane l).compClamped } ∧
             (∀ c, (t.lane l).channels.get c = { (s.lane l).channels.get c with
               effective := ((t.lane l).channels.get c).effective, drive := ((t.lane l).channels.get c).drive }) ∧
             ((t.lane l).compClamped = true ↔ ∃ c, c ≠ .ring ∧ (s.settings.press.limit.get l).get c <
               ((s.lane l).staged.get c * (1024 + (s.lane l).gain) + 512) / 1024) ∧
             (t.lane l).active = (s.lane l).staged ∧ (t.lane l).staged = (s.lane l).staged ∧
             (t.lane l).pending = none ∧ (t.lane l).state = (s.lane l).state ∧
             (∀ c, ((t.lane l).channels.get c).command = ((s.lane l).channels.get c).command) ∧
             (t.lane l).channels.map (·.effective) =
               effectiveTargets (s.lane l).gain (s.lane l).staged (s.settings.press.limit.get l) ∧
             s.drives l (t.lane l) ∧ .profileApplied ∈ (t.port l.port).notices))

/-- R84, R85: the nine tests of a TOUCHDOWN in their order, and what an accepted one does. -/
def Obligations.TouchdownTestsAndEffects : Prop :=
  ∀ (l : Lane) (s₀ s : State), s₀.heard l.port = s →
    let tests : List (Bool × Result) :=
      [(decide ((s.lane l).state = .raised), .state), (decide (s.holdLevel l = .none), .held), (s.map.valid, .mapInvalid),
        ((s.map.chords.get l).loaded, .noChord), (decide (s.tracker.state = .tracking), .platen),
        (s.tracker.inWindow, .speed), ((s.arm l.arm).referenced, .notHomed),
        (s.map.bands.all (fun b => decide (b.state ≠ .worn)), .padSpent),
        ((s.bar l).feed.isSome && decide (0 < ((s.bar l).outlets.get .inner).served +
          ((s.bar l).outlets.get .middle).served + ((s.bar l).outlets.get .outer).served), .dry)]
    (∀ reason, (tests.find? (fun x => !x.1)).map Prod.snd = some reason →
      exec (.touchdown l.port) s₀ = .next (replied l.port .touchdown reason [] s)) ∧
    ((∀ x ∈ tests, x.1 = true) →
      ∃ u, exec (.touchdown l.port) s₀ = .next (replied l.port .touchdown .accepted [] u) ∧
        u = s.modLane l (fun _ => u.lane l) ∧ (u.lane l).state = .touchdown ∧
        (∀ c, ((u.lane l).channels.get c).drive = ((u.lane l).channels.get c).effective ∧
          ((u.lane l).channels.get c).command = ((s.lane l).channels.get c).command) ∧
        (u.lane l).staged = (s.lane l).staged ∧ (u.lane l).gain = (s.lane l).gain ∧
        u.lane l = { s.lane l with
          state := .touchdown, pending := (u.lane l).pending, active := (u.lane l).active
          channels := (u.lane l).channels, compClamped := (u.lane l).compClamped } ∧
        (∀ c, (u.lane l).channels.get c = { (s.lane l).channels.get c with
          effective := ((u.lane l).channels.get c).effective, drive := ((u.lane l).channels.get c).drive }) ∧
        ((s.lane l).pending = some .nextTouchdown →
          (u.lane l).pending = none ∧ (u.lane l).active = (s.lane l).staged ∧
            ((u.lane l).compClamped = true ↔ ∃ c, c ≠ .ring ∧ (s.settings.press.limit.get l).get c <
              ((s.lane l).staged.get c * (1024 + (s.lane l).gain) + 512) / 1024) ∧
            (u.lane l).channels.map (·.effective) =
              effectiveTargets (s.lane l).gain (s.lane l).staged (s.settings.press.limit.get l)) ∧
        ((s.lane l).pending ≠ some .nextTouchdown →
          (u.lane l).pending = (s.lane l).pending ∧ (u.lane l).active = (s.lane l).active ∧
            (u.lane l).compClamped = (s.lane l).compClamped ∧
            (u.lane l).channels.map (·.effective) = (s.lane l).channels.map (·.effective)))

/-- R74, R86 to R88: RELEASE, and the completion of a touchdown and of a release, with the drive targets of the state entered
and the rest of the lane's record and of each channel's as it was. The model's choice (log 6): TOUCHDOWN_DONE and RELEASE_DONE
as rows complete outside an update where the condition of R86 and R88 holds, and change nothing otherwise. -/
def Obligations.ReleaseAndCompletions : Prop :=
  (∀ (l : Lane) (s₀ s : State), s₀.heard l.port = s →
     ((s.lane l).state = .touchdown ∨ (s.lane l).state = .polish →
       exec (.release l.port) s₀ =
         .next (replied l.port .release .accepted []
           (s.modLane l fun x =>
             { x with state := .releasing, channels := x.channels.map fun c => { c with drive := 0 } }))) ∧
     ((s.lane l).state = .raised ∨ (s.lane l).state = .releasing →
       exec (.release l.port) s₀ = .next (replied l.port .release .state [] s))) ∧
  (∀ (l : Lane) (s₀ s : State), s₀.settled = s →
     ((s.lane l).state = .touchdown →
       (∀ c, ((s.lane l).channels.get c).command = ((s.lane l).channels.get c).drive) →
       ∃ t, exec (.touchdownDone l) s₀ = .next t ∧
         t.lane l = { s.lane l with state := .polish, channels := (t.lane l).channels } ∧
         (∀ c, (t.lane l).channels.get c =
           { (s.lane l).channels.get c with drive := ((t.lane l).channels.get c).drive }) ∧
         s.drives l (t.lane l) ∧
         (∀ n, n ∈ (t.port l.port).notices ↔ n = .touchdownDone ∨ n ∈ (s.port l.port).notices) ∧
         t = (s.modLane l fun _ => t.lane l).modPort l.port fun k => { k with notices := (t.port l.port).notices }) ∧
     ((s.lane l).state = .releasing → (∀ c, ((s.lane l).channels.get c).command = 0) →
       ∃ t, exec (.releaseDone l) s₀ = .next t ∧
         t.lane l = { s.lane l with state := .raised, channels := (t.lane l).channels } ∧
         (∀ c, (t.lane l).channels.get c = { (s.lane l).channels.get c with drive := 0 }) ∧
         (∀ n, n ∈ (t.port l.port).notices ↔ n = .releaseDone ∨ n ∈ (s.port l.port).notices) ∧
         t = (s.modLane l fun _ => t.lane l).modPort l.port fun k => { k with notices := (t.port l.port).notices }) ∧
     (¬ ((s.lane l).state = .touchdown ∧
         ∀ c, ((s.lane l).channels.get c).command = ((s.lane l).channels.get c).drive) →
       exec (.touchdownDone l) s₀ = .next s) ∧
     (¬ ((s.lane l).state = .releasing ∧ ∀ c, ((s.lane l).channels.get c).command = 0) →
       exec (.releaseDone l) s₀ = .next s))

/-- R74, R79 to R81: GAIN LOAD replaces a lane's table and enable and recomputes its gain from the mean wear under the head at
the compensation position, and GAIN_RECOMPUTE does the same for both lanes at the position carried by the event; each derives
the effective and the drive targets again. Nothing else of the lane changes. -/
def Obligations.GainRecompute : Prop :=
  ∀ (l : Lane) (s : State),
    let clamps := fun x : LanePressure => ∃ c, c ≠ .ring ∧
      (s.settings.press.limit.get l).get c < (x.active.get c * (1024 + x.gain) + 512) / 1024
    (∀ (enable : Nat) (gains : List Nat) (s₀ : State), s₀.heard .s = s → enable ≤ 1 → gains.length = 8 →
      (∀ g ∈ gains, g ≤ 255) →
      ∃ u, exec (.gainLoad .s (laneCode l) enable gains) s₀ =
          .next (replied .s .gainLoad .ok
            (beBytes 1 (u.lane l).bucket ++ beBytes 1 (u.lane l).gain ++
              [if (u.lane l).compClamped then 1 else 0]) u) ∧
        u = s.modLane l (fun _ => u.lane l) ∧
        u.lane l = { s.lane l with
          gainTable := (u.lane l).gainTable, compEnable := (u.lane l).compEnable, bucket := (u.lane l).bucket
          gain := (u.lane l).gain, channels := (u.lane l).channels, compClamped := (u.lane l).compClamped } ∧
        (∀ c, (u.lane l).channels.get c = { (s.lane l).channels.get c with
          effective := ((u.lane l).channels.get c).effective, drive := ((u.lane l).channels.get c).drive }) ∧
        (u.lane l).gainTable = gains ∧
        (u.lane l).compEnable = decide (enable = 1) ∧ (u.lane l).bucket = s.meanWear l / 8192 ∧
        (u.lane l).gain = (if enable = 1 then gains.getD (s.meanWear l / 8192) 0 else 0) ∧
        (u.lane l).active = (s.lane l).active ∧ ((u.lane l).compClamped = true ↔ clamps (u.lane l)) ∧
        (u.lane l).channels.map (·.effective) =
          effectiveTargets (u.lane l).gain (s.lane l).active (s.settings.press.limit.get l) ∧ s.drives l (u.lane l) ∧
        (u.lane l).state = (s.lane l).state ∧
        ∀ c, ((u.lane l).channels.get c).command = ((s.lane l).channels.get c).command) ∧
    (∀ (enable : Nat) (gains : List Nat) (s₀ : State), s₀.heard .s = s → gains.length = 8 →
      1 < enable ∨ (∃ g ∈ gains, 255 < g) →
      exec (.gainLoad .s (laneCode l) enable gains) s₀ = .next (replied .s .gainLoad .range [] s)) ∧
    (∀ (code enable : Nat) (gains : List Nat) (s₀ : State), s₀.heard .s = s → gains.length = 8 → 1 < code →
      exec (.gainLoad .s code enable gains) s₀ = .next (replied .s .gainLoad .range [] s)) ∧
    (∀ (e : MapUpdated) (v : State), s.told Event.isGainRecompute (.gainRecompute e) v →
      ∃ t, exec .gainRecompute s = .next t ∧ t = { v with press := t.press } ∧
        t.press = { v.press with lanes := t.press.lanes } ∧
        t.lane l = { s.lane l with
          compPosition := (t.lane l).compPosition, bucket := (t.lane l).bucket, gain := (t.lane l).gain
          channels := (t.lane l).channels, compClamped := (t.lane l).compClamped } ∧
        (∀ c, (t.lane l).channels.get c = { (s.lane l).channels.get c with
          effective := ((t.lane l).channels.get c).effective, drive := ((t.lane l).channels.get c).drive }) ∧
        (t.lane l).compPosition = some (e.positions.get l) ∧ (t.lane l).bucket = t.meanWear l / 8192 ∧
        (t.lane l).gain = (if (s.lane l).compEnable then (s.lane l).gainTable.getD (t.lane l).bucket 0 else 0) ∧
        (t.lane l).active = (s.lane l).active ∧ ((t.lane l).compClamped = true ↔ clamps (t.lane l)) ∧
        (t.lane l).channels.map (·.effective) =
          effectiveTargets (t.lane l).gain (s.lane l).active (s.settings.press.limit.get l) ∧ s.drives l (t.lane l) ∧
        (∀ c, ((t.lane l).channels.get c).command = ((s.lane l).channels.get c).command) ∧
        (t.lane l).state = (s.lane l).state) ∧
    (∀ q, (s.lane l).compPosition = some q → s.map.valid = true →
      let under := (List.range 20).filter fun k =>
        decide (0 < chordAt (s.map.chords.get l) q.referenced q.position k)
      under ≠ [] → s.meanWear l = (under.map fun k => (s.map.band k).wear).sum / under.length) ∧
    (∀ q, (s.lane l).compPosition = some q →
      (∀ k < 20, chordAt (s.map.chords.get l) q.referenced q.position k = 0) → s.meanWear l = 0) ∧
    ((s.lane l).compPosition = none ∨ s.map.valid = false → s.meanWear l = 0)

/-- R82, R83, R86, R88, R91 to R94: the 1 ms update of every channel, the lane flags, and the supply, with the notices of
completed touchdowns and releases and the causes PRESSURE_FAULT and SUPPLY_LOW where their conditions become active. The
profiles, the pending apply, the gain and the effective targets stay, and a drive target changes only with the lane's state.
The model's choice (log 18): one command updates both lanes, in a fixed order. In a set that was empty, SUPPLY_LOW holds SOFT.
-/
def Obligations.PressureUpdate : Prop :=
  ∀ (adc : Lanes (Six (BitVec 12))) (supply : BitVec 12) (s₀ s : State), s₀.settled = s →
    ∃ t, exec (.pressureUpdate adc supply) s₀ = .next t ∧
      let reading := supply.toNat * 10000 / 4095
      let low := decide (reading < s.settings.press.supplyMin)
      t.press.supplyReading = reading ∧
      t.press.supplyTimer = (if low then min s.settings.press.supplyTime (s.press.supplyTimer + 1) else 0) ∧
      t.press.supplyLowActive = (low && decide (s.settings.press.supplyTime ≤ s.press.supplyTimer + 1)) ∧
      (∀ l, t.lane l = { s.lane l with
          state := (t.lane l).state, channels := (t.lane l).channels, supplyLow := low } ∧
        ((t.lane l).state ≠ (s.lane l).state → s.drives l (t.lane l)) ∧
        (t.lane l).state =
          (if (s.lane l).state = .touchdown ∧
              (∀ c ∈ [Chan.z1, .z2, .z3, .z4, .z5, .ring],
                ((t.lane l).channels.get c).command = ((s.lane l).channels.get c).drive) then .polish
          else if (s.lane l).state = .releasing ∧
              (∀ c ∈ [Chan.z1, .z2, .z3, .z4, .z5, .ring], ((t.lane l).channels.get c).command = 0) then .raised
          else (s.lane l).state)) ∧
      (∀ l c,
        let old := (s.lane l).channels.get c
        let new := (t.lane l).channels.get c
        let step := (old.remainder + s.settings.press.rampRate.get l) / 1000
        new = { old with
            command := new.command, remainder := new.remainder, readback := new.readback, devTimer := new.devTimer
            fault := new.fault, drive := new.drive } ∧
          ((t.lane l).state = (s.lane l).state → new.drive = old.drive) ∧
          new.command =
            (if old.command < old.drive then (if low then old.command else min old.drive (old.command + step))
            else max old.drive (old.command - step)) ∧
          new.remainder =
            (if new.command = old.drive ∨ (low = true ∧ old.command < old.drive) then 0
            else (old.remainder + s.settings.press.rampRate.get l) % 1000) ∧
          new.readback = ((adc.get l).get c).toNat * 1000 / 4095 ∧
          new.devTimer =
            (if s.settings.press.tolerance < ((new.readback : Int) - new.command).natAbs
            then min s.settings.press.deviationTime (old.devTimer + 1) else 0) ∧
          new.fault = decide (s.settings.press.deviationTime ≤ new.devTimer)) ∧
      (∀ l,
        let faulted := s.pressureFault l = false ∧ ∃ c, ((t.lane l).channels.get c).fault = true
        let starved := s.press.supplyLowActive = false ∧ t.press.supplyLowActive = true
        let filed := (t.port l.port).notices
        (.touchdownDone ∈ filed ↔ .touchdownDone ∈ (s.port l.port).notices ∨
          ((s.lane l).state = .touchdown ∧ (t.lane l).state = .polish)) ∧
        (.releaseDone ∈ filed ↔ .releaseDone ∈ (s.port l.port).notices ∨
          ((s.lane l).state = .releasing ∧ (t.lane l).state = .raised)) ∧
        (faulted → t.holdLevel l = .hard ∧ ∃ e ∈ t.causes l, e.kind = .pressureFault ∧ e.severity = .hard ∧
          ∀ c, ((t.lane l).channels.get c).fault = true → e.channels.get c = true) ∧
        (starved → t.holdLevel l ≠ .none ∧ ∃ e ∈ t.causes l, e.kind = .supplyLow) ∧
        (starved → ¬ faulted → s.causes l = [] →
          t.causes l = [{ kind := .supplyLow, severity := .soft, channels := .all false }]) ∧
        (¬ faulted → ¬ starved → t.causes l = s.causes l)) ∧
      s.levelsTold t ∧ ((∀ l, t.holdLevel l = s.holdLevel l) → t.events = s.events) ∧ s.onlyFiled t ∧ s.onlyCaused t ∧
      t.matrix = { s.matrix with causes := t.matrix.causes } ∧
      t = { s with press := t.press, matrix := t.matrix, links := t.links, events := t.events }

/-- R92 to R94: the expiry of the supply-low timer adds SUPPLY_LOW to both lanes when the condition becomes active, and the
expiry of a deviation timer sets the channel's fault flag and adds PRESSURE_FAULT when the lane had none. The model's choice
(log 4): each row acts whatever the count of its running timer. -/
def Obligations.PressureExpiries : Prop :=
  ∀ (l : Lane) (c : Chan) (s₀ s : State), s₀.settled = s →
    (0 < s.press.supplyTimer →
      ∃ t, exec .supplyTimeExpiry s₀ = .next t ∧
        t.press = { s.press with supplyTimer := s.settings.press.supplyTime, supplyLowActive := true } ∧
        (s.press.supplyLowActive = false →
          (∃ e ∈ t.causes l, e.kind = .supplyLow) ∧ (s.causes l = [] → t.holdLevel l = .soft)) ∧
        (s.press.supplyLowActive = true → t.matrix = s.matrix ∧ t.events = s.events ∧ t.links = s.links) ∧
        t.matrix = { s.matrix with causes := t.matrix.causes } ∧ s.onlyCaused t ∧ s.onlyFiled t ∧ s.levelsTold t ∧
        t = { s with press := t.press, matrix := t.matrix, links := t.links, events := t.events }) ∧
    (0 < ((s.lane l).channels.get c).devTimer →
      ∃ t, exec (.deviationTimeExpiry l c) s₀ = .next t ∧
        t.press = (s.modLane l fun x => { x with channels := x.channels.set c { x.channels.get c with
          devTimer := s.settings.press.deviationTime, fault := true } }).press ∧
        (s.pressureFault l = false →
          (∃ e ∈ t.causes l, e.kind = .pressureFault ∧ e.severity = .hard ∧ e.channels.get c = true) ∧
            t.holdLevel l = .hard) ∧
        (s.pressureFault l = true → t.matrix = s.matrix ∧ t.events = s.events ∧ t.links = s.links) ∧
        t.matrix = { s.matrix with causes := s.matrix.causes.set l (t.causes l) } ∧ s.onlyCaused t ∧ s.onlyFiled t ∧
        s.levelsTold t ∧
        t = { s with press := t.press, matrix := t.matrix, links := t.links, events := t.events })

/-! ### What one block has told another -/

/-- R69, R89, R90, R106, R141, R143, R144: what each block does when it takes what another has told it. -/
def Obligations.ToldBlocksAct : Prop :=
  ∀ (l : Lane) (s u : State),
    (s.told (Event.levelTold l) (.hardHoldVent l) u →
      exec (.hardHoldVent l) s =
        .next (u.modLane l fun x =>
          { x with
            state := .raised
            channels := x.channels.map fun c => { c with command := 0, remainder := 0, drive := 0 } })) ∧
    (s.told (Event.levelTold l) (.softHoldCap l) u →
      ∃ t, exec (.softHoldCap l) s = .next t ∧ t = u.modLane l (fun _ => t.lane l) ∧
        (t.lane l) = { s.lane l with channels := (t.lane l).channels } ∧
        ∀ c,
          (t.lane l).channels.get c =
              { (s.lane l).channels.get c with drive := ((t.lane l).channels.get c).drive } ∧
            ((s.lane l).state = .raised ∨ (s.lane l).state = .releasing → ((t.lane l).channels.get c).drive = 0) ∧
            ((s.lane l).state = .touchdown ∨ (s.lane l).state = .polish →
              (s.holdLevel l = .none → ((t.lane l).channels.get c).drive = ((s.lane l).channels.get c).effective) ∧
              (s.holdLevel l = .soft → ((t.lane l).channels.get c).drive =
                min (s.settings.press.softHold.get l) ((s.lane l).channels.get c).effective))) ∧
    (s.told (Event.is (.hardHoldBarEmpty l)) (.hardHoldBarEmpty l) u →
      ((s.bar l).feed = none → exec (.hardHoldBarEmpty l) s = .next u.recompute) ∧
      (∀ k, (s.bar l).feed = some k →
        exec (.hardHoldBarEmpty l) s =
          .next (u.modBar l fun b =>
            { b with
              feed := none, fallback := false
              resume := some { line := k, fallback := (s.bar l).fallback } }).recompute)) ∧
    (s.told (Event.is (.hardHoldWithdraw l)) (.hardHoldWithdraw l) u →
      exec (.hardHoldWithdraw l) s =
        .next { u with hub := { u.hub with waitList := u.hub.waitList.filter (fun x => decide (x ≠ l.arm)) } }) ∧
    (s.told (Event.is .tripBarEmpty) .tripBarEmpty u →
      ∃ t, exec .tripBarEmpty s = .next t ∧ t = { u with slurry := t.slurry } ∧
        t.slurry.flowsTrue s.settings.slurry ∧ t.slurry.windowMs = s.slurry.windowMs ∧ (∀ k, s.lineKept t k) ∧ ∀ x : Lane,
        s.rateKept t x ∧ ((s.bar x).feed = none → (t.bar x).resume = (s.bar x).resume) ∧
        (t.bar x).feed = none ∧ (t.bar x).fallback = (if (s.bar x).feed = none then (s.bar x).fallback else false) ∧
          (∀ o, ((t.bar x).outlets.get o).served = 0) ∧
          (∀ k, (s.bar x).feed = some k → (t.bar x).resume = some { line := k, fallback := (s.bar x).fallback }) ∧
          ∀ k, (t.line k).state = (s.line k).state) ∧
    (s.told (Event.is .slurryStop) .slurryStop u →
      ∃ t, exec .slurryStop s = .next t ∧ t = { u with slurry := t.slurry } ∧
        t.slurry.flowsTrue s.settings.slurry ∧ t.slurry.windowMs = s.slurry.windowMs ∧
        (∀ k, State.lineKept (s.modLine k fun y =>
          { y with state := .off, prime := if y.state = .priming then 0 else y.prime }) t k) ∧
        (∀ x : Lane, s.rateKept t x ∧ (t.bar x).feed = none ∧
          (t.bar x).fallback = (if (s.bar x).feed = none then (s.bar x).fallback else false) ∧
          ((s.bar x).feed = none → (t.bar x).resume = (s.bar x).resume) ∧
          ∀ k, (s.bar x).feed = some k → (t.bar x).resume = some { line := k, fallback := (s.bar x).fallback }) ∧
        ∀ k, (t.line k).state = .off ∧ (t.line k).duty = 0 ∧ (t.line k).setpoint = 0) ∧
    (s.told (Event.is .mapReplaced) .mapReplaced u →
      exec .mapReplaced s = .next { u with cond := { u.cond with queue := [] } })

/-! ### The conditioner -/

/-- R101, R102: COND MODE by the state it finds. OFF empties the queue in every state. What a mode other than OFF does with
the disk up is the next statement's. The model's choices in a return to park: a grant event on its way is overtaken (log 17),
and the settle timer starts anew (log 40). -/
def Obligations.CondModeByState : Prop :=
  ∀ (m : CondMode) (s₀ s : State), s₀.heard .s = s →
    let queue := if m = .off then [] else s.cond.queue
    let purpose : LiftPurpose :=
      match m with
      | .off => .returnToPark
      | .sweep => .sweep
      | .map => .select
    (∀ n, 2 < n → exec (.condMode .s n) s₀ = .next (replied .s .condMode .range [] s)) ∧
    (s.cond.state = .fault → exec (.condMode .s m.code) s₀ = .next (replied .s .condMode .state [] s)) ∧
    (s.cond.state ≠ .fault →
      ∃ u, exec (.condMode .s m.code) s₀ = .next (replied .s .condMode .ok [] u) ∧ u.cond.mode = m ∧
        u.cond.queue = queue ∧ u = { s with cond := u.cond, hub := u.hub, links := u.links, events := u.events } ∧
        (m = s.cond.mode ∨ s.cond.state ∈ [.homing, .halted] ∨ (m = .off ∧ s.cond.state ∈ [.unreferenced, .parked]) ∨
            (s.cond.state = .unreferenced ∧ s.matrix.station = .tripped) ∨
            (s.cond.state = .lifting ∧ s.cond.liftPurpose = some .halt) →
          u = { s with cond := { s.cond with mode := m, queue := queue } }) ∧
        (m ≠ s.cond.mode → m ≠ .off → s.cond.state = .unreferenced → s.matrix.station = .normal →
          u = { s with cond := { s.cond.enter .homing with mode := m, homingTimer := some 0 } }) ∧
        (m ≠ s.cond.mode → m = .off → s.cond.state ∈ [.waitHub, .waitClear, .moving, .returning] →
          u.cond.state = .returning ∧ u.cond.target = some .park ∧ s.onlyFiled u ∧ (s.hub.lawful →
            State.returned { s with cond := { s.cond with mode := m, queue := queue } } u)) ∧
        (m ≠ s.cond.mode → s.cond.state ∈ [.lowering, .dwelling, .sweeping] →
          u = { s with cond :=
            { s.cond.enter .lifting with mode := m, queue := queue, liftPurpose := some purpose } }) ∧
        (m ≠ s.cond.mode → s.cond.state = .lifting → s.cond.liftPurpose ≠ some .halt →
          u = { s with cond := { s.cond with mode := m, queue := queue, liftPurpose := some purpose } }))

/-- R102, R103, R107, R108, R115: a COND MODE naming another mode than the one in force, with the disk up: MAP makes a
selection and SWEEP the sweep start, as `State.selected` and `State.sweepBegun` (Sys2Proof/Safety.lean) say, with the dealing
with the arbiter that the new target brings, and with the disk spent neither finds work. The model's choices: a selection
passes over an entry that rests under a lane that is down as resting (log 38), a grant event on its way is overtaken (log 17),
and a settle timer starts anew (log 40). -/
def Obligations.SelectionAndSweepStart : Prop :=
  ∀ (m : CondMode) (s₀ s : State), s₀.heard .s = s → m ≠ .off → m ≠ s.cond.mode →
    s.cond.state ∈ [.parked, .waitHub, .waitClear, .moving, .returning] → s.hub.lawful →
    ∃ u, exec (.condMode .s m.code) s₀ = .next (replied .s .condMode .ok [] u) ∧
      State.modeActed { s with cond := { s.cond with mode := m } } u

/-- R119, R120: COND RESET in FAULT and elsewhere; DISK RESET's refusals and effects. The model's choices where a PARKED
conditioner acts: its selection passes over an entry that rests under a lane that is down as resting (log 38), a grant event
on its way is overtaken (log 17), and the settle timer starts anew (log 40). -/
def Obligations.CondAndDiskReset : Prop :=
  ∀ (count : Nat) (s₀ s : State), s₀.heard .s = s →
    (s.cond.state = .fault →
      exec (.condReset .s) s₀ =
        .next (replied .s .condReset .ok []
          { s with cond :=
            { s.cond.enter .unreferenced with mode := .off, queue := [], faultKind := none, dfDevTimer := 0 } })) ∧
    (s.cond.state ≠ .fault → exec (.condReset .s) s₀ = .next (replied .s .condReset .state [] s)) ∧
    (16777215 < count → exec (.diskReset .s count) s₀ = .next (replied .s .diskReset .range [] s)) ∧
    (count ≤ 16777215 → s.cond.state ∉ [.parked, .unreferenced, .fault] →
      exec (.diskReset .s count) s₀ = .next (replied .s .diskReset .busy [] s)) ∧
    (count ≤ 16777215 → s.cond.state ∈ [.parked, .unreferenced, .fault] →
      ∃ u, exec (.diskReset .s count) s₀ = .next (replied .s .diskReset .ok [] u) ∧ u.cond.diskLife = count ∧
        u.cond.spent = decide (s.settings.cond.diskLifeLimit ≤ count) ∧
        (s.cond.spent = false → s.settings.cond.diskLifeLimit ≤ count → .diskSpent ∈ (u.port .s).notices) ∧
        (s.settings.cond.diskLifeLimit ≤ count ∨ s.cond.mode = .off ∨ s.cond.state ≠ .parked →
          u = { s with cond := { s.cond with diskLife := count, spent := u.cond.spent }, links := u.links }) ∧ s.onlyFiled u ∧
        (count < s.settings.cond.diskLifeLimit → s.cond.state = .parked → s.hub.lawful →
          State.modeActed { s with cond := { s.cond with diskLife := count, spent := false } } u))

/-- R104, R105: the rebuild of the queue from the band wear. -/
def Obligations.QueueRebuild : Prop :=
  ∀ (g : MapSettings) (m : PadMap) (queue : List QueueEntry), (queue.map (·.band)).Nodup →
    (∀ e ∈ queue, e.band ≤ 19) →
    let new := rebuildQueue g m queue
    new.Pairwise QueueEntry.precedes ∧ (new.map (·.band)).Nodup ∧ new.length ≤ 20 ∧
    (∀ k ≤ 19, (∃ e ∈ new, e.band = k) ↔
      ((∃ e ∈ queue, e.band = k) ∧ g.condStop ≤ (m.band k).wear) ∨ g.condStart ≤ (m.band k).wear) ∧
    ∀ e ∈ new, e.band ≤ 19 ∧ e.rankedWear = (m.band e.band).wear ∧
      ((∀ old ∈ queue, old.band ≠ e.band) → e.rest = none) ∧
      (∀ old ∈ queue, old.band = e.band → g.condStop ≤ (m.band e.band).wear →
        (old.rest = none ∨ old.rest = some 1 → e.rest = none) ∧ ∀ n, old.rest = some (n + 2) → e.rest = some (n + 1))

/-- R105, R107, R112, R113, R115, R120: a map updated event rebuilds the queue, counts disk life, and then does the work of
the state: a selection where the conditioner stands free, the dwell test, the spent test of a sweep, or nothing. The model's
choices: a selection passes over an entry that rests under a lane that is down as resting (log 38), a grant event on its way
is overtaken (log 17), and the settle timer starts anew (log 40). -/
def Obligations.CondMapUpdated : Prop :=
  ∀ (e : MapUpdated) (s v : State), s.told Event.isCondMapUpdated (.condMapUpdated e) v →
    ∃ t, exec .condMapUpdated s = .next t ∧
      let queue := if s.cond.mode = .off then s.cond.queue else rebuildQueue s.settings.map s.map s.cond.queue
      let life := if e.diskCut then min 16777215 (s.cond.diskLife + 1) else s.cond.diskLife
      let spent := if e.diskCut then decide (s.settings.cond.diskLifeLimit ≤ life) else s.cond.spent
      let counted : Conditioner := { s.cond with queue := queue, diskLife := life, spent := spent }
      let noted : State :=
        if s.cond.spent = false ∧ spent = true then State.file .s .diskSpent { v with cond := counted }
        else { v with cond := counted }
      t = { v with cond := t.cond, hub := t.hub, links := t.links, events := t.events } ∧ v.onlyFiled t ∧
      (s.cond.state ∉ [.parked, .waitHub, .waitClear] ∨ s.cond.mode ≠ .map →
        t.hub = s.hub ∧ t.links = noted.links ∧ t.events = v.events) ∧
      t.cond.diskLife = life ∧
      t.cond.spent = spent ∧ t.cond.mode = s.cond.mode ∧
      t.cond.queue.map (fun x => (x.band, x.rankedWear)) = queue.map (fun x => (x.band, x.rankedWear)) ∧
      (s.cond.spent = false → spent = true → .diskSpent ∈ (t.port .s).notices) ∧
      (s.cond.state ∈ [.unreferenced, .homing, .moving, .lowering, .lifting, .returning, .halted, .fault] →
        t.cond = counted ∧ t.hub = s.hub) ∧
      (s.cond.state ∈ [.parked, .waitHub, .waitClear] →
        (s.cond.mode ≠ .map → t.cond = counted ∧ t.hub = s.hub) ∧
        (s.cond.mode = .map → s.hub.lawful → noted.selected t)) ∧
      (s.cond.state = .sweeping →
        t.hub = s.hub ∧
          t.cond = if spent then { counted.enter .lifting with liftPurpose := some .returnToPark } else counted) ∧
      (∀ k, s.cond.state = .dwelling → s.cond.target = some (.band k) →
        let gone := ¬ ∃ x ∈ queue, x.band = k
        let blocked := s.settings.cond.policy = .clear ∧ ∃ l, (s.lane l).state ≠ .raised ∧ 0 < s.laneChord l k
        t.hub = s.hub ∧
        (gone ∨ blocked → t.cond = { counted.enter .lifting with liftPurpose := some .select }) ∧
        (¬ gone → ¬ blocked → s.cond.dwell + 1 < s.settings.cond.dwellLimit →
          t.cond = { counted with dwell := s.cond.dwell + 1 }) ∧
        (¬ gone → ¬ blocked → s.settings.cond.dwellLimit ≤ s.cond.dwell + 1 →
          t.cond = { counted.enter .lifting with
            dwell := s.cond.dwell + 1, liftPurpose := some .select
            queue := queue.map fun x =>
              if x.band = k then { x with rest := some s.settings.cond.dwellLimit } else x }))

/-- R108, R115, R116, R117: which targets need the hub, and what the conditioner does in each state with a grant, with the
loss of a grant, with a trip and with a trip clear. The model's choices: a claim or a release made meanwhile overtakes a grant
event on its way (log 17), and a settle timer starts anew with the move (log 40). -/
def Obligations.CondTold : Prop :=
  ∀ s u : State,
    s.needsHubTrue ∧
    (s.told Event.grantTold .condGrant u →
      (s.cond.state = .waitHub → ∃ t, exec .condGrant s = .next t ∧ t = { u with cond := t.cond } ∧ u.turned t ∧
        t.cond.state = (if s.cond.target = some .sweepResume then .lowering else .moving) ∧
        t.cond.target = s.cond.target) ∧
      (s.cond.state ∈ [.halted, .fault] ∨ (s.cond.state = .lifting ∧ s.cond.liftPurpose = some .waitHub) →
        exec .condGrant s = .next u) ∧
      (s.cond.state ∉ [.waitHub, .halted, .fault] → (s.cond.state = .lifting → s.cond.liftPurpose ≠ some .waitHub) →
        (s.hub.holder = some .cond → exec .condGrant s = .next (if (s.arm .cond).inside then u else u.endGrant)) ∧
        (s.hub.holder ≠ some .cond →
          exec .condGrant s = .next { u with
            hub := { u.hub with waitList := u.hub.waitList.filter (fun x => decide (x ≠ Arm.cond)) } }))) ∧
    (s.told Event.grantTold .condGrantLost u →
      (s.cond.state ∉ [.moving, .lowering, .sweeping] → exec .condGrantLost s = .next u) ∧
      (s.cond.state = .moving → (∀ x, s.cond.target = some x → s.needsHub x = false) → exec .condGrantLost s = .next u) ∧
      (s.cond.state = .lowering → s.cond.target ≠ some .sweepResume ∨ s.needsHub .sweepStart = false →
        exec .condGrantLost s = .next u) ∧
      (s.cond.state = .sweeping → s.cond.sweepDir ≠ some .inward ∨ s.needsHub .sweepStart = false →
        exec .condGrantLost s = .next u) ∧
      (∀ x, s.cond.state = .moving → s.cond.target = some x → s.needsHub x = true → s.hub.lawful →
        (s.arm .cond).referenced = true → ∃ t, exec .condGrantLost s = .next t ∧
          t = { u with cond := t.cond, hub := t.hub, events := t.events } ∧ u.claimed t ∧
          (s.hub.holder = none ∨ s.hub.holder = some .cond → t.hub.holder = some .cond ∧ t.cond = s.cond) ∧
          (∀ y, s.hub.holder = some y → y ≠ .cond →
            t.hub.holder = some y ∧ .cond ∈ t.hub.waitList ∧ t.cond = s.cond.enter .waitHub)) ∧
      (s.cond.state = .lowering → s.cond.target = some .sweepResume → s.needsHub .sweepStart = true → s.hub.lawful →
        (s.arm .cond).referenced = true → ∃ t, exec .condGrantLost s = .next t ∧
          t = { u with cond := t.cond, hub := t.hub, events := t.events } ∧ u.claimed t ∧
          (s.hub.holder = none ∨ s.hub.holder = some .cond → t.hub.holder = some .cond ∧ t.cond = s.cond) ∧
          (∀ y, s.hub.holder = some y → y ≠ .cond →
            t.hub.holder = some y ∧ .cond ∈ t.hub.waitList ∧
              t.cond = { s.cond.enter .lifting with liftPurpose := some .waitHub })) ∧
      (s.cond.state = .sweeping → s.cond.sweepDir = some .inward → s.needsHub .sweepStart = true →
        ∃ t, exec .condGrantLost s = .next t ∧ t = { u with cond := t.cond } ∧ u.stroke .outward t)) ∧
    (s.told Event.tripTold .condTripHalt u →
      (s.cond.state ∈ [.lowering, .dwelling, .sweeping] →
        exec .condTripHalt s = .next { u with cond :=
          { u.cond.enter .lifting with dfCommand := 0, clearNoted := false, liftPurpose := some .halt } }) ∧
      (s.cond.state = .lifting →
        exec .condTripHalt s =
          .next { u with cond := { u.cond with dfCommand := 0, clearNoted := false, liftPurpose := some .halt } }) ∧
      (s.cond.state ∈ [.parked, .waitHub, .waitClear, .moving, .returning] →
        exec .condTripHalt s = .next { u with cond := u.cond.enter .halted }) ∧
      (s.cond.state = .homing → exec .condTripHalt s = .next { u with cond := u.cond.enter .unreferenced }) ∧
      (s.cond.state ∈ [.unreferenced, .fault, .halted] → exec .condTripHalt s = .next u)) ∧
    (s.told Event.tripTold .condTripClear u →
      (s.cond.state = .halted → ∃ t, exec .condTripClear s = .next t ∧ t.cond.state = .returning ∧
        t.cond.target = some .park ∧ u.onlyFiled t ∧ (s.hub.lawful → u.returned t) ∧
        t = { u with cond := t.cond, hub := t.hub, links := t.links, events := t.events }) ∧
      (s.cond.state = .unreferenced → s.cond.mode ≠ .off →
        exec .condTripClear s =
          .next { u with cond := { u.cond.enter .homing with homingTimer := some 0 } }) ∧
      (s.cond.state = .unreferenced → s.cond.mode = .off → exec .condTripClear s = .next u) ∧
      (s.cond.state = .lifting → s.cond.liftPurpose = some .halt →
        exec .condTripClear s = .next { u with cond := { u.cond with clearNoted := true } }) ∧
      (s.cond.state = .lifting → s.cond.liftPurpose ≠ some .halt → exec .condTripClear s = .next u) ∧
      (s.cond.state ∉ [.halted, .unreferenced, .lifting] → exec .condTripClear s = .next u))

/-- R108 to R110, R115, R118: the radius that the arm is stepped to, and one step of the arm in MOVING, RETURNING and SWEEPING
and in HOMING, and an arrival. The model's choices: an arrival is taken before the command that follows it, and while one is
due the arm is not stepped (log 36); each HOMING_STEP goes by the level of the home switch it carries (log 33); where the
conditioner parks in mode MAP, its selection passes over an entry that rests under a lane that is down as resting (log 38),
and its dealing overtakes a grant event on its way (log 17) with the settle timer starting anew (log 40). -/
def Obligations.CondMotion : Prop :=
  ∀ (r : Nat) (s : State),
    let count := (s.arm .cond).count.toInt
    let arrived := (count - r).natAbs ≤ 50
    let next : BitVec 32 := if s.cond.stepPos.toInt < r then s.cond.stepPos + 1 else s.cond.stepPos - 1
    let settle := if next.toInt = r then some 0 else s.cond.settleTimer
    s.needsHubTrue ∧
    (s.cond.state = .moving ∨ s.cond.state = .returning →
      s.strokeRadius = s.cond.target.map fun x =>
        match x with
        | .band k => 2000 * k + 1000
        | .sweepStart => s.settings.cond.sweepInner
        | .sweepResume => s.settings.cond.sweepOuter
        | .park => s.settings.cond.parkRadius) ∧
    (s.cond.state = .sweeping →
      s.strokeRadius = s.cond.sweepDir.map fun d =>
        if d = .outward then s.settings.cond.sweepOuter else s.settings.cond.sweepInner) ∧
    (s.cond.state ∉ [.moving, .returning, .sweeping] → s.strokeRadius = none) ∧
    (∀ s₀ : State, s₀.settled = s →
      (s.strokeRadius = some r → ¬ arrived → s.cond.stepPos.toInt ≠ r → (count - next.toInt).natAbs ≤ 200 →
        exec .condStep s₀ = .next { s with cond := { s.cond with stepPos := next, settleTimer := settle } }) ∧
      (s.strokeRadius = some r → ¬ arrived → s.cond.stepPos.toInt ≠ r → 200 < (count - next.toInt).natAbs →
        exec .condStep s₀ =
          .next (State.faulted { s with cond := { s.cond with stepPos := next } } .following)) ∧
      (s.strokeRadius = some r → arrived ∨ s.cond.stepPos.toInt = r → exec .condStep s₀ = .next s) ∧
      (s.strokeRadius = none → exec .condStep s₀ = .next s) ∧
      (∀ active : Bool,
        (s.cond.state = .homing →
          exec (.homingStep active) s₀ =
            .next { s with cond :=
              { s.cond with stepPos := if active then s.cond.stepPos - 1 else s.cond.stepPos + 1 } }) ∧
        (s.cond.state ≠ .homing → exec (.homingStep active) s₀ = .next s))) ∧
    (s.strokeRadius = none → exec .moveArrival s = .next s) ∧
    (s.strokeRadius = some r → ¬ arrived → exec .moveArrival s = .next s) ∧
    (s.strokeRadius = some r → arrived →
      (s.cond.state = .moving → exec .moveArrival s = .next { s with cond := s.cond.enter .lowering }) ∧
      (s.cond.state = .returning → ∃ w t : State, exec .moveArrival s = .next t ∧
        w = { s with
          cond := { s.cond.enter .parked with target := none }, hub := w.hub, links := w.links, events := w.events } ∧
        s.onlyFiled t ∧ (s.hub.lawful → s.gaveUp w ∧ w.modeActed t) ∧ (s.cond.mode = .off → t = w) ∧
        t = { s with cond := t.cond, hub := t.hub, links := t.links, events := t.events }) ∧
      (s.cond.state = .sweeping → ∃ t, exec .moveArrival s = .next t ∧
        t = { s with cond := t.cond, hub := t.hub, events := t.events } ∧
        (s.cond.sweepDir = some .inward → s.stroke .outward t ∧ t.hub = s.hub ∧ t.events = s.events) ∧
        (s.cond.sweepDir = some .outward → s.needsHub .sweepStart = false ∨ s.hub.holder = some .cond →
          s.stroke .inward t ∧ t.hub = s.hub ∧ t.events = s.events) ∧
        (s.cond.sweepDir = some .outward → s.needsHub .sweepStart = true → s.hub.lawful →
          (s.arm .cond).referenced = true →
          s.hub.holder ≠ some .cond →
          s.claimed t ∧ (s.hub.holder = none → s.stroke .inward t) ∧
          (∀ l : Lane, s.hub.holder = some l.arm →
            t.cond = { s.cond.enter .lifting with liftPurpose := some .waitHub }))))

/-- R118, R119: the conditioner's faults by its timers. The first fault decides the kind. The model's choice (log 4): each row
acts whatever the count of its running timer. -/
def Obligations.CondFaults : Prop :=
  ∀ s₀ s : State, s₀.settled = s →
    (∀ r, s.strokeRadius = some r → 50 < ((s.arm .cond).count.toInt - r).natAbs → s.cond.settleTimer.isSome = true →
      exec .settleTimeout s₀ = .next (s.faulted .settle)) ∧
    (s.cond.state = .lifting → s.cond.liftTimer.isSome = true → exec .liftTimeout s₀ = .next (s.faulted .lift)) ∧
    (s.cond.state = .homing → exec .homingTimeout s₀ = .next (s.faulted .homing)) ∧
    (s.cond.state ≠ .fault → 0 < s.cond.dfDevTimer →
      exec .downforceFault s₀ = .next ((s.faulted .downforce).modCond fun c =>
        { c with dfDevTimer := s.settings.press.deviationTime })) ∧
    (s.cond.state = .fault → exec .settleTimeout s₀ = .next s ∧ exec .liftTimeout s₀ = .next s ∧
      exec .homingTimeout s₀ = .next s ∧ exec .downforceFault s₀ = .next s ∧ exec .condStep s₀ = .next s)

/-- R83, R93, R111, R114, R117, R118: the 1 ms update of the downforce channel, the completed lowering and the completed lift.
The model's choices: LOWERING_COMPLETE and LIFT_COMPLETE as rows complete outside an update where the command allows it, the
latter standing for the disk-up sensor being active, and change nothing otherwise (log 6); a fault is found before a
completion of the same update (log 25); the readback may exceed 500 (log 15); the lift timer starts at the update at which the
command is 0 in LIFTING (log 19); and after a lift a selection passes over an entry that rests under a lane that is down as
resting (log 38), a grant event on its way is overtaken (log 17), and the settle timer starts anew (log 40). -/
def Obligations.Downforce : Prop :=
  ∀ (adc : BitVec 12) (diskUp : Bool) (s₀ s : State), s₀.settled = s →
    let force := min s.settings.cond.downforce s.settings.cond.downforceLimit
    let drive := if s.cond.state ∈ [.lowering, .dwelling, .sweeping] then force else 0
    let command := if s.cond.dfCommand < drive then s.cond.dfCommand + 1
      else if drive < s.cond.dfCommand then s.cond.dfCommand - 1 else s.cond.dfCommand
    let readback := adc.toNat * 1000 / 4095
    let timer := if s.settings.press.tolerance < ((readback : Int) - command).natAbs
      then min s.settings.press.deviationTime (s.cond.dfDevTimer + 1) else 0
    let lift := if s.cond.state = .lifting ∧ command = 0 ∧ s.cond.liftTimer = none then some 0 else s.cond.liftTimer
    let updated : State := { s with cond :=
      { s.cond with dfCommand := command, dfReadback := readback, dfDevTimer := timer, liftTimer := lift } }
    let lowered := fun a b : State =>
      b = { a with cond := b.cond } ∧
      (∀ k, a.cond.target = some (.band k) → b.cond = { a.cond.enter .dwelling with dwell := 0 }) ∧
      (a.cond.target = some .sweepStart → a.stroke .outward b) ∧ (a.cond.target = some .sweepResume → a.stroke .inward b)
    let lifted := fun a b : State =>
      b = { a with cond := b.cond, hub := b.hub, links := b.links, events := b.events } ∧ a.onlyFiled b ∧
      (a.cond.liftPurpose = some .halt → a.cond.clearNoted = false → b = { a with cond := a.cond.enter .halted }) ∧
      (a.hub.lawful →
        (a.cond.liftPurpose = some .halt → a.cond.clearNoted = true → 
          State.returned { a with cond := { a.cond with clearNoted := false } } b) ∧
        (a.cond.liftPurpose = some .returnToPark → a.returned b) ∧
        (a.cond.liftPurpose = some .select → a.selected b) ∧ (a.cond.liftPurpose = some .sweep → a.sweepBegun b) ∧
        (a.cond.liftPurpose = some .waitHub →
          a.dealt .sweepResume
            (decide (a.settings.cond.sweepInner < a.settings.tracker.hubSize * 2000 + a.settings.tracker.condReach))
            .lowering b))
    (s.cond.state = .fault ∨ (timer < s.settings.press.deviationTime ∧
        (s.cond.state = .lowering → command ≠ force) ∧ (s.cond.state = .lifting → 0 < command ∨ diskUp = false)) →
      exec (.downforceUpdate adc diskUp) s₀ = .next updated) ∧
    (s.cond.state ≠ .fault → s.settings.press.deviationTime ≤ timer →
      exec (.downforceUpdate adc diskUp) s₀ = .next (updated.faulted .downforce)) ∧
    (s.cond.state = .lowering → s.cond.dfCommand = force → ∃ t, exec .loweringComplete s₀ = .next t ∧ lowered s t) ∧
    (s.cond.state ≠ .lowering ∨ s.cond.dfCommand ≠ force → exec .loweringComplete s₀ = .next s) ∧
    (timer < s.settings.press.deviationTime → s.cond.state = .lowering → command = force →
      ∃ t, exec (.downforceUpdate adc diskUp) s₀ = .next t ∧ lowered updated t) ∧
    (timer < s.settings.press.deviationTime → s.cond.state = .lifting → command = 0 → diskUp = true →
      ∃ t, exec (.downforceUpdate adc diskUp) s₀ = .next t ∧ lifted updated t) ∧
    (s.cond.state = .lifting → s.cond.dfCommand = 0 → ∃ t, exec .liftComplete s₀ = .next t ∧ lifted s t) ∧
    (s.cond.state ≠ .lifting ∨ s.cond.dfCommand ≠ 0 → exec .liftComplete s₀ = .next s)

/-! ### Slurry -/

/-- R125 to R127: LINE START, LINE RESTART and LINE STOP by their cases. The recompute that follows an accepted change of
state leaves every flow as the rules give it. The bars, the other lines and the measurement stay as they are. -/
def Obligations.LineRequests : Prop :=
  ∀ (k : Line) (s₀ s : State), s₀.heard .s = s →
    let code := feedCode (some k)
    (∀ n, n = 0 ∨ 3 < n →
      exec (.lineStart .s n) s₀ = .next (replied .s .lineStart .range [] s) ∧
      exec (.lineRestart .s n) s₀ = .next (replied .s .lineRestart .range [] s) ∧
      exec (.lineStop .s n) s₀ = .next (replied .s .lineStop .range [] s)) ∧
    (s.targetActive .slurryStop = true →
      exec (.lineStart .s code) s₀ = .next (replied .s .lineStart .held [] s) ∧
      exec (.lineRestart .s code) s₀ = .next (replied .s .lineRestart .held [] s)) ∧
    (s.targetActive .slurryStop = false →
      ((s.line k).state ≠ .off → exec (.lineStart .s code) s₀ = .next (replied .s .lineStart .state [] s)) ∧
      ((s.line k).state ≠ .stopped → exec (.lineRestart .s code) s₀ = .next (replied .s .lineRestart .state [] s)) ∧
      ∃ u, u = { s with slurry := u.slurry } ∧ u.slurry.flowsTrue s.settings.slurry ∧
        u.slurry.windowMs = s.slurry.windowMs ∧ (∀ j, j ≠ k → s.lineKept u j) ∧ (∀ l, s.barKept u l ∧ s.rateKept u l) ∧
        (s.settings.slurry.primeCount.get k = 0 → State.lineKept (s.modLine k fun y => { y with state := .ready }) u k ∧
          ((s.line k).state = .off → exec (.lineStart .s code) s₀ = .next (replied .s .lineStart .ok [] u)) ∧
          ((s.line k).state = .stopped → exec (.lineRestart .s code) s₀ = .next (replied .s .lineRestart .ok [] u))) ∧
        (0 < s.settings.slurry.primeCount.get k → 
          State.lineKept (s.modLine k fun y => { y with state := .priming, prime := 0, lastPulse := 0 }) u k ∧
          ((s.line k).state = .off → exec (.lineStart .s code) s₀ = .next (replied .s .lineStart .accepted [] u)) ∧
          ((s.line k).state = .stopped →
            exec (.lineRestart .s code) s₀ = .next (replied .s .lineRestart .accepted [] u)))) ∧
    ((s.line k).state = .off → exec (.lineStop .s code) s₀ = .next (replied .s .lineStop .ok [] s)) ∧
    ((s.line k).state = .priming ∨ (s.line k).state = .ready → (∃ l, (s.bar l).feed = some k) →
      exec (.lineStop .s code) s₀ = .next (replied .s .lineStop .inUse [] s)) ∧
    ((s.line k).state = .stopped ∨ ((s.line k).state ≠ .off ∧ ∀ l, (s.bar l).feed ≠ some k) →
      ∃ u, exec (.lineStop .s code) s₀ = .next (replied .s .lineStop .ok [] u) ∧ u = { s with slurry := u.slurry } ∧
        u.slurry.flowsTrue s.settings.slurry ∧ u.slurry.windowMs = s.slurry.windowMs ∧ (u.line k).duty = 0 ∧
        State.lineKept (s.modLine k fun y =>
          { y with state := .off, prime := if y.state = .priming then 0 else y.prime }) u k ∧
        (∀ j, j ≠ k → s.lineKept u j) ∧ ∀ l, s.barKept u l ∧ s.rateKept u l)

/-- R135 to R139: FEED SELECT and RATE SET, with every flow as the rules give it after them. -/
def Obligations.FeedAndRate : Prop :=
  ∀ (l : Lane) (s₀ s : State), s₀.heard l.port = s →
    (∀ n, 3 < n → exec (.feedSelect l.port n) s₀ = .next (replied l.port .feedSelect .range [] s)) ∧
    (∀ k : Line,
      (s.matrix.station = .tripped ∨ s.holdLevel l = .hard ∨ s.targetActive .slurryStop = true →
        exec (.feedSelect l.port (feedCode (some k))) s₀ = .next (replied l.port .feedSelect .held [] s)) ∧
      (s.matrix.station = .normal → s.holdLevel l ≠ .hard → s.targetActive .slurryStop = false →
        (s.line k).state ≠ .ready →
        exec (.feedSelect l.port (feedCode (some k))) s₀ = .next (replied l.port .feedSelect .notReady [] s))) ∧
    (∀ feed : Option Line,
      (∀ k, feed = some k → s.matrix.station = .normal ∧ s.holdLevel l ≠ .hard ∧
        s.targetActive .slurryStop = false ∧ (s.line k).state = .ready) →
      ∃ u, exec (.feedSelect l.port (feedCode feed)) s₀ = .next (replied l.port .feedSelect .ok [] u) ∧
        u = { s with slurry := u.slurry } ∧ u.slurry.flowsTrue s.settings.slurry ∧
        (u.bar l).feed = feed ∧ (u.bar l).fallback = false ∧ (u.bar l).resume = none ∧
        (∀ x, s.rateKept u x) ∧ (∀ x, x ≠ l → s.barKept u x) ∧ (∀ k, s.lineKept u k) ∧
        u.slurry.windowMs = s.slurry.windowMs) ∧
    (∀ (rate : Nat) (w : Three Nat),
      (15 < w.inner ∨ 15 < w.middle ∨ 15 < w.outer →
        exec (.rateSet l.port rate w) s₀ = .next (replied l.port .rateSet .range [] s)) ∧
      (w.inner ≤ 15 → w.middle ≤ 15 → w.outer ≤ 15 → rate ≤ 65535 →
        ∃ u, exec (.rateSet l.port rate w) s₀ =
            .next (({ state := u, result := .ok
                      clamped := decide (s.settings.slurry.barMax.get l < rate)
                      noWeight := decide (w.inner + w.middle + w.outer = 0) } : Answer).compose l.port
              Kind.rateSet.byte) ∧
          u = { s with slurry := u.slurry } ∧ u.slurry.flowsTrue s.settings.slurry ∧
          (u.bar l).rate = min rate (s.settings.slurry.barMax.get l) ∧ (u.bar l).weights = w ∧
          (∀ x, s.barKept u x) ∧ (∀ x, x ≠ l → s.rateKept u x) ∧ (∀ k, s.lineKept u k) ∧
          u.slurry.windowMs = s.slurry.windowMs))

/-- R129 to R132: a pulse of a flow meter, the stop of a line with the moves of its bars, and the end of a window. The model's
choices: STOP_TIMEOUT_EXPIRY stops a driven line whatever the count of its timer (log 4), and FLOW_WINDOW_END ends one window
for all three lines (log 20). -/
def Obligations.FlowEvents : Prop :=
  ∀ (k : Line) (s₀ s : State), s₀.settled = s →
    let x := s.line k
    ((s.line k).duty = 0 → exec (.flowMeterPulse k) s₀ = .next s) ∧
    (0 < x.duty → x.state ≠ .priming →
      exec (.flowMeterPulse k) s₀ = .next (s.modLine k fun y => { y with lastPulse := 0, window := y.window + 1 })) ∧
    (0 < x.duty → x.state = .priming → x.prime + 1 < s.settings.slurry.primeCount.get k →
      exec (.flowMeterPulse k) s₀ =
        .next (s.modLine k fun y => { y with lastPulse := 0, window := y.window + 1, prime := y.prime + 1 })) ∧
    (0 < x.duty → x.state = .priming → s.settings.slurry.primeCount.get k ≤ x.prime + 1 →
      ∃ t, exec (.flowMeterPulse k) s₀ = .next t ∧ t = { s with slurry := t.slurry, links := t.links } ∧
        State.lineKept (s.modLine k fun y =>
          { y with state := .ready, prime := y.prime + 1, window := y.window + 1, lastPulse := 0 }) t k ∧
        t.slurry.flowsTrue s.settings.slurry ∧ t.slurry.windowMs = s.slurry.windowMs ∧ s.onlyFiled t ∧
        .lineReady ∈ (t.port .s).notices ∧ (∀ l, s.barKept t l ∧ s.rateKept t l) ∧ ∀ j, j ≠ k → s.lineKept t j) ∧
    (x.state = .priming ∨ x.state = .ready → 0 < x.duty →
      ∃ t, exec (.stopTimeoutExpiry k) s₀ = .next t ∧ t = { s with slurry := t.slurry, links := t.links } ∧
        State.lineKept (s.modLine k fun y =>
          { y with state := .stopped, prime := if y.state = .priming then 0 else y.prime }) t k ∧
        (t.line k).duty = 0 ∧ .lineStopped ∈ (t.port .s).notices ∧ s.onlyFiled t ∧
        t.slurry.flowsTrue s.settings.slurry ∧ t.slurry.windowMs = s.slurry.windowMs ∧
        (∀ j, j ≠ k → s.lineKept t j) ∧ s.barsMoved k t) ∧
    (x.state = .off ∨ x.state = .stopped ∨ x.duty = 0 → exec (.stopTimeoutExpiry k) s₀ = .next s) ∧
    ∃ t, exec .flowWindowEnd s₀ = .next t ∧ t = { s with slurry := t.slurry } ∧ t.slurry.bars = s.slurry.bars ∧
      t.slurry.windowMs = 0 ∧
      t.line k = { x with
        measured := x.window * 60000 / s.settings.slurry.pulsesPerLitre.get k, window := 0 }

/-! ### Holds and trips -/

/-- R151, R152, R157 to R159: REMOTE HOLD on a port that may name the lane, REMOTE TRIP and TRIP CLEAR, with the condition of
each trip cause. An entry has the severity with which its kind is added, so that SET SOFT of a lane without causes holds it
SOFT. -/
def Obligations.RemoteAndTripClear : Prop :=
  (∀ (l : Lane) (p : Port) (code : Option Nat) (s₀ s : State), s₀.heard p = s →
    (p = .s ∧ code = some (laneCode l)) ∨ (p = l.port ∧ code = none) →
    (∀ sev : Severity, ∃ u, exec (.remoteHold p code sev.code) s₀ = .next (replied p .remoteHold .ok [] u) ∧
      u.matrix = { s.matrix with
        remoteHold := s.matrix.remoteHold.set l (some sev), causes := s.matrix.causes.set l (u.causes l) } ∧
      State.onlyCaused
        { s with matrix := { s.matrix with remoteHold := s.matrix.remoteHold.set l (some sev) } } u ∧
      s.onlyFiled u ∧ s.levelsTold u ∧
      u = { s with matrix := u.matrix, links := u.links, events := u.events } ∧
      (s.matrix.remoteHold.get l = none ∨ (s.matrix.remoteHold.get l = some .soft ∧ sev = .hard) →
        (∃ e ∈ u.causes l, e.kind = .remote ∧ (sev = .hard → e.severity = .hard)) ∧
        (s.causes l = [] → u.causes l = [{ kind := .remote, severity := sev, channels := .all false }]) ∧
        (sev = .hard → u.holdLevel l = .hard) ∧ u.holdLevel l ≠ .none) ∧
      (s.matrix.remoteHold.get l = some .hard ∨ s.matrix.remoteHold.get l = some sev →
        u.matrix.causes = s.matrix.causes ∧ u.events = s.events ∧ u.links = s.links)) ∧
    exec (.remoteHold p code 2) s₀ =
      .next (replied p .remoteHold .ok []
        { s with matrix := { s.matrix with remoteHold := s.matrix.remoteHold.set l none } }) ∧
    ∀ n, 2 < n → exec (.remoteHold p code n) s₀ = .next (replied p .remoteHold .range [] s)) ∧
  ∀ s₀ s : State, s₀.heard .s = s →
    let input := fun i : InputIndex => xor (s.matrix.input i).accepted (s.settings.matrix.invertMask.getLsbD i)
    let active := fun c : TripCause =>
      match c with
      | .input => ∃ i : InputIndex, (s.settings.matrix.masks.get .stationTrip).getLsbD i = true ∧ input i = true
      | .remote => s.matrix.remoteTrip = true
      | .hubIntrusion => ∃ m, s.hub.intruders.get m = true
      | .platenStall => s.tracker.state = .stalled
      | .platenLost => s.tracker.state = .lost
    (∀ n a, 1 < n → exec (.remoteHold .s (some n) a) s₀ = .next (replied .s .remoteHold .range [] s)) ∧
    (∃ u, exec (.remoteTrip .s 0) s₀ = .next (replied .s .remoteTrip .ok [] u) ∧ u.matrix.remoteTrip = true ∧
      (s.matrix.remoteTrip = false → s.tripsTo .remote u) ∧
      (s.matrix.remoteTrip = true → u = s) ∧ s.onlyFiled u ∧
      State.onlyCaused { s with matrix := { s.matrix with remoteTrip := true } } u ∧
      u = { s with matrix := u.matrix, links := u.links, events := u.events }) ∧
    exec (.remoteTrip .s 1) s₀ =
      .next (replied .s .remoteTrip .ok [] { s with matrix := { s.matrix with remoteTrip := false } }) ∧
    (∀ n, 1 < n → exec (.remoteTrip .s n) s₀ = .next (replied .s .remoteTrip .range [] s)) ∧
    (s.matrix.station = .normal → exec (.tripClear .s) s₀ = .next (replied .s .tripClear .state [] s)) ∧
    (s.matrix.station = .tripped →
      ((∃ c, active c) → ∃ named : Byte,
        exec (.tripClear .s) s₀ = .next (replied .s .tripClear .causeActive [named] s) ∧
        ∀ c : TripCause, named.getLsbD (TripCause.all.idxOf c) = true ↔ active c) ∧
      ((∀ c, ¬ active c) →
        exec (.tripClear .s) s₀ =
          .next (replied .s .tripClear .ok []
            { s with
              matrix := { s.matrix with station := .normal, tripCauses := [] }
              events := s.events ++ [.condTripClear] })))

/-- R142, R150, R152, R155, R156, R177: RESUME by its cases, with the condition of each cause, and of a target as the model's
`State.targetActive` gives it. LINK_SILENT's condition is active from the expiry that added it to the next valid frame, which
is while the silent flag of that silence is set. The model's choice (log 30): where the link is silent again with the entry
kept, which R177 has active and R152 and R155 have ended, it is ended. -/
def Obligations.ResumeByCases : Prop :=
  ∀ (l : Lane) (p : Port) (code : Option Nat) (s₀ s : State), s₀.heard p = s →
    (p = .s ∧ code = some (laneCode l)) ∨ (p = l.port ∧ code = none) →
    let input := fun i : InputIndex => xor (s.matrix.input i).accepted (s.settings.matrix.invertMask.getLsbD i)
    let wet := (s.bar l).feed ≠ none ∧ 0 < ((s.bar l).outlets.get .inner).served +
      ((s.bar l).outlets.get .middle).served + ((s.bar l).outlets.get .outer).served
    let active := fun k : CauseKind =>
      match k with
      | .input => ∃ i : InputIndex, (s.settings.matrix.masks.get l.holdTarget).getLsbD i = true ∧ input i = true
      | .remote => s.matrix.remoteHold.get l ≠ none
      | .pressureFault => ∃ c, ((s.lane l).channels.get c).fault = true
      | .dry => (s.lane l).state ≠ .raised ∧ ¬ wet
      | .linkSilent =>
        (s.links.silence.get l).silent = true ∧ (s.links.silence.get l).cause = true
      | .supplyLow => s.press.supplyLowActive = true
      | .trip => s.matrix.station = .tripped
    (∀ t : Target, s.targetActive t = true ↔
      ∃ i : InputIndex, (s.settings.matrix.masks.get t).getLsbD i = true ∧ input i = true) ∧
    (s.causes l = [] → exec (.resume p code) s₀ = .next (replied p .resume .state [] s)) ∧
    ((∃ e ∈ s.causes l, active e.kind) → ∃ named : Byte,
      exec (.resume p code) s₀ = .next (replied p .resume .causeActive [named] s) ∧
      ∀ k : CauseKind, named.getLsbD (CauseKind.all.idxOf k) = true ↔ (∃ e ∈ s.causes l, e.kind = k) ∧ active k) ∧
    (s.causes l ≠ [] → (∀ e ∈ s.causes l, ¬ active e.kind) →
      ∃ (u : State) (lost : Bool),
        exec (.resume p code) s₀ =
          .next (({ state := u, result := .ok, feedNotRestored := lost } : Answer).compose p Kind.resume.byte) ∧
        u = { s with
          slurry := u.slurry, matrix := { s.matrix with causes := s.matrix.causes.set l [] }
          events := s.events ++ [.softHoldCap l] } ∧
        (s.holdLevel l = .soft → u.slurry = s.slurry ∧ lost = false) ∧
        (s.holdLevel l = .hard → u.slurry.flowsTrue s.settings.slurry ∧ (u.bar l).resume = none ∧
          u.slurry.windowMs = s.slurry.windowMs ∧ (∀ k, s.lineKept u k) ∧ (∀ x, s.rateKept u x) ∧
          (∀ x, x ≠ l → s.barKept u x) ∧ ((s.bar l).resume = none → s.barKept u l ∧ lost = false) ∧
          ∀ r, (s.bar l).resume = some r →
            ((s.line r.line).state = .ready →
              (u.bar l).feed = some r.line ∧ (u.bar l).fallback = r.fallback ∧ lost = false) ∧
            ((s.line r.line).state ≠ .ready →
              (u.bar l).feed = (s.bar l).feed ∧ (u.bar l).fallback = (s.bar l).fallback ∧ lost = true)))

/-- R71, R99, R123, R147, R160, R161, R178: STATION RESTART's refusals, and what an accepted one leaves of every block. No other
block is told of the levels that the re-evaluation raises (R161). -/
def Obligations.StationRestart : Prop :=
  ∀ s₀ s : State, s₀.heard .s = s →
    let inside := [Arm.a, .b, .cond].filter fun m => (s.arm m).referenced && (s.arm m).inside
    (2 ≤ inside.length → exec (.stationRestart .s) s₀ = .next (replied .s .stationRestart .stillInside [] s)) ∧
    (inside.length ≤ 1 →
      s.matrix.station = .tripped ∨ (∃ l, (s.lane l).state ≠ .raised) ∨
        s.cond.state ∉ [.parked, .unreferenced, .fault] →
      exec (.stationRestart .s) s₀ = .next (replied .s .stationRestart .busy [] s)) ∧
    (inside.length ≤ 1 → s.matrix.station = .normal → (∀ l, (s.lane l).state = .raised) →
      s.cond.state ∈ [.parked, .unreferenced, .fault] →
      ∃ u, exec (.stationRestart .s) s₀ = .next (replied .s .stationRestart .ok [] u) ∧
        u.map = s.map ∧ u.tracker = s.tracker ∧ u.settings = s.settings ∧ u.resetAsserted = s.resetAsserted ∧
        u.pending = s.pending ∧
        u.hub = { holder := inside.head?, waitList := [], intruders := ⟨false, false, false⟩ } ∧
        (∀ l, u.lane l = { s.lane l with
          channels := (s.lane l).channels.map fun c =>
            { c with command := 0, remainder := 0, drive := 0, devTimer := 0, fault := false } }) ∧
        u.press = { s.press with lanes := u.press.lanes } ∧
        u.slurry.flowsTrue s.settings.slurry ∧
        (∀ l, (u.bar l).feed = none ∧ (u.bar l).fallback = false ∧ (u.bar l).resume = none ∧
          s.rateKept u l) ∧
        (∀ k, State.lineKept (s.modLine k fun y => { y with state := .off, prime := 0, lastPulse := 0 }) u k) ∧
        u.slurry.windowMs = s.slurry.windowMs ∧
        u.cond = { s.cond.enter (if s.cond.state = .parked then .parked else .unreferenced) with
          mode := .off, queue := [], target := none, faultKind := none, dwell := 0, dfCommand := 0, dfDevTimer := 0
          clearNoted := false, spent := decide (s.settings.cond.diskLifeLimit ≤ s.cond.diskLife) } ∧
        u.links.silence = s.links.silence ∧
        (∀ p, u.port p = { s.port p with notices := (u.port p).notices, noteBox := none }) ∧
        (∀ l n, n ∈ (u.port l.port).notices ↔ n = .holdEntered ∧ u.causes l ≠ []) ∧
        (∀ n, n ∈ (u.port .s).notices ↔ n = .holdEntered ∧ ∃ l, u.causes l ≠ []) ∧
        u.events = s.events ∧
        u.matrix.station = .normal ∧ u.matrix.tripCauses = [] ∧ u.matrix.remoteTrip = false ∧
        u.matrix.inputs = s.matrix.inputs ∧
        ∀ l, u.matrix.remoteHold.get l = none ∧ u.matrix.dryCount.get l = 0 ∧
          u.causes l =
            (if s.targetActive l.holdTarget then
              [{ kind := .input, severity := s.settings.matrix.severity.get l, channels := .all false }] else []) ++
            (if s.press.supplyLowActive then
              [{ kind := .supplyLow, severity := .soft, channels := .all false }] else []))

/-- R149, R150: a pin's change, and an input accepted at the end of its debounce time, with the targets that become active.
R154, R155, R177: the dry-revolution counts at a map updated event, and the expiry of a link's silence timer. The model's
choices: DEBOUNCE_EXPIRY and SILENCE_TIMER_EXPIRY act whatever the count of a running timer (log 4), and a running debounce
timer keeps the debounce time it started with (log 21). In a set that was empty, an INPUT entry has the lane's hold severity
and a DRY entry is SOFT (R152). -/
def Obligations.PinsDryAndSilence : Prop :=
  (∀ (i : InputIndex) (level : Bool) (s₀ s : State), s₀.settled = s → s.matrix.inputs.length = 8 →
     let x := s.matrix.input i
     let changed : InterlockInput :=
       { x with pin := level, timer := 0, limit := s.settings.matrix.debounceTime }
     let u := { s with matrix := { s.matrix with inputs := s.matrix.inputs.set i changed } }
     let accepted := fun b t : State =>
       let y := b.matrix.input i
       let v := { b with
         matrix := { b.matrix with inputs := b.matrix.inputs.set i { y with accepted := y.pin, timer := 0 } } }
       v.onlyCaused t ∧ b.onlyFiled t ∧ b.levelsTold t ∧ t = { b with matrix := t.matrix, links := t.links, events := t.events } ∧
       (∀ l : Lane, b.targetActive l.holdTarget = false → v.targetActive l.holdTarget = true →
         (∃ e ∈ t.causes l, e.kind = .input ∧
           (b.settings.matrix.severity.get l = .hard → e.severity = .hard)) ∧ t.holdLevel l ≠ .none) ∧
       (∀ l : Lane, b.targetActive .stationTrip = true ∨ v.targetActive .stationTrip = false →
         (b.targetActive l.holdTarget = true ∨ v.targetActive l.holdTarget = false → t.causes l = b.causes l) ∧
         (b.targetActive l.holdTarget = false → v.targetActive l.holdTarget = true → b.causes l = [] →
           t.causes l =
             [{ kind := .input, severity := b.settings.matrix.severity.get l, channels := .all false }])) ∧
       (b.targetActive .stationTrip = false → v.targetActive .stationTrip = true →
         t.matrix.station = .tripped ∧ .input ∈ t.matrix.tripCauses ∧
           (b.matrix.station = .normal → ∀ l, t.holdLevel l = .hard)) ∧
       (b.targetActive .slurryStop = false → v.targetActive .slurryStop = true → .slurryStop ∈ t.events) ∧
       ((∀ target, v.targetActive target = true → b.targetActive target = true) → t = v)
     (x.pin = level → exec (.interlockPinChange i level) s₀ = .next s) ∧
     (x.pin ≠ level → x.accepted = level ∨ 0 < s.settings.matrix.debounceTime →
       exec (.interlockPinChange i level) s₀ = .next u) ∧
     (x.pin ≠ level → x.accepted ≠ level → s.settings.matrix.debounceTime = 0 →
       ∃ t, exec (.interlockPinChange i level) s₀ = .next t ∧ accepted u t) ∧
     (x.pin = x.accepted → exec (.debounceExpiry i) s₀ = .next s) ∧
     (x.pin ≠ x.accepted → ∃ t, exec (.debounceExpiry i) s₀ = .next t ∧ accepted s t)) ∧
  (∀ (l : Lane) (s : State),
     (∀ (e : MapUpdated) (u : State), s.told Event.isDryCountUpdate (.dryCountUpdate e) u →
       ∃ t, exec .dryCountUpdate s = .next t ∧ t = { u with matrix := t.matrix, links := t.links, events := t.events } ∧
         u.onlyFiled t ∧ u.levelsTold t ∧
         State.onlyCaused { u with matrix := { u.matrix with dryCount := t.matrix.dryCount } } t ∧
         t.matrix = { u.matrix with dryCount := t.matrix.dryCount, causes := t.matrix.causes } ∧
         let count := if e.dry.get l then min 8 (s.matrix.dryCount.get l + 1) else 0
         t.matrix.dryCount.get l = count ∧
         (0 < s.settings.matrix.dryLimit → s.settings.matrix.dryLimit ≤ count →
           (∃ x ∈ t.causes l, x.kind = .dry) ∧ t.holdLevel l ≠ .none ∧
             (s.causes l = [] → t.causes l = [{ kind := .dry, severity := .soft, channels := .all false }])) ∧
         (s.settings.matrix.dryLimit = 0 ∨ count < s.settings.matrix.dryLimit → t.causes l = s.causes l)) ∧
     (∀ s₀ : State, s₀.settled = s →
       ((s.links.silence.get l).silent = true → exec (.silenceTimerExpiry l) s₀ = .next s) ∧
       ((s.links.silence.get l).silent = false →
         ∃ t, exec (.silenceTimerExpiry l) s₀ = .next t ∧
           t.links.silence = s.links.silence.set l
             { timer := s.settings.linkSilence, silent := true, cause := decide ((s.lane l).state ≠ .raised) } ∧
           t = { s with matrix := t.matrix, links := t.links, events := t.events } ∧ s.portsFiled t ∧ s.onlyCaused t ∧
           t.matrix = { s.matrix with causes := s.matrix.causes.set l (t.causes l) } ∧ s.levelsTold t ∧
           ((s.lane l).state = .raised →
             t.matrix = s.matrix ∧ t.events = s.events ∧ ∀ p, t.port p = s.port p) ∧
           ((s.lane l).state ≠ .raised →
             (∃ e ∈ t.causes l, e.kind = .linkSilent ∧ e.severity = .hard) ∧ t.holdLevel l = .hard))))

/-! ### Reset -/

/-- R20, R40, R71, R98, R123, R147, R149, R162, R164, R165, R168, R178, R181: hard reset, and the assertion of the RESET
input. R83, R100, R111, R162, R171: while it is not asserted, the output pins, the attention lines, the transmit pairs, the
regulator duties and the disk motor by the state, which they follow at every moment (read by inference, log 29). The model's
choices: the waiting commands stay (log 1), the pins keep the levels the outside gives them (log 8), and, where no rule gives
a value, the debounce limit of each input is 5 and the readbacks, the supply reading, the period timer and the model's own
fields are as State.reset has them (log 9). -/
def Obligations.Resets : Prop :=
  ∀ s : State,
    (∃ t, exec .hardReset s = .next t ∧ t = { State.reset with matrix := t.matrix, pending := s.pending } ∧
      t.matrix = { State.reset.matrix with inputs := t.matrix.inputs } ∧ t.matrix.inputs.length = 8 ∧
      ∀ i, t.matrix.input i =
        { pin := (s.matrix.input i).pin, accepted := false, timer := 0, limit := 5 }) ∧
    ∃ t, exec .resetAsserted s = .next t ∧
      t = { s with
        resetAsserted := true
        links := { s.links with ports := s.links.ports.map fun k => { k with sending := none } } } ∧
      (∀ o, t.pinLevel o = false) ∧ (∀ p, t.attention p = false ∧ t.transmitting p = none) ∧
      (s.resetAsserted = false →
        let asserted := fun o : Output =>
          match o with
          | .armStop => s.matrix.station = .tripped
          | .slurryShutoff => ∃ i : InputIndex, (s.settings.matrix.masks.get .slurryStop).getLsbD i = true ∧
              xor (s.matrix.input i).accepted (s.settings.matrix.invertMask.getLsbD i) = true
          | .stationReady => s.matrix.station = .normal ∧ s.map.valid = true ∧ s.tracker.state = .tracking
        (∀ o, (s.settings.matrix.polarity.get o = .high → (s.pinLevel o = true ↔ asserted o)) ∧
          (s.settings.matrix.polarity.get o = .low → (s.pinLevel o = false ↔ asserted o))) ∧
        (∀ p, (s.attention p = true ↔ (s.port p).notices ≠ []) ∧ s.transmitting p = (s.port p).sending) ∧
        (∀ l c, s.headDuty l c = ((s.lane l).channels.get c).command * 4095 / 1000) ∧
        s.downforceDuty = s.cond.dfCommand * 4095 / 1000 ∧
        (s.diskMotor = true ↔ s.cond.state ∈
          [.waitHub, .waitClear, .moving, .lowering, .dwelling, .sweeping, .lifting, .returning]))

/-! ### Laws that every step keeps -/

/-- The machine right after hard reset obeys every law. Where no rule gives a value at reset, it is the model's choice of
log 9. -/
def Obligations.ResetIsLawful : Prop := State.reset.lawful

/-- R59, R63, R66, R68: the arbiter's limits; and an arm inside the hub holds it, or is an intruder in a TRIPPED station, or
its entry has still to be taken. -/
def Obligations.HubStaysLawfulAndGuarded : Prop :=
  (∀ s t : State, s.hub.lawful → step s = .next t → t.hub.lawful) ∧
    ∀ s t : State, s.hubGuarded → step s = .next t → t.hubGuarded

/-- R82, R85, R95: no pressure target, drive target or command exceeds its channel's limit, and a RAISED lane presses nowhere.
R128, R133, R137 to R139: every bar feeds from a READY line or from none, every flow is as the rules derive it, and the served
flows of one line sum to no more than its max flow. R130: while a line's duty is 0 its last-pulse timer is held at 0. -/
def Obligations.PressureAndSlurryStayLawful : Prop :=
  (∀ s t : State, s.pressLawful → step s = .next t → t.pressLawful) ∧
    (∀ s t : State, s.slurryLawful → step s = .next t → t.slurryLawful) ∧
    ∀ s t : State, s.slurry.timersHeld → step s = .next t → t.slurry.timersHeld

/-- R100, R111: what is present only in one conditioner state is present exactly there, and the downforce command lies within
its limit. R104: the conditioning queue's properties, while the settings are lawful. -/
def Obligations.ConditionerAndQueueStayLawful : Prop :=
  (∀ s t : State, s.cond.lawful s.settings.cond.downforceLimit → step s = .next t →
    t.cond.lawful t.settings.cond.downforceLimit) ∧
  ∀ s t : State, s.settings.lawful → s.cond.queueLawful s.settings.map.condStop → step s = .next t →
    t.cond.queueLawful t.settings.map.condStop

/-- R152, R157, R158: one cause entry a kind, TRIP at HARD in both sets while TRIPPED, and trip causes exactly while
TRIPPED. -/
def Obligations.MatrixStaysLawful : Prop := ∀ s t : State, s.matrix.lawful → step s = .next t → t.matrix.lawful

/-- R1, R3, R19: the band records keep to their ranges, while the settings are lawful. R21, R22, R28 to R31, R34: the ranges of
the tracker's state. -/
def Obligations.MapAndTrackerStayLawful : Prop :=
  (∀ s t : State, s.settings.lawful → s.map.lawful → step s = .next t → t.map.lawful) ∧
    ∀ s t : State, s.tracker.lawful → step s = .next t → t.tracker.lawful

/-- R167, R171, R173: no notice is in a set twice, a note of 1 to 16 bytes lies only in another port's box, and a request waits
only behind one in process. -/
def Obligations.LinksStayLawful : Prop := ∀ s t : State, s.linksLawful → step s = .next t → t.linksLawful

/-- R180: every setting stays in its range and every constraint between settings holds. -/
def Obligations.SettingsStayLawful : Prop := ∀ s t : State, s.settings.lawful → step s = .next t → t.settings.lawful

/-- R153: a lane's hold level never falls in a step, a step with no command waiting among them, unless the step takes a RESUME
or a STATION RESTART, as a row, in a frame or from a slot, or is a hard reset. -/
def Obligations.HoldLevelNeverFalls : Prop :=
  ∀ (l : Lane) (s t : State), ¬ s.takes .resume → ¬ s.takes .stationRestart → s.pending.head? ≠ some .hardReset →
    step s = .next t → (s.holdLevel l).rank ≤ (t.holdLevel l).rank

/-- R1: a band's height loss never decreases in a step, a step with no command waiting among them, unless the step takes a PAD
RESET or a MAP RESTORE, as a row, in a frame or from a slot, or is a hard reset. -/
def Obligations.HeightLossNeverFalls : Prop :=
  ∀ (k : Nat) (s t : State), s.map.lawful → k < 20 → ¬ s.takes .padReset → ¬ s.takes .mapRestore →
    s.pending.head? ≠ some .hardReset → step s = .next t → (s.map.band k).height ≤ (t.map.band k).height
end

