-- ==== Sys2Proof/Laws/State.lean ====
section
/-!
SUPPORT. The small lemmas of the plain records and of the updates of State: what each field is after each update, true by
`rfl`, and what is read back from a record of one thing per lane, port, arm, line, channel or outlet.
-/

namespace Sys2Proof

/-! ### Records of one thing per index -/

@[simp] theorem Lanes.get_set_self {α : Type} (x : Lanes α) (i : Lane) (v : α) : (x.set i v).get i = v := by cases i <;> rfl
theorem Lanes.get_set_ne {α : Type} (x : Lanes α) (i j : Lane) (v : α) (h : j ≠ i) : (x.set i v).get j = x.get j := by
  cases i <;> cases j <;> first | rfl | exact absurd rfl h
theorem Lanes.get_set {α : Type} (x : Lanes α) (i j : Lane) (v : α) :
    (x.set i v).get j = if j = i then v else x.get j := by cases i <;> cases j <;> rfl
@[simp] theorem Lanes.set_get_self {α : Type} (x : Lanes α) (i : Lane) : x.set i (x.get i) = x := by cases i <;> rfl
@[simp] theorem Lanes.set_set {α : Type} (x : Lanes α) (i : Lane) (v w : α) : (x.set i v).set i w = x.set i w := by
  cases i <;> rfl
@[simp] theorem Lanes.get_all {α : Type} (v : α) (i : Lane) : (Lanes.all v).get i = v := by cases i <;> rfl
theorem Lanes.ext_get {α : Type} {x y : Lanes α} (h : ∀ i, x.get i = y.get i) : x = y := by
  cases x; cases y; have h0 := h .a ; have h1 := h .b
  simp only [Lanes.get] at h0 h1; subst_vars; rfl
@[simp] theorem Lanes.get_map {α β : Type} (f : α → β) (x : Lanes α) (i : Lane) : (x.map f).get i = f (x.get i) := by
  cases i <;> rfl

@[simp] theorem Ports.get_set_self {α : Type} (x : Ports α) (i : Port) (v : α) : (x.set i v).get i = v := by cases i <;> rfl
theorem Ports.get_set_ne {α : Type} (x : Ports α) (i j : Port) (v : α) (h : j ≠ i) : (x.set i v).get j = x.get j := by
  cases i <;> cases j <;> first | rfl | exact absurd rfl h
theorem Ports.get_set {α : Type} (x : Ports α) (i j : Port) (v : α) :
    (x.set i v).get j = if j = i then v else x.get j := by cases i <;> cases j <;> rfl
@[simp] theorem Ports.set_get_self {α : Type} (x : Ports α) (i : Port) : x.set i (x.get i) = x := by cases i <;> rfl
@[simp] theorem Ports.set_set {α : Type} (x : Ports α) (i : Port) (v w : α) : (x.set i v).set i w = x.set i w := by
  cases i <;> rfl
@[simp] theorem Ports.get_all {α : Type} (v : α) (i : Port) : (Ports.all v).get i = v := by cases i <;> rfl
theorem Ports.ext_get {α : Type} {x y : Ports α} (h : ∀ i, x.get i = y.get i) : x = y := by
  cases x; cases y; have h0 := h .s ; have h1 := h .a ; have h2 := h .b
  simp only [Ports.get] at h0 h1 h2; subst_vars; rfl
@[simp] theorem Ports.get_map {α β : Type} (f : α → β) (x : Ports α) (i : Port) : (x.map f).get i = f (x.get i) := by
  cases i <;> rfl

@[simp] theorem Arms.get_set_self {α : Type} (x : Arms α) (i : Arm) (v : α) : (x.set i v).get i = v := by cases i <;> rfl
theorem Arms.get_set_ne {α : Type} (x : Arms α) (i j : Arm) (v : α) (h : j ≠ i) : (x.set i v).get j = x.get j := by
  cases i <;> cases j <;> first | rfl | exact absurd rfl h
theorem Arms.get_set {α : Type} (x : Arms α) (i j : Arm) (v : α) :
    (x.set i v).get j = if j = i then v else x.get j := by cases i <;> cases j <;> rfl
@[simp] theorem Arms.set_get_self {α : Type} (x : Arms α) (i : Arm) : x.set i (x.get i) = x := by cases i <;> rfl
@[simp] theorem Arms.set_set {α : Type} (x : Arms α) (i : Arm) (v w : α) : (x.set i v).set i w = x.set i w := by
  cases i <;> rfl
@[simp] theorem Arms.get_all {α : Type} (v : α) (i : Arm) : (Arms.all v).get i = v := by cases i <;> rfl
theorem Arms.ext_get {α : Type} {x y : Arms α} (h : ∀ i, x.get i = y.get i) : x = y := by
  cases x; cases y; have h0 := h .a ; have h1 := h .b ; have h2 := h .cond
  simp only [Arms.get] at h0 h1 h2; subst_vars; rfl

@[simp] theorem Lines.get_set_self {α : Type} (x : Lines α) (i : Line) (v : α) : (x.set i v).get i = v := by cases i <;> rfl
theorem Lines.get_set_ne {α : Type} (x : Lines α) (i j : Line) (v : α) (h : j ≠ i) : (x.set i v).get j = x.get j := by
  cases i <;> cases j <;> first | rfl | exact absurd rfl h
theorem Lines.get_set {α : Type} (x : Lines α) (i j : Line) (v : α) :
    (x.set i v).get j = if j = i then v else x.get j := by cases i <;> cases j <;> rfl
@[simp] theorem Lines.set_get_self {α : Type} (x : Lines α) (i : Line) : x.set i (x.get i) = x := by cases i <;> rfl
@[simp] theorem Lines.set_set {α : Type} (x : Lines α) (i : Line) (v w : α) : (x.set i v).set i w = x.set i w := by
  cases i <;> rfl
@[simp] theorem Lines.get_all {α : Type} (v : α) (i : Line) : (Lines.all v).get i = v := by cases i <;> rfl
theorem Lines.ext_get {α : Type} {x y : Lines α} (h : ∀ i, x.get i = y.get i) : x = y := by
  cases x; cases y; have h0 := h .l1 ; have h1 := h .l2 ; have h2 := h .l3
  simp only [Lines.get] at h0 h1 h2; subst_vars; rfl
@[simp] theorem Lines.get_map {α β : Type} (f : α → β) (x : Lines α) (i : Line) : (x.map f).get i = f (x.get i) := by
  cases i <;> rfl

@[simp] theorem Six.get_set_self {α : Type} (x : Six α) (i : Chan) (v : α) : (x.set i v).get i = v := by cases i <;> rfl
theorem Six.get_set_ne {α : Type} (x : Six α) (i j : Chan) (v : α) (h : j ≠ i) : (x.set i v).get j = x.get j := by
  cases i <;> cases j <;> first | rfl | exact absurd rfl h
theorem Six.get_set {α : Type} (x : Six α) (i j : Chan) (v : α) :
    (x.set i v).get j = if j = i then v else x.get j := by cases i <;> cases j <;> rfl
@[simp] theorem Six.set_get_self {α : Type} (x : Six α) (i : Chan) : x.set i (x.get i) = x := by cases i <;> rfl
@[simp] theorem Six.set_set {α : Type} (x : Six α) (i : Chan) (v w : α) : (x.set i v).set i w = x.set i w := by
  cases i <;> rfl
@[simp] theorem Six.get_all {α : Type} (v : α) (i : Chan) : (Six.all v).get i = v := by cases i <;> rfl
theorem Six.ext_get {α : Type} {x y : Six α} (h : ∀ i, x.get i = y.get i) : x = y := by
  cases x; cases y; have h0 := h .z1 ; have h1 := h .z2 ; have h2 := h .z3 ; have h3 := h .z4 ; have h4 := h .z5 ; have h5 := h .ring
  simp only [Six.get] at h0 h1 h2 h3 h4 h5; subst_vars; rfl
@[simp] theorem Six.get_map {α β : Type} (f : α → β) (x : Six α) (i : Chan) : (x.map f).get i = f (x.get i) := by
  cases i <;> rfl
@[simp] theorem Six.get_zip {α β γ : Type} (f : α → β → γ) (x : Six α) (y : Six β) (i : Chan) :
    (x.zip f y).get i = f (x.get i) (y.get i) := by cases i <;> rfl

@[simp] theorem Three.get_set_self {α : Type} (x : Three α) (i : Outlet) (v : α) : (x.set i v).get i = v := by cases i <;> rfl
theorem Three.get_set_ne {α : Type} (x : Three α) (i j : Outlet) (v : α) (h : j ≠ i) : (x.set i v).get j = x.get j := by
  cases i <;> cases j <;> first | rfl | exact absurd rfl h
theorem Three.get_set {α : Type} (x : Three α) (i j : Outlet) (v : α) :
    (x.set i v).get j = if j = i then v else x.get j := by cases i <;> cases j <;> rfl
@[simp] theorem Three.set_get_self {α : Type} (x : Three α) (i : Outlet) : x.set i (x.get i) = x := by cases i <;> rfl
@[simp] theorem Three.set_set {α : Type} (x : Three α) (i : Outlet) (v w : α) : (x.set i v).set i w = x.set i w := by
  cases i <;> rfl
@[simp] theorem Three.get_all {α : Type} (v : α) (i : Outlet) : (Three.all v).get i = v := by cases i <;> rfl
theorem Three.ext_get {α : Type} {x y : Three α} (h : ∀ i, x.get i = y.get i) : x = y := by
  cases x; cases y; have h0 := h .inner ; have h1 := h .middle ; have h2 := h .outer
  simp only [Three.get] at h0 h1 h2; subst_vars; rfl
@[simp] theorem Three.get_map {α β : Type} (f : α → β) (x : Three α) (i : Outlet) : (x.map f).get i = f (x.get i) := by
  cases i <;> rfl
@[simp] theorem Three.get_zip {α β γ : Type} (f : α → β → γ) (x : Three α) (y : Three β) (i : Outlet) :
    (x.zip f y).get i = f (x.get i) (y.get i) := by cases i <;> rfl

@[simp] theorem Targets.get_set_self {α : Type} (x : Targets α) (i : Target) (v : α) : (x.set i v).get i = v := by cases i <;> rfl
theorem Targets.get_set_ne {α : Type} (x : Targets α) (i j : Target) (v : α) (h : j ≠ i) : (x.set i v).get j = x.get j := by
  cases i <;> cases j <;> first | rfl | exact absurd rfl h
theorem Targets.get_set {α : Type} (x : Targets α) (i j : Target) (v : α) :
    (x.set i v).get j = if j = i then v else x.get j := by cases i <;> cases j <;> rfl
@[simp] theorem Targets.set_get_self {α : Type} (x : Targets α) (i : Target) : x.set i (x.get i) = x := by cases i <;> rfl
@[simp] theorem Targets.set_set {α : Type} (x : Targets α) (i : Target) (v w : α) : (x.set i v).set i w = x.set i w := by
  cases i <;> rfl
@[simp] theorem Targets.get_all {α : Type} (v : α) (i : Target) : (Targets.all v).get i = v := by cases i <;> rfl
theorem Targets.ext_get {α : Type} {x y : Targets α} (h : ∀ i, x.get i = y.get i) : x = y := by
  cases x; cases y; have h0 := h .holdA ; have h1 := h .holdB ; have h2 := h .stationTrip ; have h3 := h .slurryStop
  simp only [Targets.get] at h0 h1 h2 h3; subst_vars; rfl

@[simp] theorem Outputs.get_set_self {α : Type} (x : Outputs α) (i : Output) (v : α) : (x.set i v).get i = v := by cases i <;> rfl
theorem Outputs.get_set_ne {α : Type} (x : Outputs α) (i j : Output) (v : α) (h : j ≠ i) : (x.set i v).get j = x.get j := by
  cases i <;> cases j <;> first | rfl | exact absurd rfl h
theorem Outputs.get_set {α : Type} (x : Outputs α) (i j : Output) (v : α) :
    (x.set i v).get j = if j = i then v else x.get j := by cases i <;> cases j <;> rfl
@[simp] theorem Outputs.set_get_self {α : Type} (x : Outputs α) (i : Output) : x.set i (x.get i) = x := by cases i <;> rfl
@[simp] theorem Outputs.set_set {α : Type} (x : Outputs α) (i : Output) (v w : α) : (x.set i v).set i w = x.set i w := by
  cases i <;> rfl
@[simp] theorem Outputs.get_all {α : Type} (v : α) (i : Output) : (Outputs.all v).get i = v := by cases i <;> rfl
theorem Outputs.ext_get {α : Type} {x y : Outputs α} (h : ∀ i, x.get i = y.get i) : x = y := by
  cases x; cases y; have h0 := h .armStop ; have h1 := h .slurryShutoff ; have h2 := h .stationReady
  simp only [Outputs.get] at h0 h1 h2; subst_vars; rfl

end Sys2Proof

namespace Sys2Proof.Machine
open Sys2Proof

/-! ### Replacing one block -/

@[simp] theorem State.modMap_map (f : PadMap → PadMap) (s : State) : (s.modMap f).map = f s.map := rfl
@[simp] theorem State.modMap_tracker (f : PadMap → PadMap) (s : State) : (s.modMap f).tracker = s.tracker := rfl
@[simp] theorem State.modMap_hub (f : PadMap → PadMap) (s : State) : (s.modMap f).hub = s.hub := rfl
@[simp] theorem State.modMap_press (f : PadMap → PadMap) (s : State) : (s.modMap f).press = s.press := rfl
@[simp] theorem State.modMap_cond (f : PadMap → PadMap) (s : State) : (s.modMap f).cond = s.cond := rfl
@[simp] theorem State.modMap_slurry (f : PadMap → PadMap) (s : State) : (s.modMap f).slurry = s.slurry := rfl
@[simp] theorem State.modMap_matrix (f : PadMap → PadMap) (s : State) : (s.modMap f).matrix = s.matrix := rfl
@[simp] theorem State.modMap_links (f : PadMap → PadMap) (s : State) : (s.modMap f).links = s.links := rfl
@[simp] theorem State.modMap_settings (f : PadMap → PadMap) (s : State) : (s.modMap f).settings = s.settings := rfl
@[simp] theorem State.modMap_events (f : PadMap → PadMap) (s : State) : (s.modMap f).events = s.events := rfl
@[simp] theorem State.modMap_resetAsserted (f : PadMap → PadMap) (s : State) : (s.modMap f).resetAsserted = s.resetAsserted := rfl
@[simp] theorem State.modMap_pending (f : PadMap → PadMap) (s : State) : (s.modMap f).pending = s.pending := rfl

@[simp] theorem State.modTracker_map (f : Tracker → Tracker) (s : State) : (s.modTracker f).map = s.map := rfl
@[simp] theorem State.modTracker_tracker (f : Tracker → Tracker) (s : State) : (s.modTracker f).tracker = f s.tracker := rfl
@[simp] theorem State.modTracker_hub (f : Tracker → Tracker) (s : State) : (s.modTracker f).hub = s.hub := rfl
@[simp] theorem State.modTracker_press (f : Tracker → Tracker) (s : State) : (s.modTracker f).press = s.press := rfl
@[simp] theorem State.modTracker_cond (f : Tracker → Tracker) (s : State) : (s.modTracker f).cond = s.cond := rfl
@[simp] theorem State.modTracker_slurry (f : Tracker → Tracker) (s : State) : (s.modTracker f).slurry = s.slurry := rfl
@[simp] theorem State.modTracker_matrix (f : Tracker → Tracker) (s : State) : (s.modTracker f).matrix = s.matrix := rfl
@[simp] theorem State.modTracker_links (f : Tracker → Tracker) (s : State) : (s.modTracker f).links = s.links := rfl
@[simp] theorem State.modTracker_settings (f : Tracker → Tracker) (s : State) : (s.modTracker f).settings = s.settings := rfl
@[simp] theorem State.modTracker_events (f : Tracker → Tracker) (s : State) : (s.modTracker f).events = s.events := rfl
@[simp] theorem State.modTracker_resetAsserted (f : Tracker → Tracker) (s : State) : (s.modTracker f).resetAsserted = s.resetAsserted := rfl
@[simp] theorem State.modTracker_pending (f : Tracker → Tracker) (s : State) : (s.modTracker f).pending = s.pending := rfl

@[simp] theorem State.modHub_map (f : Hub → Hub) (s : State) : (s.modHub f).map = s.map := rfl
@[simp] theorem State.modHub_tracker (f : Hub → Hub) (s : State) : (s.modHub f).tracker = s.tracker := rfl
@[simp] theorem State.modHub_hub (f : Hub → Hub) (s : State) : (s.modHub f).hub = f s.hub := rfl
@[simp] theorem State.modHub_press (f : Hub → Hub) (s : State) : (s.modHub f).press = s.press := rfl
@[simp] theorem State.modHub_cond (f : Hub → Hub) (s : State) : (s.modHub f).cond = s.cond := rfl
@[simp] theorem State.modHub_slurry (f : Hub → Hub) (s : State) : (s.modHub f).slurry = s.slurry := rfl
@[simp] theorem State.modHub_matrix (f : Hub → Hub) (s : State) : (s.modHub f).matrix = s.matrix := rfl
@[simp] theorem State.modHub_links (f : Hub → Hub) (s : State) : (s.modHub f).links = s.links := rfl
@[simp] theorem State.modHub_settings (f : Hub → Hub) (s : State) : (s.modHub f).settings = s.settings := rfl
@[simp] theorem State.modHub_events (f : Hub → Hub) (s : State) : (s.modHub f).events = s.events := rfl
@[simp] theorem State.modHub_resetAsserted (f : Hub → Hub) (s : State) : (s.modHub f).resetAsserted = s.resetAsserted := rfl
@[simp] theorem State.modHub_pending (f : Hub → Hub) (s : State) : (s.modHub f).pending = s.pending := rfl

@[simp] theorem State.modPress_map (f : Pressure → Pressure) (s : State) : (s.modPress f).map = s.map := rfl
@[simp] theorem State.modPress_tracker (f : Pressure → Pressure) (s : State) : (s.modPress f).tracker = s.tracker := rfl
@[simp] theorem State.modPress_hub (f : Pressure → Pressure) (s : State) : (s.modPress f).hub = s.hub := rfl
@[simp] theorem State.modPress_press (f : Pressure → Pressure) (s : State) : (s.modPress f).press = f s.press := rfl
@[simp] theorem State.modPress_cond (f : Pressure → Pressure) (s : State) : (s.modPress f).cond = s.cond := rfl
@[simp] theorem State.modPress_slurry (f : Pressure → Pressure) (s : State) : (s.modPress f).slurry = s.slurry := rfl
@[simp] theorem State.modPress_matrix (f : Pressure → Pressure) (s : State) : (s.modPress f).matrix = s.matrix := rfl
@[simp] theorem State.modPress_links (f : Pressure → Pressure) (s : State) : (s.modPress f).links = s.links := rfl
@[simp] theorem State.modPress_settings (f : Pressure → Pressure) (s : State) : (s.modPress f).settings = s.settings := rfl
@[simp] theorem State.modPress_events (f : Pressure → Pressure) (s : State) : (s.modPress f).events = s.events := rfl
@[simp] theorem State.modPress_resetAsserted (f : Pressure → Pressure) (s : State) : (s.modPress f).resetAsserted = s.resetAsserted := rfl
@[simp] theorem State.modPress_pending (f : Pressure → Pressure) (s : State) : (s.modPress f).pending = s.pending := rfl

@[simp] theorem State.modCond_map (f : Conditioner → Conditioner) (s : State) : (s.modCond f).map = s.map := rfl
@[simp] theorem State.modCond_tracker (f : Conditioner → Conditioner) (s : State) : (s.modCond f).tracker = s.tracker := rfl
@[simp] theorem State.modCond_hub (f : Conditioner → Conditioner) (s : State) : (s.modCond f).hub = s.hub := rfl
@[simp] theorem State.modCond_press (f : Conditioner → Conditioner) (s : State) : (s.modCond f).press = s.press := rfl
@[simp] theorem State.modCond_cond (f : Conditioner → Conditioner) (s : State) : (s.modCond f).cond = f s.cond := rfl
@[simp] theorem State.modCond_slurry (f : Conditioner → Conditioner) (s : State) : (s.modCond f).slurry = s.slurry := rfl
@[simp] theorem State.modCond_matrix (f : Conditioner → Conditioner) (s : State) : (s.modCond f).matrix = s.matrix := rfl
@[simp] theorem State.modCond_links (f : Conditioner → Conditioner) (s : State) : (s.modCond f).links = s.links := rfl
@[simp] theorem State.modCond_settings (f : Conditioner → Conditioner) (s : State) : (s.modCond f).settings = s.settings := rfl
@[simp] theorem State.modCond_events (f : Conditioner → Conditioner) (s : State) : (s.modCond f).events = s.events := rfl
@[simp] theorem State.modCond_resetAsserted (f : Conditioner → Conditioner) (s : State) : (s.modCond f).resetAsserted = s.resetAsserted := rfl
@[simp] theorem State.modCond_pending (f : Conditioner → Conditioner) (s : State) : (s.modCond f).pending = s.pending := rfl

@[simp] theorem State.modSlurry_map (f : Slurry → Slurry) (s : State) : (s.modSlurry f).map = s.map := rfl
@[simp] theorem State.modSlurry_tracker (f : Slurry → Slurry) (s : State) : (s.modSlurry f).tracker = s.tracker := rfl
@[simp] theorem State.modSlurry_hub (f : Slurry → Slurry) (s : State) : (s.modSlurry f).hub = s.hub := rfl
@[simp] theorem State.modSlurry_press (f : Slurry → Slurry) (s : State) : (s.modSlurry f).press = s.press := rfl
@[simp] theorem State.modSlurry_cond (f : Slurry → Slurry) (s : State) : (s.modSlurry f).cond = s.cond := rfl
@[simp] theorem State.modSlurry_slurry (f : Slurry → Slurry) (s : State) : (s.modSlurry f).slurry = f s.slurry := rfl
@[simp] theorem State.modSlurry_matrix (f : Slurry → Slurry) (s : State) : (s.modSlurry f).matrix = s.matrix := rfl
@[simp] theorem State.modSlurry_links (f : Slurry → Slurry) (s : State) : (s.modSlurry f).links = s.links := rfl
@[simp] theorem State.modSlurry_settings (f : Slurry → Slurry) (s : State) : (s.modSlurry f).settings = s.settings := rfl
@[simp] theorem State.modSlurry_events (f : Slurry → Slurry) (s : State) : (s.modSlurry f).events = s.events := rfl
@[simp] theorem State.modSlurry_resetAsserted (f : Slurry → Slurry) (s : State) : (s.modSlurry f).resetAsserted = s.resetAsserted := rfl
@[simp] theorem State.modSlurry_pending (f : Slurry → Slurry) (s : State) : (s.modSlurry f).pending = s.pending := rfl

@[simp] theorem State.modMatrix_map (f : Matrix → Matrix) (s : State) : (s.modMatrix f).map = s.map := rfl
@[simp] theorem State.modMatrix_tracker (f : Matrix → Matrix) (s : State) : (s.modMatrix f).tracker = s.tracker := rfl
@[simp] theorem State.modMatrix_hub (f : Matrix → Matrix) (s : State) : (s.modMatrix f).hub = s.hub := rfl
@[simp] theorem State.modMatrix_press (f : Matrix → Matrix) (s : State) : (s.modMatrix f).press = s.press := rfl
@[simp] theorem State.modMatrix_cond (f : Matrix → Matrix) (s : State) : (s.modMatrix f).cond = s.cond := rfl
@[simp] theorem State.modMatrix_slurry (f : Matrix → Matrix) (s : State) : (s.modMatrix f).slurry = s.slurry := rfl
@[simp] theorem State.modMatrix_matrix (f : Matrix → Matrix) (s : State) : (s.modMatrix f).matrix = f s.matrix := rfl
@[simp] theorem State.modMatrix_links (f : Matrix → Matrix) (s : State) : (s.modMatrix f).links = s.links := rfl
@[simp] theorem State.modMatrix_settings (f : Matrix → Matrix) (s : State) : (s.modMatrix f).settings = s.settings := rfl
@[simp] theorem State.modMatrix_events (f : Matrix → Matrix) (s : State) : (s.modMatrix f).events = s.events := rfl
@[simp] theorem State.modMatrix_resetAsserted (f : Matrix → Matrix) (s : State) : (s.modMatrix f).resetAsserted = s.resetAsserted := rfl
@[simp] theorem State.modMatrix_pending (f : Matrix → Matrix) (s : State) : (s.modMatrix f).pending = s.pending := rfl

@[simp] theorem State.modLinks_map (f : Links → Links) (s : State) : (s.modLinks f).map = s.map := rfl
@[simp] theorem State.modLinks_tracker (f : Links → Links) (s : State) : (s.modLinks f).tracker = s.tracker := rfl
@[simp] theorem State.modLinks_hub (f : Links → Links) (s : State) : (s.modLinks f).hub = s.hub := rfl
@[simp] theorem State.modLinks_press (f : Links → Links) (s : State) : (s.modLinks f).press = s.press := rfl
@[simp] theorem State.modLinks_cond (f : Links → Links) (s : State) : (s.modLinks f).cond = s.cond := rfl
@[simp] theorem State.modLinks_slurry (f : Links → Links) (s : State) : (s.modLinks f).slurry = s.slurry := rfl
@[simp] theorem State.modLinks_matrix (f : Links → Links) (s : State) : (s.modLinks f).matrix = s.matrix := rfl
@[simp] theorem State.modLinks_links (f : Links → Links) (s : State) : (s.modLinks f).links = f s.links := rfl
@[simp] theorem State.modLinks_settings (f : Links → Links) (s : State) : (s.modLinks f).settings = s.settings := rfl
@[simp] theorem State.modLinks_events (f : Links → Links) (s : State) : (s.modLinks f).events = s.events := rfl
@[simp] theorem State.modLinks_resetAsserted (f : Links → Links) (s : State) : (s.modLinks f).resetAsserted = s.resetAsserted := rfl
@[simp] theorem State.modLinks_pending (f : Links → Links) (s : State) : (s.modLinks f).pending = s.pending := rfl

@[simp] theorem State.modSettings_map (f : Settings → Settings) (s : State) : (s.modSettings f).map = s.map := rfl
@[simp] theorem State.modSettings_tracker (f : Settings → Settings) (s : State) : (s.modSettings f).tracker = s.tracker := rfl
@[simp] theorem State.modSettings_hub (f : Settings → Settings) (s : State) : (s.modSettings f).hub = s.hub := rfl
@[simp] theorem State.modSettings_press (f : Settings → Settings) (s : State) : (s.modSettings f).press = s.press := rfl
@[simp] theorem State.modSettings_cond (f : Settings → Settings) (s : State) : (s.modSettings f).cond = s.cond := rfl
@[simp] theorem State.modSettings_slurry (f : Settings → Settings) (s : State) : (s.modSettings f).slurry = s.slurry := rfl
@[simp] theorem State.modSettings_matrix (f : Settings → Settings) (s : State) : (s.modSettings f).matrix = s.matrix := rfl
@[simp] theorem State.modSettings_links (f : Settings → Settings) (s : State) : (s.modSettings f).links = s.links := rfl
@[simp] theorem State.modSettings_settings (f : Settings → Settings) (s : State) : (s.modSettings f).settings = f s.settings := rfl
@[simp] theorem State.modSettings_events (f : Settings → Settings) (s : State) : (s.modSettings f).events = s.events := rfl
@[simp] theorem State.modSettings_resetAsserted (f : Settings → Settings) (s : State) : (s.modSettings f).resetAsserted = s.resetAsserted := rfl
@[simp] theorem State.modSettings_pending (f : Settings → Settings) (s : State) : (s.modSettings f).pending = s.pending := rfl

@[simp] theorem State.modEvents_map (f : List Event → List Event) (s : State) : (s.modEvents f).map = s.map := rfl
@[simp] theorem State.modEvents_tracker (f : List Event → List Event) (s : State) : (s.modEvents f).tracker = s.tracker := rfl
@[simp] theorem State.modEvents_hub (f : List Event → List Event) (s : State) : (s.modEvents f).hub = s.hub := rfl
@[simp] theorem State.modEvents_press (f : List Event → List Event) (s : State) : (s.modEvents f).press = s.press := rfl
@[simp] theorem State.modEvents_cond (f : List Event → List Event) (s : State) : (s.modEvents f).cond = s.cond := rfl
@[simp] theorem State.modEvents_slurry (f : List Event → List Event) (s : State) : (s.modEvents f).slurry = s.slurry := rfl
@[simp] theorem State.modEvents_matrix (f : List Event → List Event) (s : State) : (s.modEvents f).matrix = s.matrix := rfl
@[simp] theorem State.modEvents_links (f : List Event → List Event) (s : State) : (s.modEvents f).links = s.links := rfl
@[simp] theorem State.modEvents_settings (f : List Event → List Event) (s : State) : (s.modEvents f).settings = s.settings := rfl
@[simp] theorem State.modEvents_events (f : List Event → List Event) (s : State) : (s.modEvents f).events = f s.events := rfl
@[simp] theorem State.modEvents_resetAsserted (f : List Event → List Event) (s : State) : (s.modEvents f).resetAsserted = s.resetAsserted := rfl
@[simp] theorem State.modEvents_pending (f : List Event → List Event) (s : State) : (s.modEvents f).pending = s.pending := rfl

/-! ### Replacing one lane, bar, line, arm or port -/

@[simp] theorem State.modLane_map (l : Lane) (f : LanePressure → LanePressure) (s : State) : (s.modLane l f).map = s.map := rfl
@[simp] theorem State.modLane_tracker (l : Lane) (f : LanePressure → LanePressure) (s : State) : (s.modLane l f).tracker = s.tracker := rfl
@[simp] theorem State.modLane_hub (l : Lane) (f : LanePressure → LanePressure) (s : State) : (s.modLane l f).hub = s.hub := rfl
@[simp] theorem State.modLane_cond (l : Lane) (f : LanePressure → LanePressure) (s : State) : (s.modLane l f).cond = s.cond := rfl
@[simp] theorem State.modLane_slurry (l : Lane) (f : LanePressure → LanePressure) (s : State) : (s.modLane l f).slurry = s.slurry := rfl
@[simp] theorem State.modLane_matrix (l : Lane) (f : LanePressure → LanePressure) (s : State) : (s.modLane l f).matrix = s.matrix := rfl
@[simp] theorem State.modLane_links (l : Lane) (f : LanePressure → LanePressure) (s : State) : (s.modLane l f).links = s.links := rfl
@[simp] theorem State.modLane_settings (l : Lane) (f : LanePressure → LanePressure) (s : State) : (s.modLane l f).settings = s.settings := rfl
@[simp] theorem State.modLane_events (l : Lane) (f : LanePressure → LanePressure) (s : State) : (s.modLane l f).events = s.events := rfl
@[simp] theorem State.modLane_resetAsserted (l : Lane) (f : LanePressure → LanePressure) (s : State) : (s.modLane l f).resetAsserted = s.resetAsserted := rfl
@[simp] theorem State.modLane_pending (l : Lane) (f : LanePressure → LanePressure) (s : State) : (s.modLane l f).pending = s.pending := rfl
theorem State.modLane_lane (l j : Lane) (f : LanePressure → LanePressure) (s : State) :
    (s.modLane l f).lane j = if j = l then f (s.lane l) else s.lane j := by cases l <;> cases j <;> rfl
@[simp] theorem State.modLane_lane_self (l : Lane) (f : LanePressure → LanePressure) (s : State) : (s.modLane l f).lane l = f (s.lane l) := by
  cases l <;> rfl
@[simp] theorem State.modBar_map (l : Lane) (f : Bar → Bar) (s : State) : (s.modBar l f).map = s.map := rfl
@[simp] theorem State.modBar_tracker (l : Lane) (f : Bar → Bar) (s : State) : (s.modBar l f).tracker = s.tracker := rfl
@[simp] theorem State.modBar_hub (l : Lane) (f : Bar → Bar) (s : State) : (s.modBar l f).hub = s.hub := rfl
@[simp] theorem State.modBar_press (l : Lane) (f : Bar → Bar) (s : State) : (s.modBar l f).press = s.press := rfl
@[simp] theorem State.modBar_cond (l : Lane) (f : Bar → Bar) (s : State) : (s.modBar l f).cond = s.cond := rfl
@[simp] theorem State.modBar_matrix (l : Lane) (f : Bar → Bar) (s : State) : (s.modBar l f).matrix = s.matrix := rfl
@[simp] theorem State.modBar_links (l : Lane) (f : Bar → Bar) (s : State) : (s.modBar l f).links = s.links := rfl
@[simp] theorem State.modBar_settings (l : Lane) (f : Bar → Bar) (s : State) : (s.modBar l f).settings = s.settings := rfl
@[simp] theorem State.modBar_events (l : Lane) (f : Bar → Bar) (s : State) : (s.modBar l f).events = s.events := rfl
@[simp] theorem State.modBar_resetAsserted (l : Lane) (f : Bar → Bar) (s : State) : (s.modBar l f).resetAsserted = s.resetAsserted := rfl
@[simp] theorem State.modBar_pending (l : Lane) (f : Bar → Bar) (s : State) : (s.modBar l f).pending = s.pending := rfl
theorem State.modBar_bar (l j : Lane) (f : Bar → Bar) (s : State) :
    (s.modBar l f).bar j = if j = l then f (s.bar l) else s.bar j := by cases l <;> cases j <;> rfl
@[simp] theorem State.modBar_bar_self (l : Lane) (f : Bar → Bar) (s : State) : (s.modBar l f).bar l = f (s.bar l) := by
  cases l <;> rfl
@[simp] theorem State.modLine_map (k : Line) (f : SupplyLine → SupplyLine) (s : State) : (s.modLine k f).map = s.map := rfl
@[simp] theorem State.modLine_tracker (k : Line) (f : SupplyLine → SupplyLine) (s : State) : (s.modLine k f).tracker = s.tracker := rfl
@[simp] theorem State.modLine_hub (k : Line) (f : SupplyLine → SupplyLine) (s : State) : (s.modLine k f).hub = s.hub := rfl
@[simp] theorem State.modLine_press (k : Line) (f : SupplyLine → SupplyLine) (s : State) : (s.modLine k f).press = s.press := rfl
@[simp] theorem State.modLine_cond (k : Line) (f : SupplyLine → SupplyLine) (s : State) : (s.modLine k f).cond = s.cond := rfl
@[simp] theorem State.modLine_matrix (k : Line) (f : SupplyLine → SupplyLine) (s : State) : (s.modLine k f).matrix = s.matrix := rfl
@[simp] theorem State.modLine_links (k : Line) (f : SupplyLine → SupplyLine) (s : State) : (s.modLine k f).links = s.links := rfl
@[simp] theorem State.modLine_settings (k : Line) (f : SupplyLine → SupplyLine) (s : State) : (s.modLine k f).settings = s.settings := rfl
@[simp] theorem State.modLine_events (k : Line) (f : SupplyLine → SupplyLine) (s : State) : (s.modLine k f).events = s.events := rfl
@[simp] theorem State.modLine_resetAsserted (k : Line) (f : SupplyLine → SupplyLine) (s : State) : (s.modLine k f).resetAsserted = s.resetAsserted := rfl
@[simp] theorem State.modLine_pending (k : Line) (f : SupplyLine → SupplyLine) (s : State) : (s.modLine k f).pending = s.pending := rfl
theorem State.modLine_line (k j : Line) (f : SupplyLine → SupplyLine) (s : State) :
    (s.modLine k f).line j = if j = k then f (s.line k) else s.line j := by cases k <;> cases j <;> rfl
@[simp] theorem State.modLine_line_self (k : Line) (f : SupplyLine → SupplyLine) (s : State) : (s.modLine k f).line k = f (s.line k) := by
  cases k <;> rfl
@[simp] theorem State.modArm_map (m : Arm) (f : ArmTrack → ArmTrack) (s : State) : (s.modArm m f).map = s.map := rfl
@[simp] theorem State.modArm_hub (m : Arm) (f : ArmTrack → ArmTrack) (s : State) : (s.modArm m f).hub = s.hub := rfl
@[simp] theorem State.modArm_press (m : Arm) (f : ArmTrack → ArmTrack) (s : State) : (s.modArm m f).press = s.press := rfl
@[simp] theorem State.modArm_cond (m : Arm) (f : ArmTrack → ArmTrack) (s : State) : (s.modArm m f).cond = s.cond := rfl
@[simp] theorem State.modArm_slurry (m : Arm) (f : ArmTrack → ArmTrack) (s : State) : (s.modArm m f).slurry = s.slurry := rfl
@[simp] theorem State.modArm_matrix (m : Arm) (f : ArmTrack → ArmTrack) (s : State) : (s.modArm m f).matrix = s.matrix := rfl
@[simp] theorem State.modArm_links (m : Arm) (f : ArmTrack → ArmTrack) (s : State) : (s.modArm m f).links = s.links := rfl
@[simp] theorem State.modArm_settings (m : Arm) (f : ArmTrack → ArmTrack) (s : State) : (s.modArm m f).settings = s.settings := rfl
@[simp] theorem State.modArm_events (m : Arm) (f : ArmTrack → ArmTrack) (s : State) : (s.modArm m f).events = s.events := rfl
@[simp] theorem State.modArm_resetAsserted (m : Arm) (f : ArmTrack → ArmTrack) (s : State) : (s.modArm m f).resetAsserted = s.resetAsserted := rfl
@[simp] theorem State.modArm_pending (m : Arm) (f : ArmTrack → ArmTrack) (s : State) : (s.modArm m f).pending = s.pending := rfl
theorem State.modArm_arm (m j : Arm) (f : ArmTrack → ArmTrack) (s : State) :
    (s.modArm m f).arm j = if j = m then f (s.arm m) else s.arm j := by cases m <;> cases j <;> rfl
@[simp] theorem State.modArm_arm_self (m : Arm) (f : ArmTrack → ArmTrack) (s : State) : (s.modArm m f).arm m = f (s.arm m) := by
  cases m <;> rfl
@[simp] theorem State.modPort_map (p : Port) (f : PortLink → PortLink) (s : State) : (s.modPort p f).map = s.map := rfl
@[simp] theorem State.modPort_tracker (p : Port) (f : PortLink → PortLink) (s : State) : (s.modPort p f).tracker = s.tracker := rfl
@[simp] theorem State.modPort_hub (p : Port) (f : PortLink → PortLink) (s : State) : (s.modPort p f).hub = s.hub := rfl
@[simp] theorem State.modPort_press (p : Port) (f : PortLink → PortLink) (s : State) : (s.modPort p f).press = s.press := rfl
@[simp] theorem State.modPort_cond (p : Port) (f : PortLink → PortLink) (s : State) : (s.modPort p f).cond = s.cond := rfl
@[simp] theorem State.modPort_slurry (p : Port) (f : PortLink → PortLink) (s : State) : (s.modPort p f).slurry = s.slurry := rfl
@[simp] theorem State.modPort_matrix (p : Port) (f : PortLink → PortLink) (s : State) : (s.modPort p f).matrix = s.matrix := rfl
@[simp] theorem State.modPort_settings (p : Port) (f : PortLink → PortLink) (s : State) : (s.modPort p f).settings = s.settings := rfl
@[simp] theorem State.modPort_events (p : Port) (f : PortLink → PortLink) (s : State) : (s.modPort p f).events = s.events := rfl
@[simp] theorem State.modPort_resetAsserted (p : Port) (f : PortLink → PortLink) (s : State) : (s.modPort p f).resetAsserted = s.resetAsserted := rfl
@[simp] theorem State.modPort_pending (p : Port) (f : PortLink → PortLink) (s : State) : (s.modPort p f).pending = s.pending := rfl
theorem State.modPort_port (p j : Port) (f : PortLink → PortLink) (s : State) :
    (s.modPort p f).port j = if j = p then f (s.port p) else s.port j := by cases p <;> cases j <;> rfl
@[simp] theorem State.modPort_port_self (p : Port) (f : PortLink → PortLink) (s : State) : (s.modPort p f).port p = f (s.port p) := by
  cases p <;> rfl

/-! ### What an accessor sees of the other blocks' updates -/

@[simp] theorem State.modMap_lane (f : PadMap → PadMap) (s : State) (l : Lane) : (s.modMap f).lane l = s.lane l := rfl
@[simp] theorem State.modTracker_lane (f : Tracker → Tracker) (s : State) (l : Lane) : (s.modTracker f).lane l = s.lane l := rfl
@[simp] theorem State.modHub_lane (f : Hub → Hub) (s : State) (l : Lane) : (s.modHub f).lane l = s.lane l := rfl
@[simp] theorem State.modCond_lane (f : Conditioner → Conditioner) (s : State) (l : Lane) : (s.modCond f).lane l = s.lane l := rfl
@[simp] theorem State.modSlurry_lane (f : Slurry → Slurry) (s : State) (l : Lane) : (s.modSlurry f).lane l = s.lane l := rfl
@[simp] theorem State.modMatrix_lane (f : Matrix → Matrix) (s : State) (l : Lane) : (s.modMatrix f).lane l = s.lane l := rfl
@[simp] theorem State.modLinks_lane (f : Links → Links) (s : State) (l : Lane) : (s.modLinks f).lane l = s.lane l := rfl
@[simp] theorem State.modSettings_lane (f : Settings → Settings) (s : State) (l : Lane) : (s.modSettings f).lane l = s.lane l := rfl
@[simp] theorem State.modEvents_lane (f : List Event → List Event) (s : State) (l : Lane) : (s.modEvents f).lane l = s.lane l := rfl
@[simp] theorem State.modBar_lane (j : Lane) (f : Bar → Bar) (s : State) (l : Lane) :
    (s.modBar j f).lane l = s.lane l := rfl
@[simp] theorem State.modLine_lane (j : Line) (f : SupplyLine → SupplyLine) (s : State) (l : Lane) :
    (s.modLine j f).lane l = s.lane l := rfl
@[simp] theorem State.modArm_lane (j : Arm) (f : ArmTrack → ArmTrack) (s : State) (l : Lane) :
    (s.modArm j f).lane l = s.lane l := rfl
@[simp] theorem State.modPort_lane (j : Port) (f : PortLink → PortLink) (s : State) (l : Lane) :
    (s.modPort j f).lane l = s.lane l := rfl
@[simp] theorem State.modMap_bar (f : PadMap → PadMap) (s : State) (l : Lane) : (s.modMap f).bar l = s.bar l := rfl
@[simp] theorem State.modTracker_bar (f : Tracker → Tracker) (s : State) (l : Lane) : (s.modTracker f).bar l = s.bar l := rfl
@[simp] theorem State.modHub_bar (f : Hub → Hub) (s : State) (l : Lane) : (s.modHub f).bar l = s.bar l := rfl
@[simp] theorem State.modPress_bar (f : Pressure → Pressure) (s : State) (l : Lane) : (s.modPress f).bar l = s.bar l := rfl
@[simp] theorem State.modCond_bar (f : Conditioner → Conditioner) (s : State) (l : Lane) : (s.modCond f).bar l = s.bar l := rfl
@[simp] theorem State.modMatrix_bar (f : Matrix → Matrix) (s : State) (l : Lane) : (s.modMatrix f).bar l = s.bar l := rfl
@[simp] theorem State.modLinks_bar (f : Links → Links) (s : State) (l : Lane) : (s.modLinks f).bar l = s.bar l := rfl
@[simp] theorem State.modSettings_bar (f : Settings → Settings) (s : State) (l : Lane) : (s.modSettings f).bar l = s.bar l := rfl
@[simp] theorem State.modEvents_bar (f : List Event → List Event) (s : State) (l : Lane) : (s.modEvents f).bar l = s.bar l := rfl
@[simp] theorem State.modLane_bar (j : Lane) (f : LanePressure → LanePressure) (s : State) (l : Lane) :
    (s.modLane j f).bar l = s.bar l := rfl
@[simp] theorem State.modArm_bar (j : Arm) (f : ArmTrack → ArmTrack) (s : State) (l : Lane) :
    (s.modArm j f).bar l = s.bar l := rfl
@[simp] theorem State.modPort_bar (j : Port) (f : PortLink → PortLink) (s : State) (l : Lane) :
    (s.modPort j f).bar l = s.bar l := rfl
@[simp] theorem State.modMap_line (f : PadMap → PadMap) (s : State) (k : Line) : (s.modMap f).line k = s.line k := rfl
@[simp] theorem State.modTracker_line (f : Tracker → Tracker) (s : State) (k : Line) : (s.modTracker f).line k = s.line k := rfl
@[simp] theorem State.modHub_line (f : Hub → Hub) (s : State) (k : Line) : (s.modHub f).line k = s.line k := rfl
@[simp] theorem State.modPress_line (f : Pressure → Pressure) (s : State) (k : Line) : (s.modPress f).line k = s.line k := rfl
@[simp] theorem State.modCond_line (f : Conditioner → Conditioner) (s : State) (k : Line) : (s.modCond f).line k = s.line k := rfl
@[simp] theorem State.modMatrix_line (f : Matrix → Matrix) (s : State) (k : Line) : (s.modMatrix f).line k = s.line k := rfl
@[simp] theorem State.modLinks_line (f : Links → Links) (s : State) (k : Line) : (s.modLinks f).line k = s.line k := rfl
@[simp] theorem State.modSettings_line (f : Settings → Settings) (s : State) (k : Line) : (s.modSettings f).line k = s.line k := rfl
@[simp] theorem State.modEvents_line (f : List Event → List Event) (s : State) (k : Line) : (s.modEvents f).line k = s.line k := rfl
@[simp] theorem State.modLane_line (j : Lane) (f : LanePressure → LanePressure) (s : State) (k : Line) :
    (s.modLane j f).line k = s.line k := rfl
@[simp] theorem State.modArm_line (j : Arm) (f : ArmTrack → ArmTrack) (s : State) (k : Line) :
    (s.modArm j f).line k = s.line k := rfl
@[simp] theorem State.modPort_line (j : Port) (f : PortLink → PortLink) (s : State) (k : Line) :
    (s.modPort j f).line k = s.line k := rfl
@[simp] theorem State.modMap_arm (f : PadMap → PadMap) (s : State) (m : Arm) : (s.modMap f).arm m = s.arm m := rfl
@[simp] theorem State.modHub_arm (f : Hub → Hub) (s : State) (m : Arm) : (s.modHub f).arm m = s.arm m := rfl
@[simp] theorem State.modPress_arm (f : Pressure → Pressure) (s : State) (m : Arm) : (s.modPress f).arm m = s.arm m := rfl
@[simp] theorem State.modCond_arm (f : Conditioner → Conditioner) (s : State) (m : Arm) : (s.modCond f).arm m = s.arm m := rfl
@[simp] theorem State.modSlurry_arm (f : Slurry → Slurry) (s : State) (m : Arm) : (s.modSlurry f).arm m = s.arm m := rfl
@[simp] theorem State.modMatrix_arm (f : Matrix → Matrix) (s : State) (m : Arm) : (s.modMatrix f).arm m = s.arm m := rfl
@[simp] theorem State.modLinks_arm (f : Links → Links) (s : State) (m : Arm) : (s.modLinks f).arm m = s.arm m := rfl
@[simp] theorem State.modSettings_arm (f : Settings → Settings) (s : State) (m : Arm) : (s.modSettings f).arm m = s.arm m := rfl
@[simp] theorem State.modEvents_arm (f : List Event → List Event) (s : State) (m : Arm) : (s.modEvents f).arm m = s.arm m := rfl
@[simp] theorem State.modLane_arm (j : Lane) (f : LanePressure → LanePressure) (s : State) (m : Arm) :
    (s.modLane j f).arm m = s.arm m := rfl
@[simp] theorem State.modBar_arm (j : Lane) (f : Bar → Bar) (s : State) (m : Arm) :
    (s.modBar j f).arm m = s.arm m := rfl
@[simp] theorem State.modLine_arm (j : Line) (f : SupplyLine → SupplyLine) (s : State) (m : Arm) :
    (s.modLine j f).arm m = s.arm m := rfl
@[simp] theorem State.modPort_arm (j : Port) (f : PortLink → PortLink) (s : State) (m : Arm) :
    (s.modPort j f).arm m = s.arm m := rfl
@[simp] theorem State.modMap_port (f : PadMap → PadMap) (s : State) (p : Port) : (s.modMap f).port p = s.port p := rfl
@[simp] theorem State.modTracker_port (f : Tracker → Tracker) (s : State) (p : Port) : (s.modTracker f).port p = s.port p := rfl
@[simp] theorem State.modHub_port (f : Hub → Hub) (s : State) (p : Port) : (s.modHub f).port p = s.port p := rfl
@[simp] theorem State.modPress_port (f : Pressure → Pressure) (s : State) (p : Port) : (s.modPress f).port p = s.port p := rfl
@[simp] theorem State.modCond_port (f : Conditioner → Conditioner) (s : State) (p : Port) : (s.modCond f).port p = s.port p := rfl
@[simp] theorem State.modSlurry_port (f : Slurry → Slurry) (s : State) (p : Port) : (s.modSlurry f).port p = s.port p := rfl
@[simp] theorem State.modMatrix_port (f : Matrix → Matrix) (s : State) (p : Port) : (s.modMatrix f).port p = s.port p := rfl
@[simp] theorem State.modSettings_port (f : Settings → Settings) (s : State) (p : Port) : (s.modSettings f).port p = s.port p := rfl
@[simp] theorem State.modEvents_port (f : List Event → List Event) (s : State) (p : Port) : (s.modEvents f).port p = s.port p := rfl
@[simp] theorem State.modLane_port (j : Lane) (f : LanePressure → LanePressure) (s : State) (p : Port) :
    (s.modLane j f).port p = s.port p := rfl
@[simp] theorem State.modBar_port (j : Lane) (f : Bar → Bar) (s : State) (p : Port) :
    (s.modBar j f).port p = s.port p := rfl
@[simp] theorem State.modLine_port (j : Line) (f : SupplyLine → SupplyLine) (s : State) (p : Port) :
    (s.modLine j f).port p = s.port p := rfl
@[simp] theorem State.modArm_port (j : Arm) (f : ArmTrack → ArmTrack) (s : State) (p : Port) :
    (s.modArm j f).port p = s.port p := rfl
@[simp] theorem State.modMap_causes (f : PadMap → PadMap) (s : State) (l : Lane) : (s.modMap f).causes l = s.causes l := rfl
@[simp] theorem State.modTracker_causes (f : Tracker → Tracker) (s : State) (l : Lane) : (s.modTracker f).causes l = s.causes l := rfl
@[simp] theorem State.modHub_causes (f : Hub → Hub) (s : State) (l : Lane) : (s.modHub f).causes l = s.causes l := rfl
@[simp] theorem State.modPress_causes (f : Pressure → Pressure) (s : State) (l : Lane) : (s.modPress f).causes l = s.causes l := rfl
@[simp] theorem State.modCond_causes (f : Conditioner → Conditioner) (s : State) (l : Lane) : (s.modCond f).causes l = s.causes l := rfl
@[simp] theorem State.modSlurry_causes (f : Slurry → Slurry) (s : State) (l : Lane) : (s.modSlurry f).causes l = s.causes l := rfl
@[simp] theorem State.modLinks_causes (f : Links → Links) (s : State) (l : Lane) : (s.modLinks f).causes l = s.causes l := rfl
@[simp] theorem State.modSettings_causes (f : Settings → Settings) (s : State) (l : Lane) : (s.modSettings f).causes l = s.causes l := rfl
@[simp] theorem State.modEvents_causes (f : List Event → List Event) (s : State) (l : Lane) : (s.modEvents f).causes l = s.causes l := rfl
@[simp] theorem State.modLane_causes (j : Lane) (f : LanePressure → LanePressure) (s : State) (l : Lane) :
    (s.modLane j f).causes l = s.causes l := rfl
@[simp] theorem State.modBar_causes (j : Lane) (f : Bar → Bar) (s : State) (l : Lane) :
    (s.modBar j f).causes l = s.causes l := rfl
@[simp] theorem State.modLine_causes (j : Line) (f : SupplyLine → SupplyLine) (s : State) (l : Lane) :
    (s.modLine j f).causes l = s.causes l := rfl
@[simp] theorem State.modArm_causes (j : Arm) (f : ArmTrack → ArmTrack) (s : State) (l : Lane) :
    (s.modArm j f).causes l = s.causes l := rfl
@[simp] theorem State.modPort_causes (j : Port) (f : PortLink → PortLink) (s : State) (l : Lane) :
    (s.modPort j f).causes l = s.causes l := rfl

end Sys2Proof.Machine
end

