-- ==== Sys2Proof/Laws/Frames.lean ====
section
/-!
SUPPORT. What each shared operation leaves as it was: one lemma a field for each operation.
-/

namespace Sys2Proof.Machine
open Sys2Proof

@[simp] theorem State.file_map (p : Port) (n : Notice) (s : State) : (s.file p n).map = s.map := rfl
@[simp] theorem State.file_tracker (p : Port) (n : Notice) (s : State) : (s.file p n).tracker = s.tracker := rfl
@[simp] theorem State.file_hub (p : Port) (n : Notice) (s : State) : (s.file p n).hub = s.hub := rfl
@[simp] theorem State.file_press (p : Port) (n : Notice) (s : State) : (s.file p n).press = s.press := rfl
@[simp] theorem State.file_cond (p : Port) (n : Notice) (s : State) : (s.file p n).cond = s.cond := rfl
@[simp] theorem State.file_slurry (p : Port) (n : Notice) (s : State) : (s.file p n).slurry = s.slurry := rfl
@[simp] theorem State.file_matrix (p : Port) (n : Notice) (s : State) : (s.file p n).matrix = s.matrix := rfl
@[simp] theorem State.file_settings (p : Port) (n : Notice) (s : State) : (s.file p n).settings = s.settings := rfl
@[simp] theorem State.file_events (p : Port) (n : Notice) (s : State) : (s.file p n).events = s.events := rfl
@[simp] theorem State.file_resetAsserted (p : Port) (n : Notice) (s : State) : (s.file p n).resetAsserted = s.resetAsserted := rfl
@[simp] theorem State.file_pending (p : Port) (n : Notice) (s : State) : (s.file p n).pending = s.pending := rfl

@[simp] theorem State.fileAll_map (n : Notice) (s : State) : (s.fileAll n).map = s.map := rfl
@[simp] theorem State.fileAll_tracker (n : Notice) (s : State) : (s.fileAll n).tracker = s.tracker := rfl
@[simp] theorem State.fileAll_hub (n : Notice) (s : State) : (s.fileAll n).hub = s.hub := rfl
@[simp] theorem State.fileAll_press (n : Notice) (s : State) : (s.fileAll n).press = s.press := rfl
@[simp] theorem State.fileAll_cond (n : Notice) (s : State) : (s.fileAll n).cond = s.cond := rfl
@[simp] theorem State.fileAll_slurry (n : Notice) (s : State) : (s.fileAll n).slurry = s.slurry := rfl
@[simp] theorem State.fileAll_matrix (n : Notice) (s : State) : (s.fileAll n).matrix = s.matrix := rfl
@[simp] theorem State.fileAll_settings (n : Notice) (s : State) : (s.fileAll n).settings = s.settings := rfl
@[simp] theorem State.fileAll_events (n : Notice) (s : State) : (s.fileAll n).events = s.events := rfl
@[simp] theorem State.fileAll_resetAsserted (n : Notice) (s : State) : (s.fileAll n).resetAsserted = s.resetAsserted := rfl
@[simp] theorem State.fileAll_pending (n : Notice) (s : State) : (s.fileAll n).pending = s.pending := rfl

@[simp] theorem State.raise_map (e : Event) (s : State) : (s.raise e).map = s.map := rfl
@[simp] theorem State.raise_tracker (e : Event) (s : State) : (s.raise e).tracker = s.tracker := rfl
@[simp] theorem State.raise_hub (e : Event) (s : State) : (s.raise e).hub = s.hub := rfl
@[simp] theorem State.raise_press (e : Event) (s : State) : (s.raise e).press = s.press := rfl
@[simp] theorem State.raise_cond (e : Event) (s : State) : (s.raise e).cond = s.cond := rfl
@[simp] theorem State.raise_slurry (e : Event) (s : State) : (s.raise e).slurry = s.slurry := rfl
@[simp] theorem State.raise_matrix (e : Event) (s : State) : (s.raise e).matrix = s.matrix := rfl
@[simp] theorem State.raise_links (e : Event) (s : State) : (s.raise e).links = s.links := rfl
@[simp] theorem State.raise_settings (e : Event) (s : State) : (s.raise e).settings = s.settings := rfl
@[simp] theorem State.raise_resetAsserted (e : Event) (s : State) : (s.raise e).resetAsserted = s.resetAsserted := rfl
@[simp] theorem State.raise_pending (e : Event) (s : State) : (s.raise e).pending = s.pending := rfl

@[simp] theorem State.setCauses_map (l : Lane) (c : List CauseEntry) (s : State) : (s.setCauses l c).map = s.map := rfl
@[simp] theorem State.setCauses_tracker (l : Lane) (c : List CauseEntry) (s : State) : (s.setCauses l c).tracker = s.tracker := rfl
@[simp] theorem State.setCauses_hub (l : Lane) (c : List CauseEntry) (s : State) : (s.setCauses l c).hub = s.hub := rfl
@[simp] theorem State.setCauses_press (l : Lane) (c : List CauseEntry) (s : State) : (s.setCauses l c).press = s.press := rfl
@[simp] theorem State.setCauses_cond (l : Lane) (c : List CauseEntry) (s : State) : (s.setCauses l c).cond = s.cond := rfl
@[simp] theorem State.setCauses_slurry (l : Lane) (c : List CauseEntry) (s : State) : (s.setCauses l c).slurry = s.slurry := rfl
@[simp] theorem State.setCauses_links (l : Lane) (c : List CauseEntry) (s : State) : (s.setCauses l c).links = s.links := rfl
@[simp] theorem State.setCauses_settings (l : Lane) (c : List CauseEntry) (s : State) : (s.setCauses l c).settings = s.settings := rfl
@[simp] theorem State.setCauses_events (l : Lane) (c : List CauseEntry) (s : State) : (s.setCauses l c).events = s.events := rfl
@[simp] theorem State.setCauses_resetAsserted (l : Lane) (c : List CauseEntry) (s : State) : (s.setCauses l c).resetAsserted = s.resetAsserted := rfl
@[simp] theorem State.setCauses_pending (l : Lane) (c : List CauseEntry) (s : State) : (s.setCauses l c).pending = s.pending := rfl

@[simp] theorem State.tellLevel_map (l : Lane) (v : HoldLevel) (s : State) : (s.tellLevel l v).map = s.map := by
  cases v <;> rfl
@[simp] theorem State.tellLevel_tracker (l : Lane) (v : HoldLevel) (s : State) : (s.tellLevel l v).tracker = s.tracker := by
  cases v <;> rfl
@[simp] theorem State.tellLevel_hub (l : Lane) (v : HoldLevel) (s : State) : (s.tellLevel l v).hub = s.hub := by
  cases v <;> rfl
@[simp] theorem State.tellLevel_press (l : Lane) (v : HoldLevel) (s : State) : (s.tellLevel l v).press = s.press := by
  cases v <;> rfl
@[simp] theorem State.tellLevel_cond (l : Lane) (v : HoldLevel) (s : State) : (s.tellLevel l v).cond = s.cond := by
  cases v <;> rfl
@[simp] theorem State.tellLevel_slurry (l : Lane) (v : HoldLevel) (s : State) : (s.tellLevel l v).slurry = s.slurry := by
  cases v <;> rfl
@[simp] theorem State.tellLevel_matrix (l : Lane) (v : HoldLevel) (s : State) : (s.tellLevel l v).matrix = s.matrix := by
  cases v <;> rfl
@[simp] theorem State.tellLevel_links (l : Lane) (v : HoldLevel) (s : State) : (s.tellLevel l v).links = s.links := by
  cases v <;> rfl
@[simp] theorem State.tellLevel_settings (l : Lane) (v : HoldLevel) (s : State) : (s.tellLevel l v).settings = s.settings := by
  cases v <;> rfl
@[simp] theorem State.tellLevel_resetAsserted (l : Lane) (v : HoldLevel) (s : State) : (s.tellLevel l v).resetAsserted = s.resetAsserted := by
  cases v <;> rfl
@[simp] theorem State.tellLevel_pending (l : Lane) (v : HoldLevel) (s : State) : (s.tellLevel l v).pending = s.pending := by
  cases v <;> rfl

@[simp] theorem State.holdEntered_map (l : Lane) (v : HoldLevel) (s : State) : (s.holdEntered l v).map = s.map := by
  simp [State.holdEntered, State.fileHold]
@[simp] theorem State.holdEntered_tracker (l : Lane) (v : HoldLevel) (s : State) : (s.holdEntered l v).tracker = s.tracker := by
  simp [State.holdEntered, State.fileHold]
@[simp] theorem State.holdEntered_hub (l : Lane) (v : HoldLevel) (s : State) : (s.holdEntered l v).hub = s.hub := by
  simp [State.holdEntered, State.fileHold]
@[simp] theorem State.holdEntered_press (l : Lane) (v : HoldLevel) (s : State) : (s.holdEntered l v).press = s.press := by
  simp [State.holdEntered, State.fileHold]
@[simp] theorem State.holdEntered_cond (l : Lane) (v : HoldLevel) (s : State) : (s.holdEntered l v).cond = s.cond := by
  simp [State.holdEntered, State.fileHold]
@[simp] theorem State.holdEntered_slurry (l : Lane) (v : HoldLevel) (s : State) : (s.holdEntered l v).slurry = s.slurry := by
  simp [State.holdEntered, State.fileHold]
@[simp] theorem State.holdEntered_matrix (l : Lane) (v : HoldLevel) (s : State) : (s.holdEntered l v).matrix = s.matrix := by
  simp [State.holdEntered, State.fileHold]
@[simp] theorem State.holdEntered_settings (l : Lane) (v : HoldLevel) (s : State) : (s.holdEntered l v).settings = s.settings := by
  simp [State.holdEntered, State.fileHold]
@[simp] theorem State.holdEntered_resetAsserted (l : Lane) (v : HoldLevel) (s : State) : (s.holdEntered l v).resetAsserted = s.resetAsserted := by
  simp [State.holdEntered, State.fileHold]
@[simp] theorem State.holdEntered_pending (l : Lane) (v : HoldLevel) (s : State) : (s.holdEntered l v).pending = s.pending := by
  simp [State.holdEntered, State.fileHold]

@[simp] theorem State.fileHold_map (l : Lane) (s : State) : (s.fileHold l).map = s.map := by
  simp [State.fileHold]
@[simp] theorem State.fileHold_tracker (l : Lane) (s : State) : (s.fileHold l).tracker = s.tracker := by
  simp [State.fileHold]
@[simp] theorem State.fileHold_hub (l : Lane) (s : State) : (s.fileHold l).hub = s.hub := by
  simp [State.fileHold]
@[simp] theorem State.fileHold_press (l : Lane) (s : State) : (s.fileHold l).press = s.press := by
  simp [State.fileHold]
@[simp] theorem State.fileHold_cond (l : Lane) (s : State) : (s.fileHold l).cond = s.cond := by
  simp [State.fileHold]
@[simp] theorem State.fileHold_slurry (l : Lane) (s : State) : (s.fileHold l).slurry = s.slurry := by
  simp [State.fileHold]
@[simp] theorem State.fileHold_matrix (l : Lane) (s : State) : (s.fileHold l).matrix = s.matrix := by
  simp [State.fileHold]
@[simp] theorem State.fileHold_settings (l : Lane) (s : State) : (s.fileHold l).settings = s.settings := by
  simp [State.fileHold]
@[simp] theorem State.fileHold_events (l : Lane) (s : State) : (s.fileHold l).events = s.events := by
  simp [State.fileHold]
@[simp] theorem State.fileHold_resetAsserted (l : Lane) (s : State) : (s.fileHold l).resetAsserted = s.resetAsserted := by
  simp [State.fileHold]
@[simp] theorem State.fileHold_pending (l : Lane) (s : State) : (s.fileHold l).pending = s.pending := by
  simp [State.fileHold]

@[simp] theorem State.addCause_map (l : Lane) (e : CauseEntry) (s : State) : (s.addCause l e).map = s.map := by
  simp only [State.addCause, State.addCauseWith]; split <;> simp
@[simp] theorem State.addCause_tracker (l : Lane) (e : CauseEntry) (s : State) : (s.addCause l e).tracker = s.tracker := by
  simp only [State.addCause, State.addCauseWith]; split <;> simp
@[simp] theorem State.addCause_hub (l : Lane) (e : CauseEntry) (s : State) : (s.addCause l e).hub = s.hub := by
  simp only [State.addCause, State.addCauseWith]; split <;> simp
@[simp] theorem State.addCause_press (l : Lane) (e : CauseEntry) (s : State) : (s.addCause l e).press = s.press := by
  simp only [State.addCause, State.addCauseWith]; split <;> simp
@[simp] theorem State.addCause_cond (l : Lane) (e : CauseEntry) (s : State) : (s.addCause l e).cond = s.cond := by
  simp only [State.addCause, State.addCauseWith]; split <;> simp
@[simp] theorem State.addCause_slurry (l : Lane) (e : CauseEntry) (s : State) : (s.addCause l e).slurry = s.slurry := by
  simp only [State.addCause, State.addCauseWith]; split <;> simp
@[simp] theorem State.addCause_settings (l : Lane) (e : CauseEntry) (s : State) : (s.addCause l e).settings = s.settings := by
  simp only [State.addCause, State.addCauseWith]; split <;> simp
@[simp] theorem State.addCause_resetAsserted (l : Lane) (e : CauseEntry) (s : State) : (s.addCause l e).resetAsserted = s.resetAsserted := by
  simp only [State.addCause, State.addCauseWith]; split <;> simp
@[simp] theorem State.addCause_pending (l : Lane) (e : CauseEntry) (s : State) : (s.addCause l e).pending = s.pending := by
  simp only [State.addCause, State.addCauseWith]; split <;> simp

@[simp] theorem State.addCauseUntold_map (l : Lane) (e : CauseEntry) (s : State) : (s.addCauseUntold l e).map = s.map := by
  simp only [State.addCauseUntold, State.addCauseWith]; split <;> simp
@[simp] theorem State.addCauseUntold_tracker (l : Lane) (e : CauseEntry) (s : State) : (s.addCauseUntold l e).tracker = s.tracker := by
  simp only [State.addCauseUntold, State.addCauseWith]; split <;> simp
@[simp] theorem State.addCauseUntold_hub (l : Lane) (e : CauseEntry) (s : State) : (s.addCauseUntold l e).hub = s.hub := by
  simp only [State.addCauseUntold, State.addCauseWith]; split <;> simp
@[simp] theorem State.addCauseUntold_press (l : Lane) (e : CauseEntry) (s : State) : (s.addCauseUntold l e).press = s.press := by
  simp only [State.addCauseUntold, State.addCauseWith]; split <;> simp
@[simp] theorem State.addCauseUntold_cond (l : Lane) (e : CauseEntry) (s : State) : (s.addCauseUntold l e).cond = s.cond := by
  simp only [State.addCauseUntold, State.addCauseWith]; split <;> simp
@[simp] theorem State.addCauseUntold_slurry (l : Lane) (e : CauseEntry) (s : State) : (s.addCauseUntold l e).slurry = s.slurry := by
  simp only [State.addCauseUntold, State.addCauseWith]; split <;> simp
@[simp] theorem State.addCauseUntold_settings (l : Lane) (e : CauseEntry) (s : State) : (s.addCauseUntold l e).settings = s.settings := by
  simp only [State.addCauseUntold, State.addCauseWith]; split <;> simp
@[simp] theorem State.addCauseUntold_events (l : Lane) (e : CauseEntry) (s : State) : (s.addCauseUntold l e).events = s.events := by
  simp only [State.addCauseUntold, State.addCauseWith]; split <;> simp
@[simp] theorem State.addCauseUntold_resetAsserted (l : Lane) (e : CauseEntry) (s : State) : (s.addCauseUntold l e).resetAsserted = s.resetAsserted := by
  simp only [State.addCauseUntold, State.addCauseWith]; split <;> simp
@[simp] theorem State.addCauseUntold_pending (l : Lane) (e : CauseEntry) (s : State) : (s.addCauseUntold l e).pending = s.pending := by
  simp only [State.addCauseUntold, State.addCauseWith]; split <;> simp

@[simp] theorem State.addCauseBoth_map (e : CauseEntry) (s : State) : (s.addCauseBoth e).map = s.map := by
  simp [State.addCauseBoth]
@[simp] theorem State.addCauseBoth_tracker (e : CauseEntry) (s : State) : (s.addCauseBoth e).tracker = s.tracker := by
  simp [State.addCauseBoth]
@[simp] theorem State.addCauseBoth_hub (e : CauseEntry) (s : State) : (s.addCauseBoth e).hub = s.hub := by
  simp [State.addCauseBoth]
@[simp] theorem State.addCauseBoth_press (e : CauseEntry) (s : State) : (s.addCauseBoth e).press = s.press := by
  simp [State.addCauseBoth]
@[simp] theorem State.addCauseBoth_cond (e : CauseEntry) (s : State) : (s.addCauseBoth e).cond = s.cond := by
  simp [State.addCauseBoth]
@[simp] theorem State.addCauseBoth_slurry (e : CauseEntry) (s : State) : (s.addCauseBoth e).slurry = s.slurry := by
  simp [State.addCauseBoth]
@[simp] theorem State.addCauseBoth_settings (e : CauseEntry) (s : State) : (s.addCauseBoth e).settings = s.settings := by
  simp [State.addCauseBoth]
@[simp] theorem State.addCauseBoth_resetAsserted (e : CauseEntry) (s : State) : (s.addCauseBoth e).resetAsserted = s.resetAsserted := by
  simp [State.addCauseBoth]
@[simp] theorem State.addCauseBoth_pending (e : CauseEntry) (s : State) : (s.addCauseBoth e).pending = s.pending := by
  simp [State.addCauseBoth]

@[simp] theorem State.tripCause_map (c : TripCause) (s : State) : (s.tripCause c).map = s.map := by
  simp only [State.tripCause]; split <;> simp
@[simp] theorem State.tripCause_tracker (c : TripCause) (s : State) : (s.tripCause c).tracker = s.tracker := by
  simp only [State.tripCause]; split <;> simp
@[simp] theorem State.tripCause_hub (c : TripCause) (s : State) : (s.tripCause c).hub = s.hub := by
  simp only [State.tripCause]; split <;> simp
@[simp] theorem State.tripCause_press (c : TripCause) (s : State) : (s.tripCause c).press = s.press := by
  simp only [State.tripCause]; split <;> simp
@[simp] theorem State.tripCause_cond (c : TripCause) (s : State) : (s.tripCause c).cond = s.cond := by
  simp only [State.tripCause]; split <;> simp
@[simp] theorem State.tripCause_slurry (c : TripCause) (s : State) : (s.tripCause c).slurry = s.slurry := by
  simp only [State.tripCause]; split <;> simp
@[simp] theorem State.tripCause_settings (c : TripCause) (s : State) : (s.tripCause c).settings = s.settings := by
  simp only [State.tripCause]; split <;> simp
@[simp] theorem State.tripCause_resetAsserted (c : TripCause) (s : State) : (s.tripCause c).resetAsserted = s.resetAsserted := by
  simp only [State.tripCause]; split <;> simp
@[simp] theorem State.tripCause_pending (c : TripCause) (s : State) : (s.tripCause c).pending = s.pending := by
  simp only [State.tripCause]; split <;> simp

@[simp] theorem State.takeTargets_map (b : State) (s : State) : (s.takeTargets b).map = s.map := by
  simp only [State.takeTargets, State.onRise]; split <;> split <;> split <;> split <;> simp
@[simp] theorem State.takeTargets_tracker (b : State) (s : State) : (s.takeTargets b).tracker = s.tracker := by
  simp only [State.takeTargets, State.onRise]; split <;> split <;> split <;> split <;> simp
@[simp] theorem State.takeTargets_hub (b : State) (s : State) : (s.takeTargets b).hub = s.hub := by
  simp only [State.takeTargets, State.onRise]; split <;> split <;> split <;> split <;> simp
@[simp] theorem State.takeTargets_press (b : State) (s : State) : (s.takeTargets b).press = s.press := by
  simp only [State.takeTargets, State.onRise]; split <;> split <;> split <;> split <;> simp
@[simp] theorem State.takeTargets_cond (b : State) (s : State) : (s.takeTargets b).cond = s.cond := by
  simp only [State.takeTargets, State.onRise]; split <;> split <;> split <;> split <;> simp
@[simp] theorem State.takeTargets_slurry (b : State) (s : State) : (s.takeTargets b).slurry = s.slurry := by
  simp only [State.takeTargets, State.onRise]; split <;> split <;> split <;> split <;> simp
@[simp] theorem State.takeTargets_settings (b : State) (s : State) : (s.takeTargets b).settings = s.settings := by
  simp only [State.takeTargets, State.onRise]; split <;> split <;> split <;> split <;> simp
@[simp] theorem State.takeTargets_resetAsserted (b : State) (s : State) : (s.takeTargets b).resetAsserted = s.resetAsserted := by
  simp only [State.takeTargets, State.onRise]; split <;> split <;> split <;> split <;> simp
@[simp] theorem State.takeTargets_pending (b : State) (s : State) : (s.takeTargets b).pending = s.pending := by
  simp only [State.takeTargets, State.onRise]; split <;> split <;> split <;> split <;> simp

@[simp] theorem State.modInput_map (i : InputIndex) (f : InterlockInput → InterlockInput) (s : State) : (s.modInput i f).map = s.map := rfl
@[simp] theorem State.modInput_tracker (i : InputIndex) (f : InterlockInput → InterlockInput) (s : State) : (s.modInput i f).tracker = s.tracker := rfl
@[simp] theorem State.modInput_hub (i : InputIndex) (f : InterlockInput → InterlockInput) (s : State) : (s.modInput i f).hub = s.hub := rfl
@[simp] theorem State.modInput_press (i : InputIndex) (f : InterlockInput → InterlockInput) (s : State) : (s.modInput i f).press = s.press := rfl
@[simp] theorem State.modInput_cond (i : InputIndex) (f : InterlockInput → InterlockInput) (s : State) : (s.modInput i f).cond = s.cond := rfl
@[simp] theorem State.modInput_slurry (i : InputIndex) (f : InterlockInput → InterlockInput) (s : State) : (s.modInput i f).slurry = s.slurry := rfl
@[simp] theorem State.modInput_links (i : InputIndex) (f : InterlockInput → InterlockInput) (s : State) : (s.modInput i f).links = s.links := rfl
@[simp] theorem State.modInput_settings (i : InputIndex) (f : InterlockInput → InterlockInput) (s : State) : (s.modInput i f).settings = s.settings := rfl
@[simp] theorem State.modInput_events (i : InputIndex) (f : InterlockInput → InterlockInput) (s : State) : (s.modInput i f).events = s.events := rfl
@[simp] theorem State.modInput_resetAsserted (i : InputIndex) (f : InterlockInput → InterlockInput) (s : State) : (s.modInput i f).resetAsserted = s.resetAsserted := rfl
@[simp] theorem State.modInput_pending (i : InputIndex) (f : InterlockInput → InterlockInput) (s : State) : (s.modInput i f).pending = s.pending := rfl

@[simp] theorem State.acceptLevel_map (i : InputIndex) (s : State) : (s.acceptLevel i).map = s.map := by
  simp [State.acceptLevel]
@[simp] theorem State.acceptLevel_tracker (i : InputIndex) (s : State) : (s.acceptLevel i).tracker = s.tracker := by
  simp [State.acceptLevel]
@[simp] theorem State.acceptLevel_hub (i : InputIndex) (s : State) : (s.acceptLevel i).hub = s.hub := by
  simp [State.acceptLevel]
@[simp] theorem State.acceptLevel_press (i : InputIndex) (s : State) : (s.acceptLevel i).press = s.press := by
  simp [State.acceptLevel]
@[simp] theorem State.acceptLevel_cond (i : InputIndex) (s : State) : (s.acceptLevel i).cond = s.cond := by
  simp [State.acceptLevel]
@[simp] theorem State.acceptLevel_slurry (i : InputIndex) (s : State) : (s.acceptLevel i).slurry = s.slurry := by
  simp [State.acceptLevel]
@[simp] theorem State.acceptLevel_settings (i : InputIndex) (s : State) : (s.acceptLevel i).settings = s.settings := by
  simp [State.acceptLevel]
@[simp] theorem State.acceptLevel_resetAsserted (i : InputIndex) (s : State) : (s.acceptLevel i).resetAsserted = s.resetAsserted := by
  simp [State.acceptLevel]
@[simp] theorem State.acceptLevel_pending (i : InputIndex) (s : State) : (s.acceptLevel i).pending = s.pending := by
  simp [State.acceptLevel]

@[simp] theorem State.accrue_tracker (s : State) : s.accrue.tracker = s.tracker := rfl
@[simp] theorem State.accrue_hub (s : State) : s.accrue.hub = s.hub := rfl
@[simp] theorem State.accrue_press (s : State) : s.accrue.press = s.press := rfl
@[simp] theorem State.accrue_cond (s : State) : s.accrue.cond = s.cond := rfl
@[simp] theorem State.accrue_slurry (s : State) : s.accrue.slurry = s.slurry := rfl
@[simp] theorem State.accrue_matrix (s : State) : s.accrue.matrix = s.matrix := rfl
@[simp] theorem State.accrue_links (s : State) : s.accrue.links = s.links := rfl
@[simp] theorem State.accrue_settings (s : State) : s.accrue.settings = s.settings := rfl
@[simp] theorem State.accrue_events (s : State) : s.accrue.events = s.events := rfl
@[simp] theorem State.accrue_resetAsserted (s : State) : s.accrue.resetAsserted = s.resetAsserted := rfl
@[simp] theorem State.accrue_pending (s : State) : s.accrue.pending = s.pending := rfl

@[simp] theorem State.closeNotices_map (m : PadMap) (s : State) : (s.closeNotices m).map = s.map := by
  simp only [State.closeNotices, State.onRise]; split <;> split <;> split <;> split <;> simp
@[simp] theorem State.closeNotices_tracker (m : PadMap) (s : State) : (s.closeNotices m).tracker = s.tracker := by
  simp only [State.closeNotices, State.onRise]; split <;> split <;> split <;> split <;> simp
@[simp] theorem State.closeNotices_hub (m : PadMap) (s : State) : (s.closeNotices m).hub = s.hub := by
  simp only [State.closeNotices, State.onRise]; split <;> split <;> split <;> split <;> simp
@[simp] theorem State.closeNotices_press (m : PadMap) (s : State) : (s.closeNotices m).press = s.press := by
  simp only [State.closeNotices, State.onRise]; split <;> split <;> split <;> split <;> simp
@[simp] theorem State.closeNotices_cond (m : PadMap) (s : State) : (s.closeNotices m).cond = s.cond := by
  simp only [State.closeNotices, State.onRise]; split <;> split <;> split <;> split <;> simp
@[simp] theorem State.closeNotices_slurry (m : PadMap) (s : State) : (s.closeNotices m).slurry = s.slurry := by
  simp only [State.closeNotices, State.onRise]; split <;> split <;> split <;> split <;> simp
@[simp] theorem State.closeNotices_matrix (m : PadMap) (s : State) : (s.closeNotices m).matrix = s.matrix := by
  simp only [State.closeNotices, State.onRise]; split <;> split <;> split <;> split <;> simp
@[simp] theorem State.closeNotices_settings (m : PadMap) (s : State) : (s.closeNotices m).settings = s.settings := by
  simp only [State.closeNotices, State.onRise]; split <;> split <;> split <;> split <;> simp
@[simp] theorem State.closeNotices_events (m : PadMap) (s : State) : (s.closeNotices m).events = s.events := by
  simp only [State.closeNotices, State.onRise]; split <;> split <;> split <;> split <;> simp
@[simp] theorem State.closeNotices_resetAsserted (m : PadMap) (s : State) : (s.closeNotices m).resetAsserted = s.resetAsserted := by
  simp only [State.closeNotices, State.onRise]; split <;> split <;> split <;> split <;> simp
@[simp] theorem State.closeNotices_pending (m : PadMap) (s : State) : (s.closeNotices m).pending = s.pending := by
  simp only [State.closeNotices, State.onRise]; split <;> split <;> split <;> split <;> simp

@[simp] theorem State.issueUpdated_map (u : MapUpdated) (s : State) : (s.issueUpdated u).map = s.map := rfl
@[simp] theorem State.issueUpdated_tracker (u : MapUpdated) (s : State) : (s.issueUpdated u).tracker = s.tracker := rfl
@[simp] theorem State.issueUpdated_hub (u : MapUpdated) (s : State) : (s.issueUpdated u).hub = s.hub := rfl
@[simp] theorem State.issueUpdated_press (u : MapUpdated) (s : State) : (s.issueUpdated u).press = s.press := rfl
@[simp] theorem State.issueUpdated_cond (u : MapUpdated) (s : State) : (s.issueUpdated u).cond = s.cond := rfl
@[simp] theorem State.issueUpdated_slurry (u : MapUpdated) (s : State) : (s.issueUpdated u).slurry = s.slurry := rfl
@[simp] theorem State.issueUpdated_matrix (u : MapUpdated) (s : State) : (s.issueUpdated u).matrix = s.matrix := rfl
@[simp] theorem State.issueUpdated_links (u : MapUpdated) (s : State) : (s.issueUpdated u).links = s.links := rfl
@[simp] theorem State.issueUpdated_settings (u : MapUpdated) (s : State) : (s.issueUpdated u).settings = s.settings := rfl
@[simp] theorem State.issueUpdated_resetAsserted (u : MapUpdated) (s : State) : (s.issueUpdated u).resetAsserted = s.resetAsserted := rfl
@[simp] theorem State.issueUpdated_pending (u : MapUpdated) (s : State) : (s.issueUpdated u).pending = s.pending := rfl

@[simp] theorem State.validClose_tracker (s : State) : s.validClose.tracker = s.tracker := by simp [State.validClose]
@[simp] theorem State.validClose_hub (s : State) : s.validClose.hub = s.hub := by simp [State.validClose]
@[simp] theorem State.validClose_press (s : State) : s.validClose.press = s.press := by simp [State.validClose]
@[simp] theorem State.validClose_cond (s : State) : s.validClose.cond = s.cond := by simp [State.validClose]
@[simp] theorem State.validClose_slurry (s : State) : s.validClose.slurry = s.slurry := by simp [State.validClose]
@[simp] theorem State.validClose_matrix (s : State) : s.validClose.matrix = s.matrix := by simp [State.validClose]
@[simp] theorem State.validClose_settings (s : State) : s.validClose.settings = s.settings := by
  simp [State.validClose]
@[simp] theorem State.validClose_resetAsserted (s : State) : s.validClose.resetAsserted = s.resetAsserted := by
  simp [State.validClose]
@[simp] theorem State.validClose_pending (s : State) : s.validClose.pending = s.pending := by simp [State.validClose]

@[simp] theorem State.closeRevolution_tracker (a b : Bool) (s : State) : (s.closeRevolution a b).tracker = s.tracker := by
  simp only [State.closeRevolution]; split <;> simp
@[simp] theorem State.closeRevolution_hub (a b : Bool) (s : State) : (s.closeRevolution a b).hub = s.hub := by
  simp only [State.closeRevolution]; split <;> simp
@[simp] theorem State.closeRevolution_press (a b : Bool) (s : State) : (s.closeRevolution a b).press = s.press := by
  simp only [State.closeRevolution]; split <;> simp
@[simp] theorem State.closeRevolution_cond (a b : Bool) (s : State) : (s.closeRevolution a b).cond = s.cond := by
  simp only [State.closeRevolution]; split <;> simp
@[simp] theorem State.closeRevolution_slurry (a b : Bool) (s : State) : (s.closeRevolution a b).slurry = s.slurry := by
  simp only [State.closeRevolution]; split <;> simp
@[simp] theorem State.closeRevolution_matrix (a b : Bool) (s : State) : (s.closeRevolution a b).matrix = s.matrix := by
  simp only [State.closeRevolution]; split <;> simp
@[simp] theorem State.closeRevolution_settings (a b : Bool) (s : State) : (s.closeRevolution a b).settings = s.settings := by
  simp only [State.closeRevolution]; split <;> simp
@[simp] theorem State.closeRevolution_resetAsserted (a b : Bool) (s : State) : (s.closeRevolution a b).resetAsserted = s.resetAsserted := by
  simp only [State.closeRevolution]; split <;> simp
@[simp] theorem State.closeRevolution_pending (a b : Bool) (s : State) : (s.closeRevolution a b).pending = s.pending := by
  simp only [State.closeRevolution]; split <;> simp

@[simp] theorem State.startRevolution_tracker (s : State) : s.startRevolution.tracker = s.tracker := rfl
@[simp] theorem State.startRevolution_hub (s : State) : s.startRevolution.hub = s.hub := rfl
@[simp] theorem State.startRevolution_press (s : State) : s.startRevolution.press = s.press := rfl
@[simp] theorem State.startRevolution_cond (s : State) : s.startRevolution.cond = s.cond := rfl
@[simp] theorem State.startRevolution_slurry (s : State) : s.startRevolution.slurry = s.slurry := rfl
@[simp] theorem State.startRevolution_matrix (s : State) : s.startRevolution.matrix = s.matrix := rfl
@[simp] theorem State.startRevolution_links (s : State) : s.startRevolution.links = s.links := rfl
@[simp] theorem State.startRevolution_settings (s : State) : s.startRevolution.settings = s.settings := rfl
@[simp] theorem State.startRevolution_events (s : State) : s.startRevolution.events = s.events := rfl
@[simp] theorem State.startRevolution_resetAsserted (s : State) : s.startRevolution.resetAsserted = s.resetAsserted := rfl
@[simp] theorem State.startRevolution_pending (s : State) : s.startRevolution.pending = s.pending := rfl

@[simp] theorem State.grantHub_map (m : Arm) (s : State) : (s.grantHub m).map = s.map := rfl
@[simp] theorem State.grantHub_tracker (m : Arm) (s : State) : (s.grantHub m).tracker = s.tracker := rfl
@[simp] theorem State.grantHub_press (m : Arm) (s : State) : (s.grantHub m).press = s.press := rfl
@[simp] theorem State.grantHub_cond (m : Arm) (s : State) : (s.grantHub m).cond = s.cond := rfl
@[simp] theorem State.grantHub_slurry (m : Arm) (s : State) : (s.grantHub m).slurry = s.slurry := rfl
@[simp] theorem State.grantHub_matrix (m : Arm) (s : State) : (s.grantHub m).matrix = s.matrix := rfl
@[simp] theorem State.grantHub_links (m : Arm) (s : State) : (s.grantHub m).links = s.links := rfl
@[simp] theorem State.grantHub_settings (m : Arm) (s : State) : (s.grantHub m).settings = s.settings := rfl
@[simp] theorem State.grantHub_events (m : Arm) (s : State) : (s.grantHub m).events = s.events := rfl
@[simp] theorem State.grantHub_resetAsserted (m : Arm) (s : State) : (s.grantHub m).resetAsserted = s.resetAsserted := rfl
@[simp] theorem State.grantHub_pending (m : Arm) (s : State) : (s.grantHub m).pending = s.pending := rfl

@[simp] theorem State.tellGrant_map (m : Arm) (s : State) : (s.tellGrant m).map = s.map := by cases m <;> rfl
@[simp] theorem State.tellGrant_tracker (m : Arm) (s : State) : (s.tellGrant m).tracker = s.tracker := by
  cases m <;> rfl
@[simp] theorem State.tellGrant_hub (m : Arm) (s : State) : (s.tellGrant m).hub = s.hub := by cases m <;> rfl
@[simp] theorem State.tellGrant_press (m : Arm) (s : State) : (s.tellGrant m).press = s.press := by cases m <;> rfl
@[simp] theorem State.tellGrant_cond (m : Arm) (s : State) : (s.tellGrant m).cond = s.cond := by cases m <;> rfl
@[simp] theorem State.tellGrant_slurry (m : Arm) (s : State) : (s.tellGrant m).slurry = s.slurry := by cases m <;> rfl
@[simp] theorem State.tellGrant_matrix (m : Arm) (s : State) : (s.tellGrant m).matrix = s.matrix := by cases m <;> rfl
@[simp] theorem State.tellGrant_settings (m : Arm) (s : State) : (s.tellGrant m).settings = s.settings := by
  cases m <;> rfl
@[simp] theorem State.tellGrant_resetAsserted (m : Arm) (s : State) : (s.tellGrant m).resetAsserted = s.resetAsserted := by
  cases m <;> rfl
@[simp] theorem State.tellGrant_pending (m : Arm) (s : State) : (s.tellGrant m).pending = s.pending := by
  cases m <;> rfl

@[simp] theorem State.tellLoss_map (m : Arm) (s : State) : (s.tellLoss m).map = s.map := by cases m <;> rfl
@[simp] theorem State.tellLoss_tracker (m : Arm) (s : State) : (s.tellLoss m).tracker = s.tracker := by cases m <;> rfl
@[simp] theorem State.tellLoss_hub (m : Arm) (s : State) : (s.tellLoss m).hub = s.hub := by cases m <;> rfl
@[simp] theorem State.tellLoss_press (m : Arm) (s : State) : (s.tellLoss m).press = s.press := by cases m <;> rfl
@[simp] theorem State.tellLoss_cond (m : Arm) (s : State) : (s.tellLoss m).cond = s.cond := by cases m <;> rfl
@[simp] theorem State.tellLoss_slurry (m : Arm) (s : State) : (s.tellLoss m).slurry = s.slurry := by cases m <;> rfl
@[simp] theorem State.tellLoss_matrix (m : Arm) (s : State) : (s.tellLoss m).matrix = s.matrix := by cases m <;> rfl
@[simp] theorem State.tellLoss_settings (m : Arm) (s : State) : (s.tellLoss m).settings = s.settings := by
  cases m <;> rfl
@[simp] theorem State.tellLoss_resetAsserted (m : Arm) (s : State) : (s.tellLoss m).resetAsserted = s.resetAsserted := by
  cases m <;> rfl
@[simp] theorem State.tellLoss_pending (m : Arm) (s : State) : (s.tellLoss m).pending = s.pending := by cases m <;> rfl

@[simp] theorem State.endGrant_map (s : State) : s.endGrant.map = s.map := by
  simp only [State.endGrant]; split <;> simp
@[simp] theorem State.endGrant_tracker (s : State) : s.endGrant.tracker = s.tracker := by
  simp only [State.endGrant]; split <;> simp
@[simp] theorem State.endGrant_press (s : State) : s.endGrant.press = s.press := by
  simp only [State.endGrant]; split <;> simp
@[simp] theorem State.endGrant_cond (s : State) : s.endGrant.cond = s.cond := by
  simp only [State.endGrant]; split <;> simp
@[simp] theorem State.endGrant_slurry (s : State) : s.endGrant.slurry = s.slurry := by
  simp only [State.endGrant]; split <;> simp
@[simp] theorem State.endGrant_matrix (s : State) : s.endGrant.matrix = s.matrix := by
  simp only [State.endGrant]; split <;> simp
@[simp] theorem State.endGrant_settings (s : State) : s.endGrant.settings = s.settings := by
  simp only [State.endGrant]; split <;> simp
@[simp] theorem State.endGrant_resetAsserted (s : State) : s.endGrant.resetAsserted = s.resetAsserted := by
  simp only [State.endGrant]; split <;> simp
@[simp] theorem State.endGrant_pending (s : State) : s.endGrant.pending = s.pending := by
  simp only [State.endGrant]; split <;> simp

@[simp] theorem State.withdrawClaim_map (m : Arm) (s : State) : (s.withdrawClaim m).map = s.map := rfl
@[simp] theorem State.withdrawClaim_tracker (m : Arm) (s : State) : (s.withdrawClaim m).tracker = s.tracker := rfl
@[simp] theorem State.withdrawClaim_press (m : Arm) (s : State) : (s.withdrawClaim m).press = s.press := rfl
@[simp] theorem State.withdrawClaim_cond (m : Arm) (s : State) : (s.withdrawClaim m).cond = s.cond := rfl
@[simp] theorem State.withdrawClaim_slurry (m : Arm) (s : State) : (s.withdrawClaim m).slurry = s.slurry := rfl
@[simp] theorem State.withdrawClaim_matrix (m : Arm) (s : State) : (s.withdrawClaim m).matrix = s.matrix := rfl
@[simp] theorem State.withdrawClaim_links (m : Arm) (s : State) : (s.withdrawClaim m).links = s.links := rfl
@[simp] theorem State.withdrawClaim_settings (m : Arm) (s : State) : (s.withdrawClaim m).settings = s.settings := rfl
@[simp] theorem State.withdrawClaim_events (m : Arm) (s : State) : (s.withdrawClaim m).events = s.events := rfl
@[simp] theorem State.withdrawClaim_resetAsserted (m : Arm) (s : State) : (s.withdrawClaim m).resetAsserted = s.resetAsserted := rfl
@[simp] theorem State.withdrawClaim_pending (m : Arm) (s : State) : (s.withdrawClaim m).pending = s.pending := rfl

@[simp] theorem State.claimHub_map (m : Arm) (s : State) : (s.claimHub m).2.map = s.map := by
  simp only [State.claimHub]; repeat' split
  all_goals simp
@[simp] theorem State.claimHub_tracker (m : Arm) (s : State) : (s.claimHub m).2.tracker = s.tracker := by
  simp only [State.claimHub]; repeat' split
  all_goals simp
@[simp] theorem State.claimHub_press (m : Arm) (s : State) : (s.claimHub m).2.press = s.press := by
  simp only [State.claimHub]; repeat' split
  all_goals simp
@[simp] theorem State.claimHub_cond (m : Arm) (s : State) : (s.claimHub m).2.cond = s.cond := by
  simp only [State.claimHub]; repeat' split
  all_goals simp
@[simp] theorem State.claimHub_slurry (m : Arm) (s : State) : (s.claimHub m).2.slurry = s.slurry := by
  simp only [State.claimHub]; repeat' split
  all_goals simp
@[simp] theorem State.claimHub_matrix (m : Arm) (s : State) : (s.claimHub m).2.matrix = s.matrix := by
  simp only [State.claimHub]; repeat' split
  all_goals simp
@[simp] theorem State.claimHub_links (m : Arm) (s : State) : (s.claimHub m).2.links = s.links := by
  simp only [State.claimHub]; repeat' split
  all_goals simp
@[simp] theorem State.claimHub_settings (m : Arm) (s : State) : (s.claimHub m).2.settings = s.settings := by
  simp only [State.claimHub]; repeat' split
  all_goals simp
@[simp] theorem State.claimHub_events (m : Arm) (s : State) : (s.claimHub m).2.events = s.events := by
  simp only [State.claimHub]; repeat' split
  all_goals simp
@[simp] theorem State.claimHub_resetAsserted (m : Arm) (s : State) : (s.claimHub m).2.resetAsserted = s.resetAsserted := by
  simp only [State.claimHub]; repeat' split
  all_goals simp
@[simp] theorem State.claimHub_pending (m : Arm) (s : State) : (s.claimHub m).2.pending = s.pending := by
  simp only [State.claimHub]; repeat' split
  all_goals simp

@[simp] theorem State.releaseHub_map (m : Arm) (s : State) : (s.releaseHub m).2.map = s.map := by
  simp only [State.releaseHub]; repeat' split
  all_goals simp
@[simp] theorem State.releaseHub_tracker (m : Arm) (s : State) : (s.releaseHub m).2.tracker = s.tracker := by
  simp only [State.releaseHub]; repeat' split
  all_goals simp
@[simp] theorem State.releaseHub_press (m : Arm) (s : State) : (s.releaseHub m).2.press = s.press := by
  simp only [State.releaseHub]; repeat' split
  all_goals simp
@[simp] theorem State.releaseHub_cond (m : Arm) (s : State) : (s.releaseHub m).2.cond = s.cond := by
  simp only [State.releaseHub]; repeat' split
  all_goals simp
@[simp] theorem State.releaseHub_slurry (m : Arm) (s : State) : (s.releaseHub m).2.slurry = s.slurry := by
  simp only [State.releaseHub]; repeat' split
  all_goals simp
@[simp] theorem State.releaseHub_matrix (m : Arm) (s : State) : (s.releaseHub m).2.matrix = s.matrix := by
  simp only [State.releaseHub]; repeat' split
  all_goals simp
@[simp] theorem State.releaseHub_settings (m : Arm) (s : State) : (s.releaseHub m).2.settings = s.settings := by
  simp only [State.releaseHub]; repeat' split
  all_goals simp
@[simp] theorem State.releaseHub_resetAsserted (m : Arm) (s : State) : (s.releaseHub m).2.resetAsserted = s.resetAsserted := by
  simp only [State.releaseHub]; repeat' split
  all_goals simp
@[simp] theorem State.releaseHub_pending (m : Arm) (s : State) : (s.releaseHub m).2.pending = s.pending := by
  simp only [State.releaseHub]; repeat' split
  all_goals simp

@[simp] theorem State.deriveDrive_map (l : Lane) (s : State) : (s.deriveDrive l).map = s.map := rfl
@[simp] theorem State.deriveDrive_tracker (l : Lane) (s : State) : (s.deriveDrive l).tracker = s.tracker := rfl
@[simp] theorem State.deriveDrive_hub (l : Lane) (s : State) : (s.deriveDrive l).hub = s.hub := rfl
@[simp] theorem State.deriveDrive_cond (l : Lane) (s : State) : (s.deriveDrive l).cond = s.cond := rfl
@[simp] theorem State.deriveDrive_slurry (l : Lane) (s : State) : (s.deriveDrive l).slurry = s.slurry := rfl
@[simp] theorem State.deriveDrive_matrix (l : Lane) (s : State) : (s.deriveDrive l).matrix = s.matrix := rfl
@[simp] theorem State.deriveDrive_links (l : Lane) (s : State) : (s.deriveDrive l).links = s.links := rfl
@[simp] theorem State.deriveDrive_settings (l : Lane) (s : State) : (s.deriveDrive l).settings = s.settings := rfl
@[simp] theorem State.deriveDrive_events (l : Lane) (s : State) : (s.deriveDrive l).events = s.events := rfl
@[simp] theorem State.deriveDrive_resetAsserted (l : Lane) (s : State) : (s.deriveDrive l).resetAsserted = s.resetAsserted := rfl
@[simp] theorem State.deriveDrive_pending (l : Lane) (s : State) : (s.deriveDrive l).pending = s.pending := rfl

@[simp] theorem State.deriveTargets_map (l : Lane) (s : State) : (s.deriveTargets l).map = s.map := rfl
@[simp] theorem State.deriveTargets_tracker (l : Lane) (s : State) : (s.deriveTargets l).tracker = s.tracker := rfl
@[simp] theorem State.deriveTargets_hub (l : Lane) (s : State) : (s.deriveTargets l).hub = s.hub := rfl
@[simp] theorem State.deriveTargets_cond (l : Lane) (s : State) : (s.deriveTargets l).cond = s.cond := rfl
@[simp] theorem State.deriveTargets_slurry (l : Lane) (s : State) : (s.deriveTargets l).slurry = s.slurry := rfl
@[simp] theorem State.deriveTargets_matrix (l : Lane) (s : State) : (s.deriveTargets l).matrix = s.matrix := rfl
@[simp] theorem State.deriveTargets_links (l : Lane) (s : State) : (s.deriveTargets l).links = s.links := rfl
@[simp] theorem State.deriveTargets_settings (l : Lane) (s : State) : (s.deriveTargets l).settings = s.settings := rfl
@[simp] theorem State.deriveTargets_events (l : Lane) (s : State) : (s.deriveTargets l).events = s.events := rfl
@[simp] theorem State.deriveTargets_resetAsserted (l : Lane) (s : State) : (s.deriveTargets l).resetAsserted = s.resetAsserted := rfl
@[simp] theorem State.deriveTargets_pending (l : Lane) (s : State) : (s.deriveTargets l).pending = s.pending := rfl

@[simp] theorem State.applyProfile_map (l : Lane) (s : State) : (s.applyProfile l).map = s.map := rfl
@[simp] theorem State.applyProfile_tracker (l : Lane) (s : State) : (s.applyProfile l).tracker = s.tracker := rfl
@[simp] theorem State.applyProfile_hub (l : Lane) (s : State) : (s.applyProfile l).hub = s.hub := rfl
@[simp] theorem State.applyProfile_cond (l : Lane) (s : State) : (s.applyProfile l).cond = s.cond := rfl
@[simp] theorem State.applyProfile_slurry (l : Lane) (s : State) : (s.applyProfile l).slurry = s.slurry := rfl
@[simp] theorem State.applyProfile_matrix (l : Lane) (s : State) : (s.applyProfile l).matrix = s.matrix := rfl
@[simp] theorem State.applyProfile_links (l : Lane) (s : State) : (s.applyProfile l).links = s.links := rfl
@[simp] theorem State.applyProfile_settings (l : Lane) (s : State) : (s.applyProfile l).settings = s.settings := rfl
@[simp] theorem State.applyProfile_events (l : Lane) (s : State) : (s.applyProfile l).events = s.events := rfl
@[simp] theorem State.applyProfile_resetAsserted (l : Lane) (s : State) : (s.applyProfile l).resetAsserted = s.resetAsserted := rfl
@[simp] theorem State.applyProfile_pending (l : Lane) (s : State) : (s.applyProfile l).pending = s.pending := rfl

@[simp] theorem State.recomputeGain_map (l : Lane) (s : State) : (s.recomputeGain l).map = s.map := rfl
@[simp] theorem State.recomputeGain_tracker (l : Lane) (s : State) : (s.recomputeGain l).tracker = s.tracker := rfl
@[simp] theorem State.recomputeGain_hub (l : Lane) (s : State) : (s.recomputeGain l).hub = s.hub := rfl
@[simp] theorem State.recomputeGain_cond (l : Lane) (s : State) : (s.recomputeGain l).cond = s.cond := rfl
@[simp] theorem State.recomputeGain_slurry (l : Lane) (s : State) : (s.recomputeGain l).slurry = s.slurry := rfl
@[simp] theorem State.recomputeGain_matrix (l : Lane) (s : State) : (s.recomputeGain l).matrix = s.matrix := rfl
@[simp] theorem State.recomputeGain_links (l : Lane) (s : State) : (s.recomputeGain l).links = s.links := rfl
@[simp] theorem State.recomputeGain_settings (l : Lane) (s : State) : (s.recomputeGain l).settings = s.settings := rfl
@[simp] theorem State.recomputeGain_events (l : Lane) (s : State) : (s.recomputeGain l).events = s.events := rfl
@[simp] theorem State.recomputeGain_resetAsserted (l : Lane) (s : State) : (s.recomputeGain l).resetAsserted = s.resetAsserted := rfl
@[simp] theorem State.recomputeGain_pending (l : Lane) (s : State) : (s.recomputeGain l).pending = s.pending := rfl

@[simp] theorem State.gainUpdate_map (l : Lane) (u : MapUpdated) (s : State) : (s.gainUpdate l u).map = s.map := rfl
@[simp] theorem State.gainUpdate_tracker (l : Lane) (u : MapUpdated) (s : State) : (s.gainUpdate l u).tracker = s.tracker := rfl
@[simp] theorem State.gainUpdate_hub (l : Lane) (u : MapUpdated) (s : State) : (s.gainUpdate l u).hub = s.hub := rfl
@[simp] theorem State.gainUpdate_cond (l : Lane) (u : MapUpdated) (s : State) : (s.gainUpdate l u).cond = s.cond := rfl
@[simp] theorem State.gainUpdate_slurry (l : Lane) (u : MapUpdated) (s : State) : (s.gainUpdate l u).slurry = s.slurry := rfl
@[simp] theorem State.gainUpdate_matrix (l : Lane) (u : MapUpdated) (s : State) : (s.gainUpdate l u).matrix = s.matrix := rfl
@[simp] theorem State.gainUpdate_links (l : Lane) (u : MapUpdated) (s : State) : (s.gainUpdate l u).links = s.links := rfl
@[simp] theorem State.gainUpdate_settings (l : Lane) (u : MapUpdated) (s : State) : (s.gainUpdate l u).settings = s.settings := rfl
@[simp] theorem State.gainUpdate_events (l : Lane) (u : MapUpdated) (s : State) : (s.gainUpdate l u).events = s.events := rfl
@[simp] theorem State.gainUpdate_resetAsserted (l : Lane) (u : MapUpdated) (s : State) : (s.gainUpdate l u).resetAsserted = s.resetAsserted := rfl
@[simp] theorem State.gainUpdate_pending (l : Lane) (u : MapUpdated) (s : State) : (s.gainUpdate l u).pending = s.pending := rfl

@[simp] theorem State.vent_map (l : Lane) (s : State) : (s.vent l).map = s.map := rfl
@[simp] theorem State.vent_tracker (l : Lane) (s : State) : (s.vent l).tracker = s.tracker := rfl
@[simp] theorem State.vent_hub (l : Lane) (s : State) : (s.vent l).hub = s.hub := rfl
@[simp] theorem State.vent_cond (l : Lane) (s : State) : (s.vent l).cond = s.cond := rfl
@[simp] theorem State.vent_slurry (l : Lane) (s : State) : (s.vent l).slurry = s.slurry := rfl
@[simp] theorem State.vent_matrix (l : Lane) (s : State) : (s.vent l).matrix = s.matrix := rfl
@[simp] theorem State.vent_links (l : Lane) (s : State) : (s.vent l).links = s.links := rfl
@[simp] theorem State.vent_settings (l : Lane) (s : State) : (s.vent l).settings = s.settings := rfl
@[simp] theorem State.vent_events (l : Lane) (s : State) : (s.vent l).events = s.events := rfl
@[simp] theorem State.vent_resetAsserted (l : Lane) (s : State) : (s.vent l).resetAsserted = s.resetAsserted := rfl
@[simp] theorem State.vent_pending (l : Lane) (s : State) : (s.vent l).pending = s.pending := rfl

@[simp] theorem State.updateLane_map (l : Lane) (w : Bool) (x : Six (BitVec 12)) (s : State) : (s.updateLane l w x).map = s.map := rfl
@[simp] theorem State.updateLane_tracker (l : Lane) (w : Bool) (x : Six (BitVec 12)) (s : State) : (s.updateLane l w x).tracker = s.tracker := rfl
@[simp] theorem State.updateLane_hub (l : Lane) (w : Bool) (x : Six (BitVec 12)) (s : State) : (s.updateLane l w x).hub = s.hub := rfl
@[simp] theorem State.updateLane_cond (l : Lane) (w : Bool) (x : Six (BitVec 12)) (s : State) : (s.updateLane l w x).cond = s.cond := rfl
@[simp] theorem State.updateLane_slurry (l : Lane) (w : Bool) (x : Six (BitVec 12)) (s : State) : (s.updateLane l w x).slurry = s.slurry := rfl
@[simp] theorem State.updateLane_matrix (l : Lane) (w : Bool) (x : Six (BitVec 12)) (s : State) : (s.updateLane l w x).matrix = s.matrix := rfl
@[simp] theorem State.updateLane_links (l : Lane) (w : Bool) (x : Six (BitVec 12)) (s : State) : (s.updateLane l w x).links = s.links := rfl
@[simp] theorem State.updateLane_settings (l : Lane) (w : Bool) (x : Six (BitVec 12)) (s : State) : (s.updateLane l w x).settings = s.settings := rfl
@[simp] theorem State.updateLane_events (l : Lane) (w : Bool) (x : Six (BitVec 12)) (s : State) : (s.updateLane l w x).events = s.events := rfl
@[simp] theorem State.updateLane_resetAsserted (l : Lane) (w : Bool) (x : Six (BitVec 12)) (s : State) : (s.updateLane l w x).resetAsserted = s.resetAsserted := rfl
@[simp] theorem State.updateLane_pending (l : Lane) (w : Bool) (x : Six (BitVec 12)) (s : State) : (s.updateLane l w x).pending = s.pending := rfl

@[simp] theorem State.recompute_map (s : State) : s.recompute.map = s.map := rfl
@[simp] theorem State.recompute_tracker (s : State) : s.recompute.tracker = s.tracker := rfl
@[simp] theorem State.recompute_hub (s : State) : s.recompute.hub = s.hub := rfl
@[simp] theorem State.recompute_press (s : State) : s.recompute.press = s.press := rfl
@[simp] theorem State.recompute_cond (s : State) : s.recompute.cond = s.cond := rfl
@[simp] theorem State.recompute_matrix (s : State) : s.recompute.matrix = s.matrix := rfl
@[simp] theorem State.recompute_links (s : State) : s.recompute.links = s.links := rfl
@[simp] theorem State.recompute_settings (s : State) : s.recompute.settings = s.settings := rfl
@[simp] theorem State.recompute_events (s : State) : s.recompute.events = s.events := rfl
@[simp] theorem State.recompute_resetAsserted (s : State) : s.recompute.resetAsserted = s.resetAsserted := rfl
@[simp] theorem State.recompute_pending (s : State) : s.recompute.pending = s.pending := rfl

@[simp] theorem State.setFeed_map (l : Lane) (f : Option Line) (b : Bool) (s : State) : (s.setFeed l f b).map = s.map := rfl
@[simp] theorem State.setFeed_tracker (l : Lane) (f : Option Line) (b : Bool) (s : State) : (s.setFeed l f b).tracker = s.tracker := rfl
@[simp] theorem State.setFeed_hub (l : Lane) (f : Option Line) (b : Bool) (s : State) : (s.setFeed l f b).hub = s.hub := rfl
@[simp] theorem State.setFeed_press (l : Lane) (f : Option Line) (b : Bool) (s : State) : (s.setFeed l f b).press = s.press := rfl
@[simp] theorem State.setFeed_cond (l : Lane) (f : Option Line) (b : Bool) (s : State) : (s.setFeed l f b).cond = s.cond := rfl
@[simp] theorem State.setFeed_matrix (l : Lane) (f : Option Line) (b : Bool) (s : State) : (s.setFeed l f b).matrix = s.matrix := rfl
@[simp] theorem State.setFeed_links (l : Lane) (f : Option Line) (b : Bool) (s : State) : (s.setFeed l f b).links = s.links := rfl
@[simp] theorem State.setFeed_settings (l : Lane) (f : Option Line) (b : Bool) (s : State) : (s.setFeed l f b).settings = s.settings := rfl
@[simp] theorem State.setFeed_events (l : Lane) (f : Option Line) (b : Bool) (s : State) : (s.setFeed l f b).events = s.events := rfl
@[simp] theorem State.setFeed_resetAsserted (l : Lane) (f : Option Line) (b : Bool) (s : State) : (s.setFeed l f b).resetAsserted = s.resetAsserted := rfl
@[simp] theorem State.setFeed_pending (l : Lane) (f : Option Line) (b : Bool) (s : State) : (s.setFeed l f b).pending = s.pending := rfl

@[simp] theorem State.emptyBar_map (l : Lane) (s : State) : (s.emptyBar l).map = s.map := rfl
@[simp] theorem State.emptyBar_tracker (l : Lane) (s : State) : (s.emptyBar l).tracker = s.tracker := rfl
@[simp] theorem State.emptyBar_hub (l : Lane) (s : State) : (s.emptyBar l).hub = s.hub := rfl
@[simp] theorem State.emptyBar_press (l : Lane) (s : State) : (s.emptyBar l).press = s.press := rfl
@[simp] theorem State.emptyBar_cond (l : Lane) (s : State) : (s.emptyBar l).cond = s.cond := rfl
@[simp] theorem State.emptyBar_matrix (l : Lane) (s : State) : (s.emptyBar l).matrix = s.matrix := rfl
@[simp] theorem State.emptyBar_links (l : Lane) (s : State) : (s.emptyBar l).links = s.links := rfl
@[simp] theorem State.emptyBar_settings (l : Lane) (s : State) : (s.emptyBar l).settings = s.settings := rfl
@[simp] theorem State.emptyBar_events (l : Lane) (s : State) : (s.emptyBar l).events = s.events := rfl
@[simp] theorem State.emptyBar_resetAsserted (l : Lane) (s : State) : (s.emptyBar l).resetAsserted = s.resetAsserted := rfl
@[simp] theorem State.emptyBar_pending (l : Lane) (s : State) : (s.emptyBar l).pending = s.pending := rfl

@[simp] theorem State.emptyBothBars_map (s : State) : s.emptyBothBars.map = s.map := rfl
@[simp] theorem State.emptyBothBars_tracker (s : State) : s.emptyBothBars.tracker = s.tracker := rfl
@[simp] theorem State.emptyBothBars_hub (s : State) : s.emptyBothBars.hub = s.hub := rfl
@[simp] theorem State.emptyBothBars_press (s : State) : s.emptyBothBars.press = s.press := rfl
@[simp] theorem State.emptyBothBars_cond (s : State) : s.emptyBothBars.cond = s.cond := rfl
@[simp] theorem State.emptyBothBars_matrix (s : State) : s.emptyBothBars.matrix = s.matrix := rfl
@[simp] theorem State.emptyBothBars_links (s : State) : s.emptyBothBars.links = s.links := rfl
@[simp] theorem State.emptyBothBars_settings (s : State) : s.emptyBothBars.settings = s.settings := rfl
@[simp] theorem State.emptyBothBars_events (s : State) : s.emptyBothBars.events = s.events := rfl
@[simp] theorem State.emptyBothBars_resetAsserted (s : State) : s.emptyBothBars.resetAsserted = s.resetAsserted := rfl
@[simp] theorem State.emptyBothBars_pending (s : State) : s.emptyBothBars.pending = s.pending := rfl

@[simp] theorem State.linesOff_map (s : State) : s.linesOff.map = s.map := rfl
@[simp] theorem State.linesOff_tracker (s : State) : s.linesOff.tracker = s.tracker := rfl
@[simp] theorem State.linesOff_hub (s : State) : s.linesOff.hub = s.hub := rfl
@[simp] theorem State.linesOff_press (s : State) : s.linesOff.press = s.press := rfl
@[simp] theorem State.linesOff_cond (s : State) : s.linesOff.cond = s.cond := rfl
@[simp] theorem State.linesOff_matrix (s : State) : s.linesOff.matrix = s.matrix := rfl
@[simp] theorem State.linesOff_links (s : State) : s.linesOff.links = s.links := rfl
@[simp] theorem State.linesOff_settings (s : State) : s.linesOff.settings = s.settings := rfl
@[simp] theorem State.linesOff_events (s : State) : s.linesOff.events = s.events := rfl
@[simp] theorem State.linesOff_resetAsserted (s : State) : s.linesOff.resetAsserted = s.resetAsserted := rfl
@[simp] theorem State.linesOff_pending (s : State) : s.linesOff.pending = s.pending := rfl

@[simp] theorem State.slurryStop_map (s : State) : s.slurryStop.map = s.map := rfl
@[simp] theorem State.slurryStop_tracker (s : State) : s.slurryStop.tracker = s.tracker := rfl
@[simp] theorem State.slurryStop_hub (s : State) : s.slurryStop.hub = s.hub := rfl
@[simp] theorem State.slurryStop_press (s : State) : s.slurryStop.press = s.press := rfl
@[simp] theorem State.slurryStop_cond (s : State) : s.slurryStop.cond = s.cond := rfl
@[simp] theorem State.slurryStop_matrix (s : State) : s.slurryStop.matrix = s.matrix := rfl
@[simp] theorem State.slurryStop_links (s : State) : s.slurryStop.links = s.links := rfl
@[simp] theorem State.slurryStop_settings (s : State) : s.slurryStop.settings = s.settings := rfl
@[simp] theorem State.slurryStop_events (s : State) : s.slurryStop.events = s.events := rfl
@[simp] theorem State.slurryStop_resetAsserted (s : State) : s.slurryStop.resetAsserted = s.resetAsserted := rfl
@[simp] theorem State.slurryStop_pending (s : State) : s.slurryStop.pending = s.pending := rfl

@[simp] theorem State.slurryRestart_map (s : State) : s.slurryRestart.map = s.map := rfl
@[simp] theorem State.slurryRestart_tracker (s : State) : s.slurryRestart.tracker = s.tracker := rfl
@[simp] theorem State.slurryRestart_hub (s : State) : s.slurryRestart.hub = s.hub := rfl
@[simp] theorem State.slurryRestart_press (s : State) : s.slurryRestart.press = s.press := rfl
@[simp] theorem State.slurryRestart_cond (s : State) : s.slurryRestart.cond = s.cond := rfl
@[simp] theorem State.slurryRestart_matrix (s : State) : s.slurryRestart.matrix = s.matrix := rfl
@[simp] theorem State.slurryRestart_links (s : State) : s.slurryRestart.links = s.links := rfl
@[simp] theorem State.slurryRestart_settings (s : State) : s.slurryRestart.settings = s.settings := rfl
@[simp] theorem State.slurryRestart_events (s : State) : s.slurryRestart.events = s.events := rfl
@[simp] theorem State.slurryRestart_resetAsserted (s : State) : s.slurryRestart.resetAsserted = s.resetAsserted := rfl
@[simp] theorem State.slurryRestart_pending (s : State) : s.slurryRestart.pending = s.pending := rfl

@[simp] theorem State.moveBar_map (k : Line) (l : Lane) (s : State) : (s.moveBar k l).map = s.map := by
  simp only [State.moveBar]; repeat' split
  all_goals simp
@[simp] theorem State.moveBar_tracker (k : Line) (l : Lane) (s : State) : (s.moveBar k l).tracker = s.tracker := by
  simp only [State.moveBar]; repeat' split
  all_goals simp
@[simp] theorem State.moveBar_hub (k : Line) (l : Lane) (s : State) : (s.moveBar k l).hub = s.hub := by
  simp only [State.moveBar]; repeat' split
  all_goals simp
@[simp] theorem State.moveBar_press (k : Line) (l : Lane) (s : State) : (s.moveBar k l).press = s.press := by
  simp only [State.moveBar]; repeat' split
  all_goals simp
@[simp] theorem State.moveBar_cond (k : Line) (l : Lane) (s : State) : (s.moveBar k l).cond = s.cond := by
  simp only [State.moveBar]; repeat' split
  all_goals simp
@[simp] theorem State.moveBar_matrix (k : Line) (l : Lane) (s : State) : (s.moveBar k l).matrix = s.matrix := by
  simp only [State.moveBar]; repeat' split
  all_goals simp
@[simp] theorem State.moveBar_settings (k : Line) (l : Lane) (s : State) : (s.moveBar k l).settings = s.settings := by
  simp only [State.moveBar]; repeat' split
  all_goals simp
@[simp] theorem State.moveBar_events (k : Line) (l : Lane) (s : State) : (s.moveBar k l).events = s.events := by
  simp only [State.moveBar]; repeat' split
  all_goals simp
@[simp] theorem State.moveBar_resetAsserted (k : Line) (l : Lane) (s : State) : (s.moveBar k l).resetAsserted = s.resetAsserted := by
  simp only [State.moveBar]; repeat' split
  all_goals simp
@[simp] theorem State.moveBar_pending (k : Line) (l : Lane) (s : State) : (s.moveBar k l).pending = s.pending := by
  simp only [State.moveBar]; repeat' split
  all_goals simp

@[simp] theorem State.lineStops_map (k : Line) (s : State) : (s.lineStops k).map = s.map := by simp [State.lineStops]
@[simp] theorem State.lineStops_tracker (k : Line) (s : State) : (s.lineStops k).tracker = s.tracker := by
  simp [State.lineStops]
@[simp] theorem State.lineStops_hub (k : Line) (s : State) : (s.lineStops k).hub = s.hub := by simp [State.lineStops]
@[simp] theorem State.lineStops_press (k : Line) (s : State) : (s.lineStops k).press = s.press := by
  simp [State.lineStops]
@[simp] theorem State.lineStops_cond (k : Line) (s : State) : (s.lineStops k).cond = s.cond := by
  simp [State.lineStops]
@[simp] theorem State.lineStops_matrix (k : Line) (s : State) : (s.lineStops k).matrix = s.matrix := by
  simp [State.lineStops]
@[simp] theorem State.lineStops_settings (k : Line) (s : State) : (s.lineStops k).settings = s.settings := by
  simp [State.lineStops]
@[simp] theorem State.lineStops_events (k : Line) (s : State) : (s.lineStops k).events = s.events := by
  simp [State.lineStops]
@[simp] theorem State.lineStops_resetAsserted (k : Line) (s : State) : (s.lineStops k).resetAsserted = s.resetAsserted := by
  simp [State.lineStops]
@[simp] theorem State.lineStops_pending (k : Line) (s : State) : (s.lineStops k).pending = s.pending := by
  simp [State.lineStops]

@[simp] theorem State.condEnter_map (c : CondState) (s : State) : (s.condEnter c).map = s.map := rfl
@[simp] theorem State.condEnter_tracker (c : CondState) (s : State) : (s.condEnter c).tracker = s.tracker := rfl
@[simp] theorem State.condEnter_hub (c : CondState) (s : State) : (s.condEnter c).hub = s.hub := rfl
@[simp] theorem State.condEnter_press (c : CondState) (s : State) : (s.condEnter c).press = s.press := rfl
@[simp] theorem State.condEnter_slurry (c : CondState) (s : State) : (s.condEnter c).slurry = s.slurry := rfl
@[simp] theorem State.condEnter_matrix (c : CondState) (s : State) : (s.condEnter c).matrix = s.matrix := rfl
@[simp] theorem State.condEnter_links (c : CondState) (s : State) : (s.condEnter c).links = s.links := rfl
@[simp] theorem State.condEnter_settings (c : CondState) (s : State) : (s.condEnter c).settings = s.settings := rfl
@[simp] theorem State.condEnter_events (c : CondState) (s : State) : (s.condEnter c).events = s.events := rfl
@[simp] theorem State.condEnter_resetAsserted (c : CondState) (s : State) : (s.condEnter c).resetAsserted = s.resetAsserted := rfl
@[simp] theorem State.condEnter_pending (c : CondState) (s : State) : (s.condEnter c).pending = s.pending := rfl

@[simp] theorem State.setTarget_map (t : Option CondTarget) (s : State) : (s.setTarget t).map = s.map := rfl
@[simp] theorem State.setTarget_tracker (t : Option CondTarget) (s : State) : (s.setTarget t).tracker = s.tracker := rfl
@[simp] theorem State.setTarget_hub (t : Option CondTarget) (s : State) : (s.setTarget t).hub = s.hub := rfl
@[simp] theorem State.setTarget_press (t : Option CondTarget) (s : State) : (s.setTarget t).press = s.press := rfl
@[simp] theorem State.setTarget_slurry (t : Option CondTarget) (s : State) : (s.setTarget t).slurry = s.slurry := rfl
@[simp] theorem State.setTarget_matrix (t : Option CondTarget) (s : State) : (s.setTarget t).matrix = s.matrix := rfl
@[simp] theorem State.setTarget_links (t : Option CondTarget) (s : State) : (s.setTarget t).links = s.links := rfl
@[simp] theorem State.setTarget_settings (t : Option CondTarget) (s : State) : (s.setTarget t).settings = s.settings := rfl
@[simp] theorem State.setTarget_events (t : Option CondTarget) (s : State) : (s.setTarget t).events = s.events := rfl
@[simp] theorem State.setTarget_resetAsserted (t : Option CondTarget) (s : State) : (s.setTarget t).resetAsserted = s.resetAsserted := rfl
@[simp] theorem State.setTarget_pending (t : Option CondTarget) (s : State) : (s.setTarget t).pending = s.pending := rfl

@[simp] theorem State.startLift_map (p : LiftPurpose) (s : State) : (s.startLift p).map = s.map := rfl
@[simp] theorem State.startLift_tracker (p : LiftPurpose) (s : State) : (s.startLift p).tracker = s.tracker := rfl
@[simp] theorem State.startLift_hub (p : LiftPurpose) (s : State) : (s.startLift p).hub = s.hub := rfl
@[simp] theorem State.startLift_press (p : LiftPurpose) (s : State) : (s.startLift p).press = s.press := rfl
@[simp] theorem State.startLift_slurry (p : LiftPurpose) (s : State) : (s.startLift p).slurry = s.slurry := rfl
@[simp] theorem State.startLift_matrix (p : LiftPurpose) (s : State) : (s.startLift p).matrix = s.matrix := rfl
@[simp] theorem State.startLift_links (p : LiftPurpose) (s : State) : (s.startLift p).links = s.links := rfl
@[simp] theorem State.startLift_settings (p : LiftPurpose) (s : State) : (s.startLift p).settings = s.settings := rfl
@[simp] theorem State.startLift_events (p : LiftPurpose) (s : State) : (s.startLift p).events = s.events := rfl
@[simp] theorem State.startLift_resetAsserted (p : LiftPurpose) (s : State) : (s.startLift p).resetAsserted = s.resetAsserted := rfl
@[simp] theorem State.startLift_pending (p : LiftPurpose) (s : State) : (s.startLift p).pending = s.pending := rfl

@[simp] theorem State.startSettle_map (s : State) : s.startSettle.map = s.map := by
  simp only [State.startSettle]; repeat' split
  all_goals simp
@[simp] theorem State.startSettle_tracker (s : State) : s.startSettle.tracker = s.tracker := by
  simp only [State.startSettle]; repeat' split
  all_goals simp
@[simp] theorem State.startSettle_hub (s : State) : s.startSettle.hub = s.hub := by
  simp only [State.startSettle]; repeat' split
  all_goals simp
@[simp] theorem State.startSettle_press (s : State) : s.startSettle.press = s.press := by
  simp only [State.startSettle]; repeat' split
  all_goals simp
@[simp] theorem State.startSettle_slurry (s : State) : s.startSettle.slurry = s.slurry := by
  simp only [State.startSettle]; repeat' split
  all_goals simp
@[simp] theorem State.startSettle_matrix (s : State) : s.startSettle.matrix = s.matrix := by
  simp only [State.startSettle]; repeat' split
  all_goals simp
@[simp] theorem State.startSettle_links (s : State) : s.startSettle.links = s.links := by
  simp only [State.startSettle]; repeat' split
  all_goals simp
@[simp] theorem State.startSettle_settings (s : State) : s.startSettle.settings = s.settings := by
  simp only [State.startSettle]; repeat' split
  all_goals simp
@[simp] theorem State.startSettle_events (s : State) : s.startSettle.events = s.events := by
  simp only [State.startSettle]; repeat' split
  all_goals simp
@[simp] theorem State.startSettle_resetAsserted (s : State) : s.startSettle.resetAsserted = s.resetAsserted := by
  simp only [State.startSettle]; repeat' split
  all_goals simp
@[simp] theorem State.startSettle_pending (s : State) : s.startSettle.pending = s.pending := by
  simp only [State.startSettle]; repeat' split
  all_goals simp

@[simp] theorem State.startMove_map (c : CondState) (s : State) : (s.startMove c).map = s.map := by
  simp [State.startMove]
@[simp] theorem State.startMove_tracker (c : CondState) (s : State) : (s.startMove c).tracker = s.tracker := by
  simp [State.startMove]
@[simp] theorem State.startMove_hub (c : CondState) (s : State) : (s.startMove c).hub = s.hub := by
  simp [State.startMove]
@[simp] theorem State.startMove_press (c : CondState) (s : State) : (s.startMove c).press = s.press := by
  simp [State.startMove]
@[simp] theorem State.startMove_slurry (c : CondState) (s : State) : (s.startMove c).slurry = s.slurry := by
  simp [State.startMove]
@[simp] theorem State.startMove_matrix (c : CondState) (s : State) : (s.startMove c).matrix = s.matrix := by
  simp [State.startMove]
@[simp] theorem State.startMove_links (c : CondState) (s : State) : (s.startMove c).links = s.links := by
  simp [State.startMove]
@[simp] theorem State.startMove_settings (c : CondState) (s : State) : (s.startMove c).settings = s.settings := by
  simp [State.startMove]
@[simp] theorem State.startMove_events (c : CondState) (s : State) : (s.startMove c).events = s.events := by
  simp [State.startMove]
@[simp] theorem State.startMove_resetAsserted (c : CondState) (s : State) : (s.startMove c).resetAsserted = s.resetAsserted := by
  simp [State.startMove]
@[simp] theorem State.startMove_pending (c : CondState) (s : State) : (s.startMove c).pending = s.pending := by
  simp [State.startMove]

@[simp] theorem State.startStroke_map (d : SweepDir) (s : State) : (s.startStroke d).map = s.map := by
  simp [State.startStroke]
@[simp] theorem State.startStroke_tracker (d : SweepDir) (s : State) : (s.startStroke d).tracker = s.tracker := by
  simp [State.startStroke]
@[simp] theorem State.startStroke_hub (d : SweepDir) (s : State) : (s.startStroke d).hub = s.hub := by
  simp [State.startStroke]
@[simp] theorem State.startStroke_press (d : SweepDir) (s : State) : (s.startStroke d).press = s.press := by
  simp [State.startStroke]
@[simp] theorem State.startStroke_slurry (d : SweepDir) (s : State) : (s.startStroke d).slurry = s.slurry := by
  simp [State.startStroke]
@[simp] theorem State.startStroke_matrix (d : SweepDir) (s : State) : (s.startStroke d).matrix = s.matrix := by
  simp [State.startStroke]
@[simp] theorem State.startStroke_links (d : SweepDir) (s : State) : (s.startStroke d).links = s.links := by
  simp [State.startStroke]
@[simp] theorem State.startStroke_settings (d : SweepDir) (s : State) : (s.startStroke d).settings = s.settings := by
  simp [State.startStroke]
@[simp] theorem State.startStroke_events (d : SweepDir) (s : State) : (s.startStroke d).events = s.events := by
  simp [State.startStroke]
@[simp] theorem State.startStroke_resetAsserted (d : SweepDir) (s : State) : (s.startStroke d).resetAsserted = s.resetAsserted := by
  simp [State.startStroke]
@[simp] theorem State.startStroke_pending (d : SweepDir) (s : State) : (s.startStroke d).pending = s.pending := by
  simp [State.startStroke]

@[simp] theorem State.dropGrant_map (s : State) : s.dropGrant.map = s.map := rfl
@[simp] theorem State.dropGrant_tracker (s : State) : s.dropGrant.tracker = s.tracker := rfl
@[simp] theorem State.dropGrant_hub (s : State) : s.dropGrant.hub = s.hub := rfl
@[simp] theorem State.dropGrant_press (s : State) : s.dropGrant.press = s.press := rfl
@[simp] theorem State.dropGrant_cond (s : State) : s.dropGrant.cond = s.cond := rfl
@[simp] theorem State.dropGrant_slurry (s : State) : s.dropGrant.slurry = s.slurry := rfl
@[simp] theorem State.dropGrant_matrix (s : State) : s.dropGrant.matrix = s.matrix := rfl
@[simp] theorem State.dropGrant_links (s : State) : s.dropGrant.links = s.links := rfl
@[simp] theorem State.dropGrant_settings (s : State) : s.dropGrant.settings = s.settings := rfl
@[simp] theorem State.dropGrant_resetAsserted (s : State) : s.dropGrant.resetAsserted = s.resetAsserted := rfl
@[simp] theorem State.dropGrant_pending (s : State) : s.dropGrant.pending = s.pending := rfl

@[simp] theorem State.condGiveUp_map (s : State) : s.condGiveUp.map = s.map := by simp [State.condGiveUp]
@[simp] theorem State.condGiveUp_tracker (s : State) : s.condGiveUp.tracker = s.tracker := by simp [State.condGiveUp]
@[simp] theorem State.condGiveUp_press (s : State) : s.condGiveUp.press = s.press := by simp [State.condGiveUp]
@[simp] theorem State.condGiveUp_cond (s : State) : s.condGiveUp.cond = s.cond := by simp [State.condGiveUp]
@[simp] theorem State.condGiveUp_slurry (s : State) : s.condGiveUp.slurry = s.slurry := by simp [State.condGiveUp]
@[simp] theorem State.condGiveUp_matrix (s : State) : s.condGiveUp.matrix = s.matrix := by simp [State.condGiveUp]
@[simp] theorem State.condGiveUp_settings (s : State) : s.condGiveUp.settings = s.settings := by
  simp [State.condGiveUp]
@[simp] theorem State.condGiveUp_resetAsserted (s : State) : s.condGiveUp.resetAsserted = s.resetAsserted := by
  simp [State.condGiveUp]
@[simp] theorem State.condGiveUp_pending (s : State) : s.condGiveUp.pending = s.pending := by simp [State.condGiveUp]

@[simp] theorem State.beginWork_map (s : State) : s.beginWork.map = s.map := by
  simp only [State.beginWork]; split <;> simp
@[simp] theorem State.beginWork_tracker (s : State) : s.beginWork.tracker = s.tracker := by
  simp only [State.beginWork]; split <;> simp
@[simp] theorem State.beginWork_hub (s : State) : s.beginWork.hub = s.hub := by
  simp only [State.beginWork]; split <;> simp
@[simp] theorem State.beginWork_press (s : State) : s.beginWork.press = s.press := by
  simp only [State.beginWork]; split <;> simp
@[simp] theorem State.beginWork_slurry (s : State) : s.beginWork.slurry = s.slurry := by
  simp only [State.beginWork]; split <;> simp
@[simp] theorem State.beginWork_matrix (s : State) : s.beginWork.matrix = s.matrix := by
  simp only [State.beginWork]; split <;> simp
@[simp] theorem State.beginWork_links (s : State) : s.beginWork.links = s.links := by
  simp only [State.beginWork]; split <;> simp
@[simp] theorem State.beginWork_settings (s : State) : s.beginWork.settings = s.settings := by
  simp only [State.beginWork]; split <;> simp
@[simp] theorem State.beginWork_events (s : State) : s.beginWork.events = s.events := by
  simp only [State.beginWork]; split <;> simp
@[simp] theorem State.beginWork_resetAsserted (s : State) : s.beginWork.resetAsserted = s.resetAsserted := by
  simp only [State.beginWork]; split <;> simp
@[simp] theorem State.beginWork_pending (s : State) : s.beginWork.pending = s.pending := by
  simp only [State.beginWork]; split <;> simp

@[simp] theorem State.dealFor_map (t : CondTarget) (s : State) : (s.dealFor t).map = s.map := by
  simp only [State.dealFor]; repeat' split
  all_goals simp
@[simp] theorem State.dealFor_tracker (t : CondTarget) (s : State) : (s.dealFor t).tracker = s.tracker := by
  simp only [State.dealFor]; repeat' split
  all_goals simp
@[simp] theorem State.dealFor_press (t : CondTarget) (s : State) : (s.dealFor t).press = s.press := by
  simp only [State.dealFor]; repeat' split
  all_goals simp
@[simp] theorem State.dealFor_slurry (t : CondTarget) (s : State) : (s.dealFor t).slurry = s.slurry := by
  simp only [State.dealFor]; repeat' split
  all_goals simp
@[simp] theorem State.dealFor_matrix (t : CondTarget) (s : State) : (s.dealFor t).matrix = s.matrix := by
  simp only [State.dealFor]; repeat' split
  all_goals simp
@[simp] theorem State.dealFor_settings (t : CondTarget) (s : State) : (s.dealFor t).settings = s.settings := by
  simp only [State.dealFor]; repeat' split
  all_goals simp
@[simp] theorem State.dealFor_resetAsserted (t : CondTarget) (s : State) : (s.dealFor t).resetAsserted = s.resetAsserted := by
  simp only [State.dealFor]; repeat' split
  all_goals simp
@[simp] theorem State.dealFor_pending (t : CondTarget) (s : State) : (s.dealFor t).pending = s.pending := by
  simp only [State.dealFor]; repeat' split
  all_goals simp

@[simp] theorem State.returnToPark_map (s : State) : s.returnToPark.map = s.map := by simp [State.returnToPark]
@[simp] theorem State.returnToPark_tracker (s : State) : s.returnToPark.tracker = s.tracker := by
  simp [State.returnToPark]
@[simp] theorem State.returnToPark_press (s : State) : s.returnToPark.press = s.press := by simp [State.returnToPark]
@[simp] theorem State.returnToPark_slurry (s : State) : s.returnToPark.slurry = s.slurry := by
  simp [State.returnToPark]
@[simp] theorem State.returnToPark_matrix (s : State) : s.returnToPark.matrix = s.matrix := by
  simp [State.returnToPark]
@[simp] theorem State.returnToPark_settings (s : State) : s.returnToPark.settings = s.settings := by
  simp [State.returnToPark]
@[simp] theorem State.returnToPark_resetAsserted (s : State) : s.returnToPark.resetAsserted = s.resetAsserted := by
  simp [State.returnToPark]
@[simp] theorem State.returnToPark_pending (s : State) : s.returnToPark.pending = s.pending := by
  simp [State.returnToPark]

@[simp] theorem State.goIdle_map (s : State) : s.goIdle.map = s.map := by simp only [State.goIdle]; split <;> simp
@[simp] theorem State.goIdle_tracker (s : State) : s.goIdle.tracker = s.tracker := by
  simp only [State.goIdle]; split <;> simp
@[simp] theorem State.goIdle_press (s : State) : s.goIdle.press = s.press := by
  simp only [State.goIdle]; split <;> simp
@[simp] theorem State.goIdle_slurry (s : State) : s.goIdle.slurry = s.slurry := by
  simp only [State.goIdle]; split <;> simp
@[simp] theorem State.goIdle_matrix (s : State) : s.goIdle.matrix = s.matrix := by
  simp only [State.goIdle]; split <;> simp
@[simp] theorem State.goIdle_settings (s : State) : s.goIdle.settings = s.settings := by
  simp only [State.goIdle]; split <;> simp
@[simp] theorem State.goIdle_resetAsserted (s : State) : s.goIdle.resetAsserted = s.resetAsserted := by
  simp only [State.goIdle]; split <;> simp
@[simp] theorem State.goIdle_pending (s : State) : s.goIdle.pending = s.pending := by
  simp only [State.goIdle]; split <;> simp

@[simp] theorem State.select_map (s : State) : s.select.map = s.map := by
  simp only [State.select]; repeat' split
  all_goals simp
@[simp] theorem State.select_tracker (s : State) : s.select.tracker = s.tracker := by
  simp only [State.select]; repeat' split
  all_goals simp
@[simp] theorem State.select_press (s : State) : s.select.press = s.press := by
  simp only [State.select]; repeat' split
  all_goals simp
@[simp] theorem State.select_slurry (s : State) : s.select.slurry = s.slurry := by
  simp only [State.select]; repeat' split
  all_goals simp
@[simp] theorem State.select_matrix (s : State) : s.select.matrix = s.matrix := by
  simp only [State.select]; repeat' split
  all_goals simp
@[simp] theorem State.select_settings (s : State) : s.select.settings = s.settings := by
  simp only [State.select]; repeat' split
  all_goals simp
@[simp] theorem State.select_resetAsserted (s : State) : s.select.resetAsserted = s.resetAsserted := by
  simp only [State.select]; repeat' split
  all_goals simp
@[simp] theorem State.select_pending (s : State) : s.select.pending = s.pending := by
  simp only [State.select]; repeat' split
  all_goals simp

@[simp] theorem State.sweepStart_map (s : State) : s.sweepStart.map = s.map := by
  simp only [State.sweepStart]; split <;> simp
@[simp] theorem State.sweepStart_tracker (s : State) : s.sweepStart.tracker = s.tracker := by
  simp only [State.sweepStart]; split <;> simp
@[simp] theorem State.sweepStart_press (s : State) : s.sweepStart.press = s.press := by
  simp only [State.sweepStart]; split <;> simp
@[simp] theorem State.sweepStart_slurry (s : State) : s.sweepStart.slurry = s.slurry := by
  simp only [State.sweepStart]; split <;> simp
@[simp] theorem State.sweepStart_matrix (s : State) : s.sweepStart.matrix = s.matrix := by
  simp only [State.sweepStart]; split <;> simp
@[simp] theorem State.sweepStart_settings (s : State) : s.sweepStart.settings = s.settings := by
  simp only [State.sweepStart]; split <;> simp
@[simp] theorem State.sweepStart_resetAsserted (s : State) : s.sweepStart.resetAsserted = s.resetAsserted := by
  simp only [State.sweepStart]; split <;> simp
@[simp] theorem State.sweepStart_pending (s : State) : s.sweepStart.pending = s.pending := by
  simp only [State.sweepStart]; split <;> simp

@[simp] theorem State.actOnMode_map (s : State) : s.actOnMode.map = s.map := by
  simp only [State.actOnMode]; split <;> simp
@[simp] theorem State.actOnMode_tracker (s : State) : s.actOnMode.tracker = s.tracker := by
  simp only [State.actOnMode]; split <;> simp
@[simp] theorem State.actOnMode_press (s : State) : s.actOnMode.press = s.press := by
  simp only [State.actOnMode]; split <;> simp
@[simp] theorem State.actOnMode_slurry (s : State) : s.actOnMode.slurry = s.slurry := by
  simp only [State.actOnMode]; split <;> simp
@[simp] theorem State.actOnMode_matrix (s : State) : s.actOnMode.matrix = s.matrix := by
  simp only [State.actOnMode]; split <;> simp
@[simp] theorem State.actOnMode_settings (s : State) : s.actOnMode.settings = s.settings := by
  simp only [State.actOnMode]; split <;> simp
@[simp] theorem State.actOnMode_resetAsserted (s : State) : s.actOnMode.resetAsserted = s.resetAsserted := by
  simp only [State.actOnMode]; split <;> simp
@[simp] theorem State.actOnMode_pending (s : State) : s.actOnMode.pending = s.pending := by
  simp only [State.actOnMode]; split <;> simp

@[simp] theorem State.dropTarget_map (s : State) : s.dropTarget.map = s.map := by
  simp only [State.dropTarget]; split <;> simp
@[simp] theorem State.dropTarget_tracker (s : State) : s.dropTarget.tracker = s.tracker := by
  simp only [State.dropTarget]; split <;> simp
@[simp] theorem State.dropTarget_press (s : State) : s.dropTarget.press = s.press := by
  simp only [State.dropTarget]; split <;> simp
@[simp] theorem State.dropTarget_slurry (s : State) : s.dropTarget.slurry = s.slurry := by
  simp only [State.dropTarget]; split <;> simp
@[simp] theorem State.dropTarget_matrix (s : State) : s.dropTarget.matrix = s.matrix := by
  simp only [State.dropTarget]; split <;> simp
@[simp] theorem State.dropTarget_settings (s : State) : s.dropTarget.settings = s.settings := by
  simp only [State.dropTarget]; split <;> simp
@[simp] theorem State.dropTarget_resetAsserted (s : State) : s.dropTarget.resetAsserted = s.resetAsserted := by
  simp only [State.dropTarget]; split <;> simp
@[simp] theorem State.dropTarget_pending (s : State) : s.dropTarget.pending = s.pending := by
  simp only [State.dropTarget]; split <;> simp

@[simp] theorem State.enterParked_map (s : State) : s.enterParked.map = s.map := by simp [State.enterParked]
@[simp] theorem State.enterParked_tracker (s : State) : s.enterParked.tracker = s.tracker := by
  simp [State.enterParked]
@[simp] theorem State.enterParked_press (s : State) : s.enterParked.press = s.press := by simp [State.enterParked]
@[simp] theorem State.enterParked_slurry (s : State) : s.enterParked.slurry = s.slurry := by simp [State.enterParked]
@[simp] theorem State.enterParked_matrix (s : State) : s.enterParked.matrix = s.matrix := by simp [State.enterParked]
@[simp] theorem State.enterParked_settings (s : State) : s.enterParked.settings = s.settings := by
  simp [State.enterParked]
@[simp] theorem State.enterParked_resetAsserted (s : State) : s.enterParked.resetAsserted = s.resetAsserted := by
  simp [State.enterParked]
@[simp] theorem State.enterParked_pending (s : State) : s.enterParked.pending = s.pending := by
  simp [State.enterParked]

@[simp] theorem State.modeActs_map (s : State) : s.modeActs.map = s.map := by
  simp only [State.modeActs]; split <;> simp
@[simp] theorem State.modeActs_tracker (s : State) : s.modeActs.tracker = s.tracker := by
  simp only [State.modeActs]; split <;> simp
@[simp] theorem State.modeActs_press (s : State) : s.modeActs.press = s.press := by
  simp only [State.modeActs]; split <;> simp
@[simp] theorem State.modeActs_slurry (s : State) : s.modeActs.slurry = s.slurry := by
  simp only [State.modeActs]; split <;> simp
@[simp] theorem State.modeActs_matrix (s : State) : s.modeActs.matrix = s.matrix := by
  simp only [State.modeActs]; split <;> simp
@[simp] theorem State.modeActs_settings (s : State) : s.modeActs.settings = s.settings := by
  simp only [State.modeActs]; split <;> simp
@[simp] theorem State.modeActs_resetAsserted (s : State) : s.modeActs.resetAsserted = s.resetAsserted := by
  simp only [State.modeActs]; split <;> simp
@[simp] theorem State.modeActs_pending (s : State) : s.modeActs.pending = s.pending := by
  simp only [State.modeActs]; split <;> simp

@[simp] theorem State.evaluateSpent_map (s : State) : s.evaluateSpent.map = s.map := by
  simp only [State.evaluateSpent, State.onRise]; split <;> simp
@[simp] theorem State.evaluateSpent_tracker (s : State) : s.evaluateSpent.tracker = s.tracker := by
  simp only [State.evaluateSpent, State.onRise]; split <;> simp
@[simp] theorem State.evaluateSpent_hub (s : State) : s.evaluateSpent.hub = s.hub := by
  simp only [State.evaluateSpent, State.onRise]; split <;> simp
@[simp] theorem State.evaluateSpent_press (s : State) : s.evaluateSpent.press = s.press := by
  simp only [State.evaluateSpent, State.onRise]; split <;> simp
@[simp] theorem State.evaluateSpent_slurry (s : State) : s.evaluateSpent.slurry = s.slurry := by
  simp only [State.evaluateSpent, State.onRise]; split <;> simp
@[simp] theorem State.evaluateSpent_matrix (s : State) : s.evaluateSpent.matrix = s.matrix := by
  simp only [State.evaluateSpent, State.onRise]; split <;> simp
@[simp] theorem State.evaluateSpent_settings (s : State) : s.evaluateSpent.settings = s.settings := by
  simp only [State.evaluateSpent, State.onRise]; split <;> simp
@[simp] theorem State.evaluateSpent_events (s : State) : s.evaluateSpent.events = s.events := by
  simp only [State.evaluateSpent, State.onRise]; split <;> simp
@[simp] theorem State.evaluateSpent_resetAsserted (s : State) : s.evaluateSpent.resetAsserted = s.resetAsserted := by
  simp only [State.evaluateSpent, State.onRise]; split <;> simp
@[simp] theorem State.evaluateSpent_pending (s : State) : s.evaluateSpent.pending = s.pending := by
  simp only [State.evaluateSpent, State.onRise]; split <;> simp

@[simp] theorem State.actIfParked_map (s : State) : s.actIfParked.map = s.map := by
  simp only [State.actIfParked]; split <;> simp
@[simp] theorem State.actIfParked_tracker (s : State) : s.actIfParked.tracker = s.tracker := by
  simp only [State.actIfParked]; split <;> simp
@[simp] theorem State.actIfParked_press (s : State) : s.actIfParked.press = s.press := by
  simp only [State.actIfParked]; split <;> simp
@[simp] theorem State.actIfParked_slurry (s : State) : s.actIfParked.slurry = s.slurry := by
  simp only [State.actIfParked]; split <;> simp
@[simp] theorem State.actIfParked_matrix (s : State) : s.actIfParked.matrix = s.matrix := by
  simp only [State.actIfParked]; split <;> simp
@[simp] theorem State.actIfParked_settings (s : State) : s.actIfParked.settings = s.settings := by
  simp only [State.actIfParked]; split <;> simp
@[simp] theorem State.actIfParked_resetAsserted (s : State) : s.actIfParked.resetAsserted = s.resetAsserted := by
  simp only [State.actIfParked]; split <;> simp
@[simp] theorem State.actIfParked_pending (s : State) : s.actIfParked.pending = s.pending := by
  simp only [State.actIfParked]; split <;> simp

@[simp] theorem State.condFault_map (k : FaultKind) (s : State) : (s.condFault k).map = s.map := by
  simp [State.condFault]
@[simp] theorem State.condFault_tracker (k : FaultKind) (s : State) : (s.condFault k).tracker = s.tracker := by
  simp [State.condFault]
@[simp] theorem State.condFault_press (k : FaultKind) (s : State) : (s.condFault k).press = s.press := by
  simp [State.condFault]
@[simp] theorem State.condFault_slurry (k : FaultKind) (s : State) : (s.condFault k).slurry = s.slurry := by
  simp [State.condFault]
@[simp] theorem State.condFault_matrix (k : FaultKind) (s : State) : (s.condFault k).matrix = s.matrix := by
  simp [State.condFault]
@[simp] theorem State.condFault_settings (k : FaultKind) (s : State) : (s.condFault k).settings = s.settings := by
  simp [State.condFault]
@[simp] theorem State.condFault_events (k : FaultKind) (s : State) : (s.condFault k).events = s.events := by
  simp [State.condFault]
@[simp] theorem State.condFault_resetAsserted (k : FaultKind) (s : State) : (s.condFault k).resetAsserted = s.resetAsserted := by
  simp [State.condFault]
@[simp] theorem State.condFault_pending (k : FaultKind) (s : State) : (s.condFault k).pending = s.pending := by
  simp [State.condFault]

@[simp] theorem State.followingCheck_map (s : State) : s.followingCheck.map = s.map := by
  simp only [State.followingCheck]; split <;> simp
@[simp] theorem State.followingCheck_tracker (s : State) : s.followingCheck.tracker = s.tracker := by
  simp only [State.followingCheck]; split <;> simp
@[simp] theorem State.followingCheck_press (s : State) : s.followingCheck.press = s.press := by
  simp only [State.followingCheck]; split <;> simp
@[simp] theorem State.followingCheck_slurry (s : State) : s.followingCheck.slurry = s.slurry := by
  simp only [State.followingCheck]; split <;> simp
@[simp] theorem State.followingCheck_matrix (s : State) : s.followingCheck.matrix = s.matrix := by
  simp only [State.followingCheck]; split <;> simp
@[simp] theorem State.followingCheck_settings (s : State) : s.followingCheck.settings = s.settings := by
  simp only [State.followingCheck]; split <;> simp
@[simp] theorem State.followingCheck_events (s : State) : s.followingCheck.events = s.events := by
  simp only [State.followingCheck]; split <;> simp
@[simp] theorem State.followingCheck_resetAsserted (s : State) : s.followingCheck.resetAsserted = s.resetAsserted := by
  simp only [State.followingCheck]; split <;> simp
@[simp] theorem State.followingCheck_pending (s : State) : s.followingCheck.pending = s.pending := by
  simp only [State.followingCheck]; split <;> simp

@[simp] theorem State.disturb_hub (s : State) : s.disturb.hub = s.hub := rfl
@[simp] theorem State.disturb_press (s : State) : s.disturb.press = s.press := rfl
@[simp] theorem State.disturb_cond (s : State) : s.disturb.cond = s.cond := rfl
@[simp] theorem State.disturb_slurry (s : State) : s.disturb.slurry = s.slurry := rfl
@[simp] theorem State.disturb_matrix (s : State) : s.disturb.matrix = s.matrix := rfl
@[simp] theorem State.disturb_links (s : State) : s.disturb.links = s.links := rfl
@[simp] theorem State.disturb_settings (s : State) : s.disturb.settings = s.settings := rfl
@[simp] theorem State.disturb_events (s : State) : s.disturb.events = s.events := rfl
@[simp] theorem State.disturb_resetAsserted (s : State) : s.disturb.resetAsserted = s.resetAsserted := rfl
@[simp] theorem State.disturb_pending (s : State) : s.disturb.pending = s.pending := rfl

@[simp] theorem State.evaluateWindow_map (s : State) : s.evaluateWindow.map = s.map := by
  simp only [State.evaluateWindow]; split <;> simp
@[simp] theorem State.evaluateWindow_hub (s : State) : s.evaluateWindow.hub = s.hub := by
  simp only [State.evaluateWindow]; split <;> simp
@[simp] theorem State.evaluateWindow_press (s : State) : s.evaluateWindow.press = s.press := by
  simp only [State.evaluateWindow]; split <;> simp
@[simp] theorem State.evaluateWindow_cond (s : State) : s.evaluateWindow.cond = s.cond := by
  simp only [State.evaluateWindow]; split <;> simp
@[simp] theorem State.evaluateWindow_slurry (s : State) : s.evaluateWindow.slurry = s.slurry := by
  simp only [State.evaluateWindow]; split <;> simp
@[simp] theorem State.evaluateWindow_matrix (s : State) : s.evaluateWindow.matrix = s.matrix := by
  simp only [State.evaluateWindow]; split <;> simp
@[simp] theorem State.evaluateWindow_settings (s : State) : s.evaluateWindow.settings = s.settings := by
  simp only [State.evaluateWindow]; split <;> simp
@[simp] theorem State.evaluateWindow_events (s : State) : s.evaluateWindow.events = s.events := by
  simp only [State.evaluateWindow]; split <;> simp
@[simp] theorem State.evaluateWindow_resetAsserted (s : State) : s.evaluateWindow.resetAsserted = s.resetAsserted := by
  simp only [State.evaluateWindow]; split <;> simp
@[simp] theorem State.evaluateWindow_pending (s : State) : s.evaluateWindow.pending = s.pending := by
  simp only [State.evaluateWindow]; split <;> simp

@[simp] theorem State.evaluateInside_map (m : Arm) (s : State) : (s.evaluateInside m).map = s.map := by
  simp only [State.evaluateInside]; split <;> simp
@[simp] theorem State.evaluateInside_hub (m : Arm) (s : State) : (s.evaluateInside m).hub = s.hub := by
  simp only [State.evaluateInside]; split <;> simp
@[simp] theorem State.evaluateInside_press (m : Arm) (s : State) : (s.evaluateInside m).press = s.press := by
  simp only [State.evaluateInside]; split <;> simp
@[simp] theorem State.evaluateInside_cond (m : Arm) (s : State) : (s.evaluateInside m).cond = s.cond := by
  simp only [State.evaluateInside]; split <;> simp
@[simp] theorem State.evaluateInside_slurry (m : Arm) (s : State) : (s.evaluateInside m).slurry = s.slurry := by
  simp only [State.evaluateInside]; split <;> simp
@[simp] theorem State.evaluateInside_matrix (m : Arm) (s : State) : (s.evaluateInside m).matrix = s.matrix := by
  simp only [State.evaluateInside]; split <;> simp
@[simp] theorem State.evaluateInside_links (m : Arm) (s : State) : (s.evaluateInside m).links = s.links := by
  simp only [State.evaluateInside]; split <;> simp
@[simp] theorem State.evaluateInside_settings (m : Arm) (s : State) : (s.evaluateInside m).settings = s.settings := by
  simp only [State.evaluateInside]; split <;> simp
@[simp] theorem State.evaluateInside_resetAsserted (m : Arm) (s : State) : (s.evaluateInside m).resetAsserted = s.resetAsserted := by
  simp only [State.evaluateInside]; split <;> simp
@[simp] theorem State.evaluateInside_pending (m : Arm) (s : State) : (s.evaluateInside m).pending = s.pending := by
  simp only [State.evaluateInside]; split <;> simp

@[simp] theorem State.evaluateAllInside_map (s : State) : s.evaluateAllInside.map = s.map := by
  simp [State.evaluateAllInside]
@[simp] theorem State.evaluateAllInside_hub (s : State) : s.evaluateAllInside.hub = s.hub := by
  simp [State.evaluateAllInside]
@[simp] theorem State.evaluateAllInside_press (s : State) : s.evaluateAllInside.press = s.press := by
  simp [State.evaluateAllInside]
@[simp] theorem State.evaluateAllInside_cond (s : State) : s.evaluateAllInside.cond = s.cond := by
  simp [State.evaluateAllInside]
@[simp] theorem State.evaluateAllInside_slurry (s : State) : s.evaluateAllInside.slurry = s.slurry := by
  simp [State.evaluateAllInside]
@[simp] theorem State.evaluateAllInside_matrix (s : State) : s.evaluateAllInside.matrix = s.matrix := by
  simp [State.evaluateAllInside]
@[simp] theorem State.evaluateAllInside_links (s : State) : s.evaluateAllInside.links = s.links := by
  simp [State.evaluateAllInside]
@[simp] theorem State.evaluateAllInside_settings (s : State) : s.evaluateAllInside.settings = s.settings := by
  simp [State.evaluateAllInside]
@[simp] theorem State.evaluateAllInside_resetAsserted (s : State) : s.evaluateAllInside.resetAsserted = s.resetAsserted := by
  simp [State.evaluateAllInside]
@[simp] theorem State.evaluateAllInside_pending (s : State) : s.evaluateAllInside.pending = s.pending := by
  simp [State.evaluateAllInside]

@[simp] theorem State.trackerChanged_map (b : TrackerState) (s : State) : (s.trackerChanged b).map = s.map := by
  simp only [State.trackerChanged]; repeat' split
  all_goals simp
@[simp] theorem State.trackerChanged_tracker (b : TrackerState) (s : State) : (s.trackerChanged b).tracker = s.tracker := by
  simp only [State.trackerChanged]; repeat' split
  all_goals simp
@[simp] theorem State.trackerChanged_hub (b : TrackerState) (s : State) : (s.trackerChanged b).hub = s.hub := by
  simp only [State.trackerChanged]; repeat' split
  all_goals simp
@[simp] theorem State.trackerChanged_press (b : TrackerState) (s : State) : (s.trackerChanged b).press = s.press := by
  simp only [State.trackerChanged]; repeat' split
  all_goals simp
@[simp] theorem State.trackerChanged_cond (b : TrackerState) (s : State) : (s.trackerChanged b).cond = s.cond := by
  simp only [State.trackerChanged]; repeat' split
  all_goals simp
@[simp] theorem State.trackerChanged_slurry (b : TrackerState) (s : State) : (s.trackerChanged b).slurry = s.slurry := by
  simp only [State.trackerChanged]; repeat' split
  all_goals simp
@[simp] theorem State.trackerChanged_settings (b : TrackerState) (s : State) : (s.trackerChanged b).settings = s.settings := by
  simp only [State.trackerChanged]; repeat' split
  all_goals simp
@[simp] theorem State.trackerChanged_resetAsserted (b : TrackerState) (s : State) : (s.trackerChanged b).resetAsserted = s.resetAsserted := by
  simp only [State.trackerChanged]; repeat' split
  all_goals simp
@[simp] theorem State.trackerChanged_pending (b : TrackerState) (s : State) : (s.trackerChanged b).pending = s.pending := by
  simp only [State.trackerChanged]; repeat' split
  all_goals simp

end Sys2Proof.Machine
end

