-- ==== Sys2Proof/Laws/Facts.lean ====
section
/-!
SUPPORT. What the shared operations do, said once: notices, cause sets and hold levels, trips, taking an event, and the
answer to a request.
-/

namespace Sys2Proof.Machine
open Sys2Proof

/-! ### Notices -/

theorem mem_fileInto (n x : Notice) (set : List Notice) : x ∈ fileInto n set ↔ x = n ∨ x ∈ set := by
  unfold fileInto
  split
  · constructor
    · exact Or.inr
    · rintro (rfl | h) <;> assumption
  · simp [or_comm]

theorem nodup_fileInto (n : Notice) (set : List Notice) (h : set.Nodup) : (fileInto n set).Nodup := by
  unfold fileInto
  split
  · exact h
  · rename_i hn
    simpa [List.nodup_append, h] using fun a ha => fun e : a = n => hn (e ▸ ha)

theorem State.file_port (p q : Port) (n : Notice) (s : State) :
    (s.file p n).port q = if q = p then { s.port p with notices := fileInto n (s.port p).notices } else s.port q := by
  cases p <;> cases q <;> rfl

/-- A notice is in a port's set after a filing exactly when it was filed there or was there. -/
theorem State.mem_file (p q : Port) (n x : Notice) (s : State) :
    x ∈ ((s.file p n).port q).notices ↔ (q = p ∧ x = n) ∨ x ∈ (s.port q).notices := by
  rw [State.file_port]
  split
  · next h => subst h; simp [mem_fileInto]
  · next h => simp [h]

theorem State.mem_fileAll (q : Port) (n x : Notice) (s : State) :
    x ∈ ((s.fileAll n).port q).notices ↔ x = n ∨ x ∈ (s.port q).notices := by
  cases q <;> simp [State.fileAll, State.mem_file]

@[simp] theorem State.raise_events (e : Event) (s : State) : (s.raise e).events = s.events ++ [e] := rfl

@[simp] theorem State.raise_port (e : Event) (s : State) (p : Port) : (s.raise e).port p = s.port p := rfl
@[simp] theorem State.raise_causes (e : Event) (s : State) (l : Lane) : (s.raise e).causes l = s.causes l := rfl
@[simp] theorem State.raise_holdLevel (e : Event) (s : State) (l : Lane) : (s.raise e).holdLevel l = s.holdLevel l := rfl
@[simp] theorem State.file_causes (p : Port) (n : Notice) (s : State) (l : Lane) :
    (s.file p n).causes l = s.causes l := rfl

/-! ### Causes, levels and trips -/

theorem levelOf_addEntry_hard (e : CauseEntry) (c : List CauseEntry) (h : e.severity = .hard) : levelOf (addEntry e c) = .hard := by
  have : (addEntry e c).any (fun e => decide (e.severity = .hard)) = true := by
    induction c with
    | nil => simp [addEntry, h]
    | cons x r ih => 
      simp only [addEntry]; split
      · simp [raiseSeverity, h]
      · simp only [List.any_cons, ih, Bool.or_true]
  simp [levelOf, this]
theorem mem_addEntry (e : CauseEntry) (c : List CauseEntry) : ∃ x ∈ addEntry e c, x.kind = e.kind ∧ (e.severity = .hard → x.severity = .hard) := by
  induction c with
  | nil => exact ⟨e, by simp [addEntry], rfl, id⟩
  | cons x r ih => 
    simp only [addEntry]; split
    · next hk => exact ⟨_, List.mem_cons_self, hk, fun h => by simp [raiseSeverity, h]⟩
    · obtain ⟨y,hy,h2⟩ := ih; exact ⟨y, List.mem_cons_of_mem _ hy, h2⟩
theorem State.setCauses_causes (l j: Lane) (c) (s : State) : (s.setCauses l c).causes j = if j = l then c else s.causes j := by
  cases l <;> cases j <;> rfl
theorem State.holdEntered_causes (l j: Lane) (v) (s : State) : (s.holdEntered l v).causes j = s.causes j := by
  cases v <;> rfl
theorem State.addCause_causes (l j : Lane) (e) (s : State) : (s.addCause l e).causes j = if j = l then addEntry e (s.causes l) else s.causes j := by
  unfold State.addCause State.addCauseWith; simp only; split
  · rw [State.setCauses_causes]
  · rw [State.holdEntered_causes, State.setCauses_causes]
theorem State.addCause_hard (l : Lane) (e) (s : State) (h : e.severity = .hard) : (s.addCause l e).holdLevel l = .hard := by
  simp [State.holdLevel, State.addCause_causes, levelOf_addEntry_hard _ _ h]
theorem State.holdEntered_port (l : Lane) (v) (s : State) (p): (s.holdEntered l v).port p = ((s.file l.port .holdEntered).file .s .holdEntered).port p := by
  cases v <;> rfl
theorem State.mem_addCause (l) (e) (s : State) (p) (x : Notice) (hx : x ∈ (s.port p).notices) : x ∈ ((s.addCause l e).port p).notices := by
  unfold State.addCause State.addCauseWith; simp only; split
  · exact hx
  · rw [State.holdEntered_port, State.mem_file, State.mem_file]; exact Or.inr (Or.inr hx)
theorem State.event_addCause (l) (e) (s : State) (x : Event) (hx : x ∈ s.events) : x ∈ (s.addCause l e).events := by
  unfold State.addCause State.addCauseWith; simp only; split
  · exact hx
  · simp only [State.holdEntered, State.fileHold, State.tellLevel]; split <;> simp [hx]
theorem State.addCause_rise (l) (e) (s : State) (he : e.severity = .hard) (hs : s.holdLevel l ≠ .hard) :
   .holdEntered ∈ ((s.addCause l e).port l.port).notices ∧ .holdEntered ∈ ((s.addCause l e).port .s).notices ∧ Event.hardHoldVent l ∈ (s.addCause l e).events ∧ Event.hardHoldBarEmpty l ∈ (s.addCause l e).events ∧ Event.hardHoldWithdraw l ∈ (s.addCause l e).events := by
  have h1 : (s.setCauses l (addEntry e (s.causes l))).holdLevel l = .hard := by
    simp [State.holdLevel, State.setCauses_causes, levelOf_addEntry_hard _ _ he]
  unfold State.addCause State.addCauseWith; simp only [h1]
  rw [if_neg (fun h => hs h.symm)]
  refine ⟨?_,?_,?_⟩
  · rw [State.holdEntered_port, State.mem_file, State.mem_file]; simp
  · rw [State.holdEntered_port, State.mem_file, State.mem_file]; simp
  · simp [State.holdEntered, State.fileHold, State.tellLevel]
theorem State.addCause_other (l j) (e) (s : State) (h : j ≠ l) : (s.addCause l e).holdLevel j = s.holdLevel j := by
  simp [State.holdLevel, State.addCause_causes, h]
theorem State.addCause_station (l) (e) (s : State) : (s.addCause l e).matrix.station = s.matrix.station ∧ (s.addCause l e).matrix.tripCauses = s.matrix.tripCauses := by
  unfold State.addCause State.addCauseWith; simp only; split <;> simp [State.setCauses]
theorem State.tripCause_tripsTo (s : State) (c : TripCause) : s.tripsTo c (s.tripCause c) := by
  unfold State.tripsTo State.tripCause
  cases hs : s.matrix.station
  · simp only
    set u := (s.modMatrix fun m => { m with tripCauses := insertTrip c m.tripCauses, station := .tripped }) with hu
    have huc : ∀ l, u.holdLevel l = s.holdLevel l := fun l => rfl
    refine ⟨by simp [State.addCauseBoth, State.addCause_station, hu], ?_, ?_, by simp⟩
    · intro x; simp [State.addCauseBoth, State.addCause_station, hu, insertTrip]; split <;> simp [or_comm]
      rintro rfl; assumption
    · intro _
      refine ⟨fun p => ?_, ?_, ?_, fun l => ⟨?_, ?_, fun hl => ?_⟩⟩
      · simp only [State.raise_port, State.addCauseBoth]
        apply State.mem_addCause; apply State.mem_addCause; rw [State.mem_fileAll]; exact Or.inl rfl
      · simp
      · simp
      · simp only [State.raise_holdLevel, State.addCauseBoth]
        cases l
        · rw [State.addCause_other _ _ _ _ (by simp), State.addCause_hard _ _ _ rfl]
        · rw [State.addCause_hard _ _ _ rfl]
      · simp only [State.raise_causes, State.addCauseBoth]
        obtain ⟨x, hx, h1, h2⟩ := mem_addEntry (causeEntry .trip .hard) ((u.fileAll .tripEntered).causes l)
        refine ⟨x, ?_, h1, h2 rfl⟩
        cases l <;> simpa [State.addCause_causes] using hx
      · have := hl
        cases l
        · have h0 := State.addCause_rise .a (causeEntry .trip .hard) (u.fileAll .tripEntered) rfl hl
          simp only [State.raise_port, State.addCauseBoth]
          obtain ⟨a,b,c,d,e⟩ := h0
          refine ⟨State.mem_addCause _ _ _ _ _ a, State.mem_addCause _ _ _ _ _ b, ?_,?_,?_⟩ <;> simp [State.event_addCause _ _ _ _ c, State.event_addCause _ _ _ _ d, State.event_addCause _ _ _ _ e]
        · have h0 := State.addCause_rise .b (causeEntry .trip .hard) ((u.fileAll .tripEntered).addCause .a (causeEntry .trip .hard)) rfl (by rw [State.addCause_other _ _ _ _ (by simp)]; exact hl)
          simp only [State.raise_port, State.addCauseBoth]
          obtain ⟨a,b,c,d,e⟩ := h0
          refine ⟨a, b, ?_,?_,?_⟩ <;> simp [c,d,e]
  · simp only
    refine ⟨by simp, ?_, by simp, by simp⟩
    · intro x; simp [insertTrip]; split <;> simp [or_comm]
      rintro rfl; assumption

/-! ### Taking an event -/

theorem find_told {ch : Event → Bool} {e : Event} {before after : List Event}
    (hb : ∀ x ∈ before, ch x = false) (he : ch e = true) : (before ++ e :: after).find? ch = some e := by
  induction before with
  | nil => simp [he]
  | cons x rest ih =>
    have hx := hb x (by simp)
    simp [hx, ih fun y hy => hb y (by simp [hy])]

theorem erase_told {ch : Event → Bool} {e : Event} {before after : List Event}
    (hb : ∀ x ∈ before, ch x = false) (he : ch e = true) : (before ++ e :: after).erase e = before ++ after := by
  have hn : e ∉ before := fun h => by simp [hb e h] at he
  simp [List.erase_append_right _ hn]

/-- Taking the event a channel has told, when it is the one wanted. -/
theorem State.takeEvent_told {s u : State} {ch wanted : Event → Bool} {e : Event} (h : s.told ch e u)
    (hw : wanted e = true) : s.takeEvent ch wanted = some (e, u) := by
  obtain ⟨before, after, hs, hb, he, rfl⟩ := h
  simp [State.takeEvent, hs, find_told hb he, hw, State.modEvents, erase_told hb he]

theorem State.takeKind_told {s u : State} {ch : Event → Bool} {e : Event} (h : s.told ch e u) :
    s.takeKind ch = some (e, u) := by
  have he : ch e = true := by
    obtain ⟨_, _, _, _, he, _⟩ := h
    exact he
  exact State.takeEvent_told h he

/-- Once an event is taken, everything but the outstanding events is as before. -/
theorem State.told_frame {s u : State} {ch : Event → Bool} {e : Event} (h : s.told ch e u) :
    u = { s with events := u.events } := by
  obtain ⟨_, _, _, _, _, rfl⟩ := h
  rfl

/-! ### Answers -/

/-- A request that the role table permits and whose length fits is decided by its rule, in the state it finds. -/
theorem answerRequest_eq (p : Port) (r : Request) (s : State) (hp : permitted p r.kind = true)
    (hl : lengthOk p r = true) : answerRequest p r s = (decideRequest p (s.heardFor p r.kind) r).compose p r.kind.byte := by
  simp [answerRequest, dispatch, hp, hl]

theorem compose_refuse (p : Port) (k : Kind) (r : Result) (s : State) :
    (refuse r s).compose p k.byte = replied p k r [] s := rfl

theorem compose_done (p : Port) (k : Kind) (s : State) : (done s).compose p k.byte = replied p k .ok [] s := rfl

/-! ### Lanes and ports -/

@[simp] theorem Lane.port_lane (l : Lane) : l.port.lane? = some l := by cases l <;> rfl
@[simp] theorem Lane.port_ne_s (l : Lane) : l.port ≠ .s := by cases l <;> simp [Lane.port]
@[simp] theorem laneOfCode_laneCode (l : Lane) : laneOfCode (laneCode l) = some l := by cases l <;> rfl
@[simp] theorem portOfCode_portCode (p : Port) : portOfCode (portCode p) = some p := by cases p <;> rfl
@[simp] theorem feedOfCode_feedCode (f : Option Line) : feedOfCode (feedCode f) = some f := by
  cases f with
  | none => rfl
  | some k => cases k <;> rfl
@[simp] theorem lineOfCode_feedCode (k : Line) : lineOfCode (feedCode (some k)) = some k := by cases k <;> rfl
@[simp] theorem condModeOfCode_code (m : CondMode) : condModeOfCode m.code = some m := by cases m <;> rfl

end Sys2Proof.Machine
end

