-- ==== Sys2Proof/Laws/Settle.lean ====
section
/-!
SUPPORT. What the taking of all that is outstanding does, said once (log 2, log 36): a state with nothing outstanding is left
as it is, what each taking and each arrival keeps is kept, and the row of the oldest event is its taking.
-/

namespace Sys2Proof.Machine
open Sys2Proof

/-! ### A calm state: nothing outstanding -/

/-- No event is outstanding and no arrival is due. -/
def State.calm (s : State) : Prop := s.events = [] ∧ s.arrivalDue = false

theorem State.drain_nil {s : State} (h : s.events = []) : s.drain = s := by
  have hw : ∀ n, State.drainWithin n s = s := fun n => by
    cases n with
    | zero => rfl
    | succ n => simp [State.drainWithin, h]
  exact hw _

theorem State.arrive_calm {s : State} (h : s.calm) : s.arrive = s := by
  simp [State.arrive, State.moveArrival, h.2, State.drain_nil h.1]

theorem State.settled_calm {s : State} (h : s.calm) : s.settled = s := by
  simp [State.settled, State.drain_nil h.1, State.arrive_calm h]

/-- A calm state in which the port's link has just been heard is the state that a request there finds. -/
theorem State.heard_calm {s : State} {p : Port} (h : s.calm) (hp : s.hearFrame p = s) : s.heard p = s := by
  rw [State.heard, hp, State.settled_calm h]

/-! ### What takings keep -/

/-- What the taking of the oldest event keeps, the taking of all outstanding events keeps. -/
theorem keeps_drain {P : State → Prop}
    (htake : ∀ s e rest, s.events = e :: rest → P s → P ((s.modEvents fun _ => rest).take e)) {s : State} (h : P s) :
    P s.drain := by
  have hw : ∀ n s, P s → P (State.drainWithin n s) := fun n => by
    induction n with
    | zero => exact fun _ h => h
    | succ n ih =>
      intro s h
      rw [State.drainWithin]
      split
      · exact h
      · next e rest he => exact ih _ (htake s e rest he h)
  exact hw _ _ h

/-- What takings and arrivals keep, settling keeps. -/
theorem keeps_settled {P : State → Prop}
    (htake : ∀ s e rest, s.events = e :: rest → P s → P ((s.modEvents fun _ => rest).take e))
    (harrive : ∀ s, P s → P s.moveArrival) {s : State} (h : P s) : P s.settled :=
  keeps_drain htake (harrive _ (keeps_drain htake (harrive _ (keeps_drain htake h))))

@[simp] theorem State.hearFrame_events (p : Port) (s : State) : (s.hearFrame p).events = s.events := by
  unfold State.hearFrame
  split <;> rfl

/-- What takings and arrivals keep, and the silence timers do not touch, the arrival of a request keeps. -/
theorem keeps_heard {P : State → Prop}
    (htake : ∀ s e rest, s.events = e :: rest → P s → P ((s.modEvents fun _ => rest).take e))
    (harrive : ∀ s, P s → P s.moveArrival) (hsilence : ∀ l f s, P s → P (State.modSilence l f s)) (p : Port) {s : State}
    (h : P s) : P (s.heard p) := by
  refine keeps_settled htake harrive ?_
  unfold State.hearFrame
  split
  · exact hsilence _ _ _ h
  · exact h

/-- What takings and arrivals keep, and the setting aside of map updated events does not touch, the settling before a request
of any kind keeps. -/
theorem keeps_settledFor {P : State → Prop} (hsettled : ∀ s, P s → P s.settled)
    (hevents : ∀ s f, P s → P (State.modEvents f s)) (k : Option Kind) {s : State} (h : P s) : P (s.settledFor k) := by
  unfold State.settledFor State.settledBeforeMap
  split
  · exact hevents _ _ (hsettled _ (hevents _ _ h))
  · exact hsettled _ h

/-- The same for the arrival of a request of any kind. -/
theorem keeps_heardFor {P : State → Prop} (hsettled : ∀ s, P s → P s.settled)
    (hevents : ∀ s f, P s → P (State.modEvents f s)) (hsilence : ∀ l f s, P s → P (State.modSilence l f s)) (p : Port)
    (k : Kind) {s : State} (h : P s) : P (s.heardFor p k) := by
  refine keeps_settledFor hsettled hevents _ ?_
  unfold State.hearFrame
  split
  · exact hsilence _ _ _ h
  · exact h

/-! ### Map updated events that wait (R56) -/

/-- A request that does not change the map finds every outstanding event taken. -/
theorem State.heardFor_eq {p : Port} {k : Kind} {s : State} (h : changesRecords k = false) : s.heardFor p k = s.heard p := by
  simp [State.heardFor, State.heard, State.settledFor, h]

/-- With no map updated event outstanding, so does a request that changes the map, up to what is raised meanwhile. -/
theorem State.settledBeforeMap_eq {s : State} (h : ∀ e ∈ s.events, e.isMapUpdated = false) :
    s.settledBeforeMap = s.settled := by
  have h1 : s.events.filter (·.isMapUpdated) = [] := List.filter_eq_nil_iff.2 fun e he => by simp [h e he]
  have h2 : s.events.filter (!·.isMapUpdated) = s.events := List.filter_eq_self.2 fun e he => by simp [h e he]
  have h3 : (s.modEvents fun _ => s.events) = s := rfl
  rw [State.settledBeforeMap, h1, h2, h3]
  rfl

theorem State.settledBeforeMap_calm {s : State} (h : s.calm) : s.settledBeforeMap = s := by
  rw [State.settledBeforeMap_eq (by simp [h.1]), State.settled_calm h]

/-- A calm state in which the port's link has just been heard is the state that a request of any kind there finds. -/
theorem State.heardFor_calm {s : State} {p : Port} {k : Kind} (h : s.calm) (hp : s.hearFrame p = s) :
    s.heardFor p k = s := by
  rw [State.heardFor, hp, State.settledFor, State.settledBeforeMap_calm h, State.settled_calm h, ite_self]

/-! ### What one taking and one arrival leave as they were -/

/-- The map but for what is raised from it, the tracker, the settings, the RESET input and the queue of commands. -/
structure State.sameGround (s t : State) : Prop where
  map : t.map = s.map
  tracker : t.tracker = s.tracker
  settings : t.settings = s.settings
  resetAsserted : t.resetAsserted = s.resetAsserted
  pending : t.pending = s.pending

theorem State.sameGround_hubEntry (m : Arm) (s : State) : s.sameGround (s.hubEntry m) := by
  unfold State.hubEntry State.onRise
  constructor <;> (repeat' split) <;> simp
theorem State.sameGround_hubExit (m : Arm) (s : State) : s.sameGround (s.hubExit m) := by
  unfold State.hubExit
  constructor <;> (repeat' split) <;> simp
theorem State.sameGround_condMapUpdated (u : MapUpdated) (s : State) : s.sameGround (s.condMapUpdated u) := by
  unfold State.condMapUpdated State.updatedWork State.dwellTest State.countDiskLife State.rebuild
  constructor <;> (repeat' split) <;> simp
theorem State.sameGround_dryUpdate (l : Lane) (u : MapUpdated) (s : State) : s.sameGround (s.dryUpdate l u) := by
  unfold State.dryUpdate State.onRise
  constructor <;> simp only <;> (repeat' split) <;> simp
theorem State.sameGround_applyAtIndex (l : Lane) (s : State) : s.sameGround (s.applyAtIndex l) := by
  unfold State.applyAtIndex
  constructor <;> (repeat' split) <;> simp
theorem State.sameGround_condTold (s : State) :
    s.sameGround s.condTripHalt ∧ s.sameGround s.condTripClear ∧ s.sameGround s.condGrant ∧
      s.sameGround s.condGrantLost := by
  refine ⟨?_, ?_, ?_, ?_⟩
  · unfold State.condTripHalt
    constructor <;> (repeat' split) <;> simp
  · unfold State.condTripClear State.beginHoming
    constructor <;> (repeat' split) <;> simp
  · unfold State.condGrant
    constructor <;> (repeat' split) <;> simp
  · unfold State.condGrantLost State.reclaim
    constructor <;> simp only <;> (repeat' split) <;> simp

theorem State.sameGround.trans {s t u : State} (h : s.sameGround t) (k : t.sameGround u) : s.sameGround u :=
  ⟨k.map.trans h.map, k.tracker.trans h.tracker, k.settings.trans h.settings, k.resetAsserted.trans h.resetAsserted,
    k.pending.trans h.pending⟩

theorem State.sameGround_take (e : Event) (s : State) : s.sameGround (s.take e) := by
  cases e with
  | hubEntry m => exact s.sameGround_hubEntry m
  | hubExit m => exact s.sameGround_hubExit m
  | condMapUpdated u => exact s.sameGround_condMapUpdated u
  | dryCountUpdate u => exact (s.sameGround_dryUpdate .a u).trans (State.sameGround_dryUpdate .b u _)
  | indexProfileApply => exact (s.sameGround_applyAtIndex .a).trans (State.sameGround_applyAtIndex .b _)
  | condTripHalt => exact s.sameGround_condTold.1
  | condTripClear => exact s.sameGround_condTold.2.1
  | condGrant => exact s.sameGround_condTold.2.2.1
  | condGrantLost => exact s.sameGround_condTold.2.2.2
  | mapReplaced => exact ⟨rfl, rfl, rfl, rfl, rfl⟩
  | _ => constructor <;> simp [State.take]

theorem State.sameGround_moveArrival (s : State) : s.sameGround s.moveArrival := by
  unfold State.moveArrival State.strokeEnd State.reclaim
  constructor <;> simp only <;> (repeat' split) <;> simp

theorem State.sameGround_settled (s : State) : s.sameGround s.settled := by
  refine keeps_settled (P := s.sameGround) (fun t e rest _ h => ?_) (fun t h => h.trans t.sameGround_moveArrival)
    ⟨rfl, rfl, rfl, rfl, rfl⟩
  have hr : t.sameGround (t.modEvents fun _ => rest) := ⟨rfl, rfl, rfl, rfl, rfl⟩
  exact (h.trans hr).trans (State.sameGround_take e _)

@[simp] theorem State.settled_map (s : State) : s.settled.map = s.map := s.sameGround_settled.map
@[simp] theorem State.settled_tracker (s : State) : s.settled.tracker = s.tracker := s.sameGround_settled.tracker
@[simp] theorem State.settled_settings (s : State) : s.settled.settings = s.settings := s.sameGround_settled.settings
@[simp] theorem State.settled_resetAsserted (s : State) : s.settled.resetAsserted = s.resetAsserted :=
  s.sameGround_settled.resetAsserted
@[simp] theorem State.settled_pending (s : State) : s.settled.pending = s.pending := s.sameGround_settled.pending

theorem State.sameGround_settledBeforeMap (s : State) : s.sameGround s.settledBeforeMap := by
  unfold State.settledBeforeMap
  constructor <;> simp

/-! ### The row of the oldest event -/

/-- The row of the oldest outstanding event takes it. -/
theorem exec_oldest {s : State} {e : Event} {rest : List Event} (h : s.events = e :: rest) :
    exec e.command s = .next ((s.modEvents fun _ => rest).take e) := by
  have hd : ∀ ch : Event → Bool, ch e = true → s.told ch e (s.modEvents fun _ => rest) := fun ch hc =>
    ⟨[], rest, by simpa using h, by simp, hc, rfl⟩
  cases e <;>
    simp only [exec, Event.command, execHubEntry, execHubExit, execCondMapUpdated, execGainRecompute, execDryCountUpdate,
      execIndexProfileApply, execHardHoldVent, execSoftHoldCap, execHardHoldBarEmpty, execHardHoldWithdraw,
      execTripBarEmpty, execCondTripHalt, execCondTripClear, execMapReplaced, execCondGrant, execCondGrantLost,
      execSlurryStop] <;>
    first
      | rw [State.takeKind_told (hd _ rfl)]; rfl
      | rw [State.takeKind_told (hd _ (by simp))]; rfl
      | rw [State.takeEvent_told (hd _ rfl) (by simp)]; rfl
      | rw [State.takeEvent_told (hd _ (by simp [Event.crossingOf, Event.levelTold])) (by simp)]; rfl

end Sys2Proof.Machine
end

