-- ==== Sys2Proof/Laws/Slurry.lean ====
section
/-!
SUPPORT. The recompute of the slurry unit, said once: every flow after it is the one the rules give (R128, R137 to R139),
and what is served from one line sums to no more than its max flow (R138).
-/

namespace Sys2Proof.Machine
open Sys2Proof

theorem recomputeSlurry_bar (g : SlurrySettings) (q : Slurry) (l : Lane) :
    (recomputeSlurry g q).bars.get l = recomputeBar g q l := by cases l <;> rfl

theorem recomputeSlurry_line (g : SlurrySettings) (q : Slurry) (k : Line) :
    (recomputeSlurry g q).lines.get k = recomputeLine g q k := by cases k <;> rfl

/-- A recompute moves no bar, and no line to another state (R139). -/
@[simp] theorem recomputeBar_feed (g : SlurrySettings) (q : Slurry) (l : Lane) :
    (recomputeBar g q l).feed = (q.bars.get l).feed := rfl
@[simp] theorem recomputeLine_state (g : SlurrySettings) (q : Slurry) (k : Line) :
    (recomputeLine g q k).state = (q.lines.get k).state := rfl

theorem recomputeBar_demandOn (g : SlurrySettings) (q : Slurry) (l : Lane) (k : Line) :
    (recomputeBar g q l).demandOn k = if (q.bars.get l).feed = some k then (q.bars.get l).demands.sum else 0 := rfl

/-- After a recompute every flow is the one the rules give. -/
theorem recomputeSlurry_flowsTrue (g : SlurrySettings) (q : Slurry) : (recomputeSlurry g q).flowsTrue g := by
  constructor
  · intro l o
    simp only [recomputeSlurry_bar, recomputeSlurry_line]
    have ho : (recomputeBar g q l).outlets.get o =
        { demand := outletDemand (q.bars.get l).rate (q.bars.get l).weights.sum ((q.bars.get l).weights.get o)
          served := servedBy g q (q.bars.get l).feed
            (outletDemand (q.bars.get l).rate (q.bars.get l).weights.sum ((q.bars.get l).weights.get o))
          valve := valveDuty ((g.outletMax.get l).get o) (servedBy g q (q.bars.get l).feed
            (outletDemand (q.bars.get l).rate (q.bars.get l).weights.sum ((q.bars.get l).weights.get o))) } := by
      cases o <;> rfl
    rw [ho]
    refine ⟨rfl, ?_, ?_, rfl⟩
    · intro hf
      have hf' : (q.bars.get l).feed = none := hf
      simp [servedBy, hf']
    · intro k hf
      have hf' : (q.bars.get l).feed = some k := hf
      simp only [servedBy, hf', servedFlow]
      rfl
  · intro k
    simp only [recomputeSlurry_line]
    refine ⟨?_, rfl, ?_, ?_, ?_, rfl⟩
    · show q.demandOn k = (recomputeBar g q .a).demandOn k + (recomputeBar g q .b).demandOn k
      rw [recomputeBar_demandOn, recomputeBar_demandOn]
      rfl
    · rintro (h | h) <;> simp_all [recomputeLine, pumpSetpoint]
    · intro h
      simp_all [recomputeLine, pumpSetpoint]
    · intro h
      simp_all [recomputeLine, pumpSetpoint]

theorem State.recompute_flowsTrue (s : State) : s.recompute.slurry.flowsTrue s.settings.slurry :=
  recomputeSlurry_flowsTrue _ _

/-- After a recompute the last-pulse timer of every line without duty is held at 0 (R130). -/
theorem recomputeSlurry_timersHeld (g : SlurrySettings) (q : Slurry) : (recomputeSlurry g q).timersHeld := by
  intro k h
  rw [recomputeSlurry_line] at h ⊢
  exact if_pos h

theorem State.recompute_timersHeld (s : State) : s.recompute.slurry.timersHeld := recomputeSlurry_timersHeld _ _

end Sys2Proof.Machine
end

