-- ==== Sys2Proof/Laws/Step.lean ====
section
/-!
SUPPORT. How a law that every step keeps is proved from one case a command: requests and frames reduce to the rules that
decide requests, and a step to a command, an event's row, or the passing of a millisecond.
-/

namespace Sys2Proof.Machine
open Sys2Proof

/-- A request row is the request taken on its port. -/
theorem exec_request (p : Port) (r : Request) (s : State) : exec (r.command p) s = .next (answerRequest p r s) := by
  cases r <;> rfl

/-- A request that the role table permits and whose length fits, as a row: its rule decides it in the state it finds. -/
theorem exec_request_decided (p : Port) (r : Request) (s₀ s : State) (hs : s₀.heardFor p r.kind = s)
    (hp : permitted p r.kind = true) (hl : lengthOk p r = true) :
    exec (r.command p) s₀ = .next ((decideRequest p s r).compose p r.kind.byte) := by
  rw [exec_request, answerRequest_eq p r s₀ hp hl, hs]

/-- `P` does not look at the ports of the link interface. -/
def PortBlind (P : State → Prop) : Prop := ∀ p f s, P s → P (State.modPort p f s)

/-- What dispatch keeps, once every rule that decides a request keeps it. -/
theorem keeps_dispatch {P : State → Prop} (hdecide : ∀ p r s, P s → P (decideRequest p s r).state) (p : Port)
    (r : Request) (s : State) (h : P s) : P (dispatch p r s).state := by
  unfold dispatch
  split
  · exact h
  · split
    · exact h
    · exact hdecide p r s h

theorem keeps_dispatchBytes {P : State → Prop} (hdecide : ∀ p r s, P s → P (decideRequest p s r).state) (p : Port)
    (k : Byte) (bs : List Byte) (s : State) (h : P s) : P (dispatchBytes p k bs s).state := by
  unfold dispatchBytes
  split
  · exact h
  · split
    · exact h
    · split
      · exact h
      · exact hdecide _ _ _ h

/-- What every rule that decides a request keeps, and the taking of what is outstanding before it, every request row keeps. -/
theorem keeps_answerRequest {P : State → Prop} (hport : PortBlind P) (hheard : ∀ p k s, P s → P (State.heardFor p k s))
    (hdecide : ∀ p r s, P s → P (decideRequest p s r).state) (p : Port) (r : Request) (s : State) (h : P s) :
    P (answerRequest p r s) := by
  unfold answerRequest Answer.compose
  exact hport _ _ _ (keeps_dispatch hdecide p r _ (hheard p _ s h))

theorem keeps_takeRequest {P : State → Prop} (hport : PortBlind P) (hsettled : ∀ k s, P s → P (State.settledFor k s))
    (hdecide : ∀ p r s, P s → P (decideRequest p s r).state) (p : Port) (q : SlotRequest) (s : State) (h : P s) :
    P (s.takeRequest p q) := by
  unfold State.takeRequest State.sendReply Answer.compose
  exact hport _ _ _ (hport _ _ _ (keeps_dispatchBytes hdecide _ _ _ _ (hsettled _ _ (hport _ _ _ h))))

/-- What every rule that decides a request keeps, and the silence timers do not touch, a frame keeps. -/
theorem keeps_frame {P : State → Prop} (hport : PortBlind P) (hsettled : ∀ k s, P s → P (State.settledFor k s))
    (hsilence : ∀ l f s, P s → P (State.modSilence l f s))
    (hdecide : ∀ p r s, P s → P (decideRequest p s r).state) (p : Port) (q : SlotRequest) (crc : BitVec 16) (s : State)
    (h : P s) : P (s.frame p q crc) := by
  unfold State.frame
  split
  · exact hport _ _ _ h
  · have h1 : P ((s.modPort p fun k => { k with collecting := false }).hearFrame p) := by
      unfold State.hearFrame
      split
      · exact hsilence _ _ _ (hport _ _ _ h)
      · exact hport _ _ _ h
    unfold State.handToSlots
    split
    · exact keeps_takeRequest hport hsettled hdecide _ _ _ h1
    · exact hport _ _ _ h1
    · exact hport _ _ _ h1

theorem keeps_replySent {P : State → Prop} (hport : PortBlind P) (hsettled : ∀ k s, P s → P (State.settledFor k s))
    (hdecide : ∀ p r s, P s → P (decideRequest p s r).state) (p : Port) (s : State) (h : P s) : P (s.replySent p) := by
  unfold State.replySent
  split
  · simp only
    split
    · exact keeps_takeRequest hport hsettled hdecide _ _ _ (hport _ _ _ h)
    · exact hport _ _ _ h
  · exact h

theorem step_cons {s : State} {c : Instr} {rest : List Instr} (hp : s.pending = c :: rest) :
    step s = exec c { s with pending := rest } := by
  unfold step
  rw [hp]

theorem step_event {s : State} {e : Event} {rest : List Event} (hp : s.pending = []) (he : s.events = e :: rest) :
    step s = exec e.command s := by
  unfold step State.idle
  rw [hp, he]

theorem step_idle {s : State} (hp : s.pending = []) (he : s.events = []) : step s = .next s.settled.tick := by
  unfold step State.idle
  rw [hp, he]

/-- What a step does: the command in front; with none waiting, the oldest event's row; with none of those, an arrival that is
due and then a millisecond. -/
theorem step_cases {s t : State} (h : step s = .next t) :
    (∃ c rest, s.pending = c :: rest ∧ exec c { s with pending := rest } = .next t) ∨
    (∃ e rest, s.pending = [] ∧ s.events = e :: rest ∧ exec e.command s = .next t) ∨
    (s.pending = [] ∧ s.events = [] ∧ t = s.settled.tick) := by
  cases hp : s.pending with
  | cons c rest =>
    rw [step_cons hp] at h
    exact .inl ⟨c, rest, rfl, h⟩
  | nil =>
    cases he : s.events with
    | cons e rest =>
      rw [step_event hp he] at h
      exact .inr (.inl ⟨e, rest, rfl, rfl, h⟩)
    | nil =>
      rw [step_idle hp he] at h
      exact .inr (.inr ⟨rfl, rfl, (Host.Outcome.next.inj h).symm⟩)

/-- A law that the queue does not enter, that every command keeps and that a millisecond keeps, every step keeps. -/
theorem keeps_step {P : State → Prop} (hqueue : ∀ s q, P s → P { s with pending := q })
    (hexec : ∀ c s t, P s → exec c s = .next t → P t) (htick : ∀ s, P s → P s.settled.tick) {s t : State} (h : P s)
    (hs : step s = .next t) : P t := by
  rcases step_cases hs with ⟨c, rest, _, hx⟩ | ⟨e, rest, _, _, hx⟩ | ⟨_, _, ht⟩
  · exact hexec c _ t (hqueue s rest h) hx
  · exact hexec _ s t h hx
  · rw [ht]
    exact htick s h

end Sys2Proof.Machine
end

