-- ==== Sys2Proof/Tests/Slice0.lean ====
section
/-!
SUPPORT. The model's own tests: ill-formed commands that WellFormed refuses, values worked out in the chapters of spec/, and
for every statement that has hypotheses a concrete state and operands that meet them, at the ends of their ranges.
-/

namespace Sys2Proof.Tests
open Sys2Proof Sys2Proof.Machine

-- One theorem at a time: each `decide` waits for the kernel, and waiting theorems hold a thread each.
set_option Elab.async false

/-! ### WellFormed refuses each kind of ill-formed command (10.1) -/

theorem test_wf_reads : ([.statusRead .s (some 256), .get .a 256 0, .get .a 0 256, .mapRead .b 256 1, .mapRead .b 0 256,
    .set .s 256 0 0, .set .s 0 256 0, .set .s 0 0 4294967296] : List Instr).all (fun i => !i.wf) = true := by decide

theorem test_wf_notes : ([.noteSend .s 256 [7], .noteSend .s 1 [], .noteSend .s 1 (List.replicate 17 7)] :
    List Instr).all (fun i => !i.wf) = true := by decide

theorem test_wf_map : ([.mapRestore .s [], .mapRestore .s (List.replicate 8 ⟨0, 0, 0⟩), .mapRestore .s [⟨256, 0, 0⟩],
    .mapRestore .s [⟨0, 65536, 0⟩], .mapRestore .s [⟨0, 0, 65536⟩], .chordLoad .s 256 (List.replicate 20 0),
    .chordLoad .s 0 (List.replicate 19 0), .chordLoad .s 0 (List.replicate 20 65536)] : List Instr).all
      (fun i => !i.wf) = true := by decide

theorem test_wf_lanes : ([.profileStage .a ⟨65536, 0, 0, 0, 0, 0⟩ 0, .profileStage .a (.all 0) 256,
    .gainLoad .s 256 0 (List.replicate 8 0), .gainLoad .s 0 256 (List.replicate 8 0), .gainLoad .s 0 0 [0],
    .gainLoad .s 0 0 (List.replicate 8 256), .rateSet .a 65536 (.all 1), .rateSet .a 0 ⟨0, 0, 256⟩] : List Instr).all
      (fun i => !i.wf) = true := by decide

theorem test_wf_codes : ([.condMode .s 256, .diskReset .s 16777216, .lineStart .s 256, .lineRestart .s 256,
    .lineStop .s 256, .feedSelect .a 256, .remoteHold .s none 0, .remoteHold .a (some 0) 0, .remoteHold .s (some 256) 0,
    .remoteHold .a none 256, .remoteTrip .s 256, .resume .s none, .resume .a (some 0), .resume .s (some 256),
    .validFrame .s 0 1 (List.replicate 61 0) 0] : List Instr).all (fun i => !i.wf) = true := by decide

/-! ### Codes and frames (10.1, R166) -/

/-- The kind codes of 10.1: the first and the last of the role table, and one between. -/
theorem test_kind_codes : Kind.ofByte 0x01 = some .identRead ∧ Kind.ofByte 0x0C = some .hubClaim ∧
    Kind.ofByte 0x1F = some .stationRestart ∧ Kind.ofByte 0x00 = none ∧ Kind.ofByte 0x20 = none := by decide

/-- The check value of a CRC with R166's polynomial, start and bit order, worked by hand over the bytes "123456789". -/
theorem test_crc : crc16 [0x31, 0x32, 0x33, 0x34, 0x35, 0x36, 0x37, 0x38, 0x39] = 0x29B1 := by decide +kernel

/-- 10.1: FEED SELECT carries one byte, RATE SET a two-byte rate and three weights. -/
theorem test_payloads : Request.ofPayload .a .feedSelect [2] = some (.feedSelect 2) ∧
    Request.ofPayload .b .rateSet [0x01, 0x2C, 2, 1, 1] = some (.rateSet 300 ⟨2, 1, 1⟩) ∧
    Request.ofPayload .a .resume [0] = none ∧ Request.ofPayload .s .resume [1] = some (.resume (some 1)) := by decide

/-! ### Values worked out in the chapters -/

/-- R34's table. -/
theorem test_speed : speedOf 6000000 = 100 ∧ speedOf 1000000 = 600 ∧ speedOf 750000 = 800 ∧ speedOf 400000 = 1500 ∧
    speedOf 16777215 = 35 := by decide +kernel

/-- R2 at the default thresholds, at each of their edges. -/
theorem test_classify : (let g := Settings.default.map
    classify g 24575 0 = .fresh ∧ classify g 24576 0 = .glazing ∧ classify g 49152 0 = .glazed ∧
      classify g 0 1499999 = .fresh ∧ classify g 0 1500000 = .worn) := by decide +kernel

/-- Section 3.6: the chords of bands 3, 9 and 2 for a carrier at 20000. -/
def chordTable : ChordTable :=
  { entries := [300, 299, 296, 291, 284, 275, 264, 250, 233, 212, 187, 156, 118, 70, 25, 0, 0, 0, 0, 0], loaded := true }
theorem test_chords : chordAt chordTable true 20000 9 = 299 ∧ chordAt chordTable true 20000 3 = 70 ∧
    chordAt chordTable true 20000 2 = 0 ∧ chordAt chordTable false 20000 9 = 0 := by decide +kernel

/-- Section 3.6: the contact pressure, the exposure of band 9, its recovery and its height increment. -/
theorem test_close_arithmetic : contactPressure ⟨250, 260, 270, 260, 240, 400⟩ = 256 ∧ exposure 1224704 = 75 ∧
    exposure 1126400 = 69 ∧ scaledCut 1200 96 = 450 ∧ scaledCut 1200 40 = 187 := by decide +kernel

/-- R53: a band with wear 100, exposure 20 and recovery 450 comes to 0, and one with 65500 and exposure 75 to 65535. -/
theorem test_fold_clamps : (let g := { Settings.default.map with cutGain := 96 }
    (foldBand g (20 * 16384) 1200 { Band.fresh with wear := 100 }).wear = 0 ∧
      (foldBand g (75 * 16384) 0 { Band.fresh with wear := 65500 }).wear = 65535) := by decide +kernel

/-- R137: a rate of 100 with weights 1, 1, 1 gives 33 each; the worked case of R138: floor(demand × 600 / 900). -/
theorem test_sharing : outletDemand 100 3 1 = 33 ∧ servedFlow 600 900 200 = 133 ∧ servedFlow 600 900 250 = 166 ∧
    servedFlow 600 600 250 = 250 ∧ valveDuty 200 133 = 2723 := by decide +kernel

/-- R132: 33 pulses in a window at 2000 pulses per litre are 990 mL/min. -/
theorem test_measured : ({ SupplyLine.reset with window := 33 }.windowEnd 2000).measured = 990 := by decide

/-- R82: at a ramp rate of 200 a command moves one unit on the fifth update. -/
theorem test_ramp : (let c := { Channel.reset with drive := 10 }
    (Nat.repeat (stepChannel 200 false) 4 c).command = 0 ∧ (Nat.repeat (stepChannel 200 false) 5 c).command = 1) := by
  decide

/-- Section 6.11: at close 1 band 17 drops out below cond stop, and bands 14, 9, 4 keep their order. -/
theorem test_rebuild : (let wear := fun k => if k = 14 then 30250 else if k = 9 then 23550 else if k = 4 then 22700
      else if k = 17 then 8100 else if k = 11 then 16400 else if k = 6 then 15000 else 0
    let m := { PadMap.reset with bands := (List.range 20).map fun k => { Band.fresh with wear := wear k } }
    rebuildQueue Settings.default.map m [⟨14, 30100, none⟩, ⟨9, 24000, none⟩, ⟨4, 22500, some 2⟩, ⟨17, 9000, none⟩]) =
      [⟨14, 30250, none⟩, ⟨9, 23550, none⟩, ⟨4, 22700, some 1⟩, ⟨11, 16400, none⟩] := by decide +kernel

/-! ### States for the witnesses -/

def stopped : State := State.reset

/-- A station in which lane A may touch down: a valid map, a turning platen, referenced arms outside the hub, a loaded table
and a wet bar. -/
def ready : State :=
  (((State.reset.modMap fun m => { m with valid := true, chords := .all chordTable }).modTracker fun t =>
    { t with
      state := .tracking, inWindow := true, stallTimer := some 0, periodTimer := 1
      arms := .all { count := 43000, referenced := true, inside := false } }).modSlurry fun q =>
    { q with
      lines := .all { SupplyLine.reset with state := .ready }
      bars := ⟨{ Bar.reset with feed := some .l1, rate := 100 }, Bar.reset⟩ }).recompute

def withArm (m : Arm) (count : BitVec 32) (s : State) : State :=
  s.modArm m fun _ => { count := count, referenced := true, inside := false }
def inside (m : Arm) (s : State) : State := s.modArm m fun a => { a with inside := true }
def heldBy (m : Arm) (s : State) : State := s.modHub fun h => { h with holder := some m }
def waiting (m : Arm) (s : State) : State := s.modHub fun h => { h with waitList := [m] }
def lane (st : LaneState) (s : State) : State := s.modLane .a fun x => { x with state := st }
def angle (n : Int) (s : State) : State := s.modTracker fun t => { t with angle := n }
def platen (st : TrackerState) (s : State) : State := s.modTracker fun t => { t with state := st }
def conditioner (st : CondState) (s : State) : State := s.modCond fun c => { c with state := st }
def target (t : CondTarget) (s : State) : State := s.modCond fun c => { c with target := some t }
def lineIn (st : LineState) (s : State) : State := s.modLine .l1 fun x => { x with state := st }
def tripped (s : State) : State := s.modMatrix fun m => { m with station := .tripped, tripCauses := [.remote] }
def held (sev : Severity) (s : State) : State := s.setCauses .a [causeEntry .dry sev]
def told (e : Event) (s : State) : State := { s with events := [e] }

/-- A row finds the state as it is, whether or not it is a request and of whichever kind: nothing is outstanding, no arrival is
due, and both carrier links have just been heard. -/
def finds (s : State) : Bool :=
  decide (s.settled = s) && decide (s.heard .s = s) && decide (s.heard .a = s) && decide (s.heardFor .s .padReset = s) &&
    decide (s.heardFor .a .padReset = s)

/-- `finds` speaks of the requests of every kind: a state is heard in one way for the kinds that change the map, and in one way
for the others. -/
theorem finds_heardFor (s : State) (k : Kind) (h : finds s = true) : s.heardFor .s k = s ∧ s.heardFor .a k = s := by
  have key : ∀ p, s.heardFor p k = if changesRecords k then s.heardFor p .padReset else s.heard p := fun p => by
    unfold State.heardFor State.settledFor State.heard
    rw [Option.any_some, Option.any_some, if_pos (show changesRecords .padReset = true from rfl)]
  simp only [finds, Bool.and_eq_true, decide_eq_true_eq] at h
  obtain ⟨⟨⟨⟨-, hs⟩, ha⟩, hs'⟩, ha'⟩ := h
  rw [key, key]
  split
  · exact ⟨hs', ha'⟩
  · exact ⟨hs, ha⟩

theorem told_only (ch : Event → Bool) (e : Event) (s : State) (h : ch e = true) :
    (told e s).told ch e { s with events := [] } := ⟨[], [], rfl, by simp, h, rfl⟩

/-! ### Witnesses: links -/

theorem test_hyp_RequestReadsBack : (Request.noteSend 2 [7]).wf .s = true ∧ (Request.resume none).wf .a = true ∧
    (Request.set 0x20 11 1000).wf .s = true := by decide

theorem test_hyp_FramesAndSlots : (let q : SlotRequest := ⟨1, 1, []⟩
    let busy := ready.modPort .a fun k => { k with inProcess := some q }
    let full := busy.modPort .a fun k => { k with waiting := some q }
    (Request.hubClaim).wf .a = true ∧ ready.resetAsserted = false ∧ (ready.port .a).inProcess = none ∧
      (ready.port .a).waiting = none ∧ (List.replicate 60 (0 : Byte)).length ≤ 60 ∧
      (busy.port .a).inProcess = some q ∧ (busy.port .a).waiting = none ∧ (full.port .a).waiting.isSome = true ∧
      60 < (List.replicate 61 (0 : Byte)).length ∧ (0 : BitVec 16) ≠ requestCrc 1 1 []) := by decide +kernel

theorem test_hyp_ReceiverAndSlotEvents : (let q : SlotRequest := ⟨9, 0x0C, []⟩
    let sending := ready.modPort .a fun k => { k with sending := some [], collecting := true }
    let next := sending.modPort .a fun k => { k with waiting := some q }
    (sending.port .a).collecting = true ∧ (ready.port .a).collecting = false ∧ (sending.port .a).sending.isSome = true ∧
      (sending.port .a).waiting = none ∧ (next.port .a).sending.isSome = true ∧ next.resetAsserted = false ∧
      (next.port .a).waiting = some ⟨9, Request.hubClaim.kind.byte, Request.hubClaim.payload⟩ ∧
      ((sending.modPort .a fun k => { k with waiting := some ⟨9, 0xC8, [1]⟩ }).port .a).waiting = some ⟨9, 0xC8, [1]⟩ ∧
      (ready.port .a).sending = none) := by
  decide +kernel

theorem test_hyp_DispatchAndReply : Port.a ≠ .s ∧ Kind.set ∈ [Kind.set] ∧ permitted .a .noteSend = true ∧
    lengthOk .a (.noteSend 0 []) = false ∧ lengthOk .a (.noteSend 0 (List.replicate 17 7)) = false ∧
    permitted .a Kind.set = false ∧ permitted .a Request.hubClaim.kind = true ∧ lengthOk .a .hubClaim = true ∧
    Request.ofPayload .a Request.hubClaim.kind [] = some .hubClaim ∧
    (32 : Byte).toNat = 32 ∧ permitted .s .condMode = true ∧ Request.ofPayload .s .condMode [] = none ∧
      finds ready = true := by
  decide +kernel

theorem test_hyp_ReadRequests : 11 ≤ (if Port.s = .s then 11 else 3) ∧ (if Port.s = .s then 11 else 3) < 12 ∧
    3 ≤ (if Port.a = .s then 11 else 3) ∧ (if Port.a = .s then 11 else 3) < 4 ∧
      finds ready = true := by
  decide +kernel

theorem test_hyp_Notes : (let full := ready.modPort .b fun k => { k with noteBox := some ⟨.a, [7]⟩ }
    1 ≤ [(7 : Byte)].length ∧ (List.replicate 16 (7 : Byte)).length ≤ 16 ∧ Port.b ≠ .a ∧
      (ready.port .b).noteBox = none ∧ 2 < 3 ∧ (full.port .b).noteBox ≠ none ∧
      (full.port .b).noteBox = some ⟨.a, [7]⟩ ∧ Port.a ≠ .b ∧
      [ready, full].all finds = true) := by
  decide +kernel

theorem test_hyp_settings : Item.ofCode 0x30 0 = some .policy ∧ Item.ofCode 0x30 1 = none ∧
    Item.inRange 1 .policy = true ∧ Item.inRange 2 .policy = false ∧
    (ready.settings.put .policy 0).consistent = true ∧ Item.quiet ready .policy = true ∧
    Item.ofCode 0x31 0 = some .parkRadius ∧ Item.inRange 45000 .parkRadius = true ∧
    (ready.settings.put .parkRadius 45000).consistent = true ∧
    Item.quiet (conditioner .parked ready) .parkRadius = false ∧
    (ready.settings.put .sweepInner 36000).consistent = false ∧ Item.value ready.settings .parkRadius = 43000 ∧
      finds (conditioner .parked ready) = true ∧ finds ready = true := by
  decide +kernel

/-! ### Witnesses: the map and the tracker -/

theorem test_hyp_MapReadAnswers : 1 ≤ 7 ∧ 7 ≤ 7 ∧ 13 + 7 ≤ 20 ∧ 20 < 14 + 7 ∧ 7 < 8 ∧ stopped.map.valid = false ∧
    ready.map.valid = true ∧
      [stopped, ready].all finds = true := by
  decide +kernel

theorem test_hyp_MapRestoreStores : (let e : RestoreEntry := ⟨19, 65535, 4000⟩
    (e.band ≤ 19 ∧ e.wear ≤ 65535 ∧ e.heightUm ≤ 4000) ∧ ([e].map (·.band)).Nodup ∧ ¬ ([e, e].map (·.band)).Nodup ∧
      19 < (⟨20, 0, 0⟩ : RestoreEntry).band ∧ 65535 < (⟨0, 65536, 0⟩ : RestoreEntry).wear ∧
      4000 < (⟨0, 0, 4001⟩ : RestoreEntry).heightUm ∧ ready.map.valid = true ∧ stopped.map.valid = false ∧
      stopped.map.bands.length = 20 ∧ stopped.map.restored.length = 20 ∧ stopped.map.restored.getD 3 false = false ∧
      3 ∉ [e].map (·.band) ∧
      (let m := stopped.modMap fun m => { m with restored := List.replicate 19 true ++ [false] }
        ∀ k < 20, m.map.restored.getD k false = true ∨ k ∈ [e].map (·.band)) ∧
      [stopped, ready, stopped.modMap fun m => { m with restored := List.replicate 19 true ++ [false] }].all finds = true) := by
  decide +kernel

theorem test_hyp_PadResetAndChordLoad : (ready.lane .a).state = .raised ∧ (ready.lane .b).state = .raised ∧
    (conditioner .parked ready).cond.state ∈ [CondState.parked, .unreferenced, .fault] ∧
    (conditioner .moving ready).cond.state ∉ [CondState.parked, .unreferenced, .fault] ∧
    ((lane .polish ready).lane .a).state ≠ .raised ∧ chordTable.entries.length = 20 ∧
    (∀ c ∈ chordTable.entries, c ≤ 300) ∧ 300 < 301 ∧ 1 < 2 ∧
      [ready, conditioner .parked ready, lane .polish ready].all finds = true := by
  decide +kernel

theorem test_hyp_AccrualAmounts : (let s := lane .polish ready
    (s.lane .a).state ≠ .raised ∧ (s.arm .a).referenced = true ∧ (s.map.chords.get .a).loaded = true ∧
      (ready.lane .a).state = .raised ∧ 0 < ((s.bar .a).outlets.get .inner).served ∧
      (s.settings.slurry.outletFirst.get .a).get .inner ≤ 6 ∧
      6 + 1 ≤ (s.settings.slurry.outletFirst.get .a).get .inner + (s.settings.slurry.outletCount.get .a).get .inner ∧
      ((s.bar .b).outlets.get .inner).served = 0 ∧ ((s.bar .b).outlets.get .middle).served = 0 ∧
      ((s.bar .b).outlets.get .outer).served = 0 ∧ (conditioner .dwelling s).cond.state = .dwelling ∧
      (s.cond.state ≠ .dwelling ∧ s.cond.state ≠ .sweeping) ∧
      (let far := withArm .a 20000 { s with slurry := Slurry.reset };
        (far.arm .a).referenced = true ∧ 0 < far.laneChord .a 9 ∧ far.wetFactor .a 9 = 2) ∧
      ¬ (ready.lane .a).state ≠ .raised) := by
  decide +kernel

theorem test_hyp_ForwardCount : (let s := angle 1023 ready
    s.tracker.state ≠ .unhomed ∧ (angle 16387 ready).tracker.angle ≤ 16387 ∧ s.tracker.angle + 1 = s.tracker.nextMark ∧
      s.tracker.nextMark ≤ 15360 ∧ (angle 1022 ready).tracker.angle + 1 ≠ (angle 1022 ready).tracker.nextMark ∧
      [s, angle 16387 ready, angle 1022 ready].all finds = true) := by
  decide +kernel

theorem test_hyp_OtherPlatenCounts : stopped.tracker.state = .unhomed ∧ ready.tracker.state ≠ .unhomed ∧
    -16382 ≤ (angle (-16382) ready).tracker.angle ∧ ¬ (0 ≤ (angle (-1) ready).tracker.angle) ∧
    (angle 15360 ready).tracker.angle ≤ 15360 ∧ (1024 : Int) ∣ (angle 15360 ready).tracker.angle ∧
    (1024 : Int) ∣ (angle 0 ready).tracker.angle ∧ ready.tracker.reversed = false ∧
    (angle 16388 ready).tracker.angle = 16388 ∧ (angle (-16383) ready).tracker.angle = -16383 ∧
      [stopped, ready, angle (-16382) ready, angle (-1) ready, angle 15360 ready, angle 16388 ready, angle (-16383) ready].all finds = true := by
  decide +kernel

theorem test_hyp_closes : (let s := angle 16380 ready
    s.tracker.state = .tracking ∧ s.tracker.platenSuspect = false ∧ s.tracker.disturbed = false ∧
      16380 ≤ s.tracker.angle ∧ s.map.suspect = false ∧ s.map.valid = true ∧
      (angle 16379 ready).tracker.angle < 16380 ∧ s.tracker.state ≠ .unhomed ∧ (platen .lost s).tracker.state = .lost ∧
      (platen .stalled s).tracker.state = .stalled ∧ 0 < s.tracker.periodTimer + 0 ∧
      ¬ ((angle 16379 ready).tracker.state = .lost ∧ 16380 ≤ (angle 16379 ready).tracker.angle) ∧
      (let twice := (angle 16379 ready).modTracker fun t => { t with suspectRun := 2 };
        finds twice = true ∧ (twice.indexEdge 1).tracker.state = .lost ∧ twice.tracker.state ≠ .lost) ∧
      [s, angle 16379 ready, platen .lost s, platen .stalled s].all finds = true) := by
  decide +kernel

theorem test_hyp_StartIndexAndStall : stopped.tracker.state = .unhomed ∧ ready.tracker.state = .tracking ∧
    ready.tracker.stallTimer.isSome = true ∧ (platen .lost ready).tracker.stallTimer.isSome = true ∧
    (platen .lost ready).tracker.state = .lost ∧
      [stopped, ready, platen .lost ready].all finds = true := by
  decide +kernel

theorem test_hyp_ArmCountAndHomeEdge : (let parked := conditioner .parked ready
    ((43001 : BitVec 32).toInt - (42801 : BitVec 32).toInt).natAbs ≤ 200 ∧
      200 < ((43001 : BitVec 32).toInt - (42800 : BitVec 32).toInt).natAbs ∧ Arm.a ≠ .cond ∧
      parked.cond.state ∉ [CondState.unreferenced, .homing, .fault] ∧ parked.cond.state ≠ .homing ∧
      (conditioner .homing ready).cond.state = .homing ∧ (conditioner .homing ready).cond.mode = .off ∧
      ((conditioner .homing ready).modCond fun c => { c with mode := .map }).cond.mode ≠ .off ∧
      [ready, parked, conditioner .homing ready, (conditioner .homing ready).modCond fun c => { c with mode := .map }].all finds = true ∧ (conditioner .homing ready).cond.target = none ∧
      (conditioner .homing ready).hub.holder = none ∧
      (let leaving := heldBy .cond (inside .cond (withArm .cond 1000 (target .park (conditioner .homing ready))));
        finds leaving = true ∧ leaving.cond.target ≠ none ∧ (leaving.arm .cond).inside = true ∧
          (leaving.hub.waitList = [] ∧ leaving.hub.holder = some .cond))) := by
  decide +kernel

/-! ### Witnesses: the hub and head pressure -/

theorem test_hyp_HubClaimCases : (stopped.arm .a).referenced = false ∧ (ready.arm .a).referenced = true ∧
    (heldBy .a ready).hub.holder = some Lane.a.arm ∧ (heldBy .cond ready).hub.holder ≠ some Lane.a.arm ∧
    Lane.a.arm ∈ (waiting .a (heldBy .cond ready)).hub.waitList ∧ Lane.a.arm ∉ (heldBy .cond ready).hub.waitList ∧
    (held .hard ready).holdLevel .a = .hard ∧ ready.holdLevel .a ≠ .hard ∧ ready.hub.holder = none ∧
    (heldBy .cond ready).hub.holder ≠ none ∧
      [stopped, ready, heldBy .a ready, heldBy .cond ready, waiting .a (heldBy .cond ready), held .hard ready].all finds = true := by
  decide +kernel

theorem test_hyp_HubReleaseAndHandOff : ((inside .a (heldBy .a ready)).arm .a).inside = true ∧
    (inside .a (heldBy .a ready)).hub.holder = some .a ∧ ((heldBy .a ready).arm .a).inside = false ∧
    (waiting .b (heldBy .a ready)).hub.waitList = Arm.b :: [] ∧ ready.hub.waitList = [] ∧
    Arm.b ∈ (waiting .b (heldBy .a ready)).hub.waitList ∧ ready.hub.holder = none ∧
      [ready, heldBy .a ready, inside .a (heldBy .a ready), waiting .b (heldBy .a ready)].all finds = true := by
  decide +kernel

theorem test_hyp_HubCrossingsAreTaken :
    (told (.hubEntry .a) ready).told (Event.crossingOf .a) (.hubEntry .a) { ready with events := [] } ∧
    (told (.hubExit .cond) (heldBy .cond ready)).told (Event.crossingOf .cond) (.hubExit .cond)
      { heldBy .cond ready with events := [] } ∧
    (heldBy .cond ready).hub.holder = some .cond ∧ (heldBy .a ready).hub.holder = some .a ∧
    ready.hub.holder ≠ some .a ∧ ready.hub.intruders = ⟨false, false, false⟩ ∧
    (ready.modHub fun h => { h with intruders := ⟨false, true, false⟩ }).hub.intruders ≠ ⟨false, false, false⟩ :=
  ⟨told_only _ _ _ (by decide), told_only _ _ _ (by decide), by decide +kernel⟩

theorem test_hyp_ProfileStageAndIndexApply :
    (told .indexProfileApply ready).told (Event.is .indexProfileApply) .indexProfileApply { ready with events := [] } ∧
    (∀ c, (Six.all 1000).get c ≤ 1000) ∧ 1000 < (Six.all 1001).get .z1 ∧ 2 ≤ 2 ∧ 2 < 3 ∧
    (ready.lane .a).pending ≠ some .atIndex ∧
    ((ready.modLane .a fun x => { x with pending := some .atIndex }).lane .a).pending = some .atIndex ∧
    finds ready = true :=
  ⟨told_only _ _ _ (by decide), fun c => by cases c <;> decide, by decide +kernel⟩

theorem test_hyp_TouchdownTestsAndEffects : ready.touchdownRefusal .a = none ∧
    stopped.touchdownRefusal .a = some .mapInvalid ∧
    ((ready.modLane .a fun x => { x with pending := some .nextTouchdown }).lane .a).pending = some .nextTouchdown ∧
    (ready.lane .a).pending ≠ some .nextTouchdown ∧
      [ready, stopped, ready.modLane .a fun x => { x with pending := some .nextTouchdown }].all finds = true := by
  decide +kernel

theorem test_hyp_ReleaseAndCompletions : ((lane .touchdown ready).lane .a).state = .touchdown ∧
    ((lane .polish ready).lane .a).state = .polish ∧ ((lane .releasing ready).lane .a).state = .releasing ∧
    (ready.lane .a).state = .raised ∧ ((lane .touchdown ready).lane .a).atTargets = true ∧
    ((lane .releasing ready).lane .a).allZero = true ∧
      [ready, lane .touchdown ready, lane .polish ready, lane .releasing ready].all finds = true := by
  decide +kernel

theorem test_hyp_GainRecompute : (let u : MapUpdated :=
      { dry := .all false, positions := .all { position := 20000, referenced := true }, diskCut := false };
    (told (.gainRecompute u) ready).told Event.isGainRecompute (.gainRecompute u) { ready with events := [] }) ∧
    (List.replicate 8 255).length = 8 ∧ (∀ g ∈ List.replicate 8 255, g ≤ 255) ∧ 1 ≤ 1 ∧ 1 < 2 ∧ 255 < 256 ∧ laneCode .b < 2 ∧
    (let s := ready.modLane .a fun x => { x with compPosition := some { position := 20000, referenced := true } };
      (s.lane .a).compPosition = some { position := 20000, referenced := true } ∧ s.map.valid = true ∧
        s.wearsUnder .a ≠ [] ∧ finds s = true) ∧ finds ready = true ∧ (ready.lane .a).compPosition = none ∧ stopped.map.valid = false :=
  ⟨told_only _ _ _ rfl, by decide +kernel⟩

/-- An update that finds a channel's deviation timer and the supply timer one short of their ends, and a touchdown and a release
at theirs. -/
theorem test_hyp_PressureUpdate : (let zero : Lanes (Six (BitVec 12)) := .all (.all 0)
    let fault := (lane .polish ready).modLane .a fun x => { x with channels := .all { Channel.reset with command := 900, drive := 900, devTimer := 199 } }
    let starved := ready.modPress fun p => { p with supplyTimer := ready.settings.press.supplyTime - 1 }
    [fault, starved, lane .touchdown ready, lane .releasing ready].all finds = true ∧
      fault.pressureFault .a = false ∧ (fault.pressureUpdate zero 4095).pressureFault .a = true ∧
      starved.press.supplyLowActive = false ∧ (starved.pressureUpdate zero 0).press.supplyLowActive = true ∧
      (((lane .touchdown ready).pressureUpdate zero 4095).lane .a).state = .polish ∧
      (((lane .releasing ready).pressureUpdate zero 4095).lane .a).state = .raised) := by
  decide +kernel

theorem test_hyp_PressureExpiries : (let s := ready.modPress fun p => { p with supplyTimer := 1 }
    let d := ready.modLane .a fun x => { x with channels := .all { Channel.reset with devTimer := 1 } }
    0 < s.press.supplyTimer ∧ s.press.supplyLowActive = false ∧ s.causes .a = [] ∧
      (s.modPress fun p => { p with supplyLowActive := true }).press.supplyLowActive = true ∧
      0 < ((d.lane .a).channels.get .z1).devTimer ∧ d.pressureFault .a = false ∧
      (d.modLane .a fun x => { x with channels := .all { Channel.reset with devTimer := 1, fault := true } }).pressureFault .a =
        true ∧
      [s, d, s.modPress fun p => { p with supplyLowActive := true }].all finds = true) := by
  decide +kernel

theorem test_hyp_ToldBlocksAct :
    (told (.hardHoldVent .a) ready).told (Event.levelTold .a) (.hardHoldVent .a) { ready with events := [] } ∧
    (told (.softHoldCap .a) ready).told (Event.levelTold .a) (.softHoldCap .a) { ready with events := [] } ∧
    (told (.hardHoldBarEmpty .a) ready).told (Event.is (.hardHoldBarEmpty .a)) (.hardHoldBarEmpty .a)
      { ready with events := [] } ∧
    (told (.hardHoldWithdraw .a) ready).told (Event.is (.hardHoldWithdraw .a)) (.hardHoldWithdraw .a)
      { ready with events := [] } ∧
    (told .tripBarEmpty ready).told (Event.is .tripBarEmpty) .tripBarEmpty { ready with events := [] } ∧
    (told .slurryStop ready).told (Event.is .slurryStop) .slurryStop { ready with events := [] } ∧
    (told .mapReplaced ready).told (Event.is .mapReplaced) .mapReplaced { ready with events := [] } ∧
    ((ready.bar .a).feed = some .l1 ∧ (ready.bar .b).feed = none ∧ (ready.lane .a).state = .raised ∧
      ((lane .polish ready).lane .a).state = .polish ∧ ready.holdLevel .a = .none ∧
      (held .soft ready).holdLevel .a = .soft) :=
  ⟨told_only _ _ _ (by decide), told_only _ _ _ (by decide), told_only _ _ _ (by decide), told_only _ _ _ (by decide),
    told_only _ _ _ (by decide), told_only _ _ _ (by decide), told_only _ _ _ (by decide), by decide +kernel⟩

/-! ### Witnesses: the conditioner -/

theorem test_hyp_CondModeByState : 2 < 3 ∧ (conditioner .fault ready).cond.state = .fault ∧
    ready.cond.state ≠ .fault ∧ CondMode.map ≠ ready.cond.mode ∧ CondMode.off = ready.cond.mode ∧
    ready.cond.state = .unreferenced ∧ ready.matrix.station = .normal ∧ (tripped ready).matrix.station = .tripped ∧
    (conditioner .moving ready).cond.state ∈ [CondState.waitHub, .waitClear, .moving, .returning] ∧
    (conditioner .dwelling ready).cond.state ∈ [CondState.lowering, .dwelling, .sweeping] ∧
    ((conditioner .lifting ready).modCond fun c => { c with liftPurpose := some .halt }).cond.liftPurpose = some .halt ∧
    (conditioner .lifting ready).cond.liftPurpose ≠ some .halt ∧
      [ready, conditioner .fault ready, conditioner .moving ready, conditioner .dwelling ready, conditioner .lifting ready, tripped ready].all finds = true := by
  decide +kernel

/-- A free entry for band 19, out of the hub, one for band 5, whose centre is 11000 and so the edge of the hub's need, and a
blocked and a resting one. -/
theorem test_hyp_SelectionAndSweepStart : (let s := conditioner .parked ready
    let q := fun (e : QueueEntry) (x : State) => x.modCond fun c => { c with queue := [e] }
    let edge := s.settings.tracker.hubSize * 2000 + s.settings.tracker.condReach
    s.cond.mode ≠ .map ∧ s.cond.state ∈ [CondState.parked, .waitHub, .waitClear, .moving, .returning] ∧
      s.cond.spent = false ∧ (s.hub.holder = none ∧ s.hub.waitList = []) ∧ s.settings.cond.policy = .clear ∧
      edge ≤ 2000 * 5 + 1000 ∧ 2000 * 4 + 1000 < edge ∧ (s.arm .cond).referenced = true ∧
      (q ⟨5, 20000, none⟩ s).chosenEntry = some ⟨5, 20000, none⟩ ∧ (q ⟨5, 20000, some 1⟩ s).chosenEntry = none ∧
      (q ⟨19, 20000, none⟩ (lane .polish s)).chosenEntry = none ∧
      (q ⟨19, 20000, none⟩ (lane .polish s)).someBlocked = true ∧
      [s, q ⟨5, 20000, none⟩ s, q ⟨4, 20000, none⟩ s, q ⟨5, 20000, some 1⟩ s, q ⟨19, 20000, none⟩ (lane .polish s)].all finds = true ∧
      CondMode.sweep ≠ .off ∧ CondMode.sweep ≠ s.cond.mode ∧
      finds (s.modCond fun c => { c with spent := true }) = true ∧
      (s.settings.cond.sweepInner ≥ edge ∧ 10999 < edge)) := by
  decide +kernel

theorem test_hyp_CondAndDiskReset : (conditioner .fault ready).cond.state = .fault ∧ ready.cond.state ≠ .fault ∧
    16777215 < 16777216 ∧ 16777215 ≤ 16777215 ∧
    (conditioner .moving ready).cond.state ∉ [CondState.parked, .unreferenced, .fault] ∧
    (conditioner .parked ready).cond.state ∈ [CondState.parked, .unreferenced, .fault] ∧
    ready.settings.cond.diskLifeLimit ≤ 200000 ∧ 199999 < ready.settings.cond.diskLifeLimit ∧
    ready.cond.spent = false ∧ ((conditioner .parked ready).modCond fun c => { c with mode := .map }).cond.mode ≠ .off ∧
      [ready, conditioner .fault ready, conditioner .moving ready, conditioner .parked ready].all finds = true := by
  decide +kernel

theorem test_hyp_QueueRebuild : (let q : List QueueEntry := [⟨0, 1, none⟩, ⟨19, 1, some 1⟩, ⟨3, 1, some 2⟩]
    (q.map (·.band)).Nodup ∧ (∀ e ∈ q, e.band ≤ 19)) ∧
    Settings.default.map.condStop ≤ 8192 ∧ Settings.default.map.condStart ≤ 16384 := by decide +kernel

/-- A dwell on band 9 with its entry, without it, under a lane that is down, and at the dwell limit. -/
theorem test_hyp_CondMapUpdated : (let u : MapUpdated :=
      { dry := .all false, positions := .all { position := 20000, referenced := true }, diskCut := true };
    (told (.condMapUpdated u) ready).told Event.isCondMapUpdated (.condMapUpdated u) { ready with events := [] }) ∧
    (let s := (target (.band 9) (conditioner .dwelling ready)).modMap fun m =>
        { m with bands := m.bands.set 9 { Band.fresh with wear := 16384 } }
      let on := s.modCond fun c => { c with mode := .map }
      s.cond.target = some (.band 9) ∧ s.cond.mode = .off ∧ on.cond.mode ≠ .off ∧
        (rebuildQueue on.settings.map on.map on.cond.queue).map (·.band) = [9] ∧
        s.cond.dwell + 1 < s.settings.cond.dwellLimit ∧
        (s.modCond fun c => { c with dwell := 7 }).settings.cond.dwellLimit ≤ 7 + 1 ∧
        0 < (withArm .a 19000 (lane .polish on)).laneChord .a 9) ∧
    (conditioner .sweeping ready).cond.state = .sweeping ∧
    ((conditioner .parked ready).modCond fun c => { c with mode := .map }).cond.state ∈
      [CondState.parked, .waitHub, .waitClear] ∧ (ready.hub.holder = none ∧ ready.hub.waitList = []) ∧
    (conditioner .lowering ready).cond.state ∈ [CondState.unreferenced, .homing, .moving, .lowering, .lifting] :=
  ⟨told_only _ _ _ rfl, by decide +kernel⟩

theorem test_hyp_CondTold :
    (told .condGrant ready).told Event.grantTold .condGrant { ready with events := [] } ∧
    (told .condGrantLost ready).told Event.grantTold .condGrantLost { ready with events := [] } ∧
    (told .condTripHalt ready).told Event.tripTold .condTripHalt { ready with events := [] } ∧
    (told .condTripClear ready).told Event.tripTold .condTripClear { ready with events := [] } ∧
    ((conditioner .waitHub ready).cond.state = .waitHub ∧ (heldBy .cond ready).hub.holder = some .cond ∧
      (target (.band 4) (conditioner .moving ready)).needsHub (.band 4) = true ∧ ready.needsHub (.band 5) = false ∧
      (heldBy .b ready).hub.holder = some .b ∧ (ready.arm .cond).referenced = true ∧
      ((conditioner .sweeping ready).modCond fun c => { c with sweepDir := some .inward }).cond.sweepDir = some .inward ∧
      (ready.modSettings fun g => { g with cond := { g.cond with sweepInner := 10999 } }).needsHub .sweepStart = true ∧
      ((conditioner .lifting ready).cond.state = .lifting ∧ (conditioner .lifting ready).cond.liftPurpose ≠ some .halt ∧
        (heldBy .cond (conditioner .lifting ready)).hub.holder = some .cond) ∧
      (target .sweepResume (conditioner .lowering ready)).cond.target = some .sweepResume ∧
      ready.needsHub .sweepStart = false ∧ (ready.hub.holder = none ∧ ready.hub.waitList = []) ∧
      ((conditioner .unreferenced ready).modCond fun c => { c with mode := .map }).cond.mode ≠ .off) :=
  ⟨told_only _ _ _ rfl, told_only _ _ _ rfl, told_only _ _ _ rfl, told_only _ _ _ rfl, by decide +kernel⟩

/-- The tracker's count at the two sides of an arrival and of the following check. -/
theorem test_hyp_CondMotion : (let s := (target .park (conditioner .returning ready)).modCond fun c =>
      { c with stepPos := 42900 }
    s.strokeRadius = some 43000 ∧ ready.strokeRadius = none ∧
      ((withArm .cond 43050 s).arm .cond).count.toInt - 43000 = 50 ∧
      ((withArm .cond 42949 s).arm .cond).count.toInt - 43000 = -51 ∧ s.cond.stepPos.toInt ≠ 43000 ∧
      s.cond.stepPos.toInt < 43000 ∧
      ((42701 : BitVec 32).toInt - (42901 : BitVec 32).toInt).natAbs ≤ 200 ∧
      200 < ((42700 : BitVec 32).toInt - (42901 : BitVec 32).toInt).natAbs ∧
      (target (.band 3) (conditioner .moving ready)).strokeRadius = some 7000 ∧
      ((conditioner .sweeping ready).modCond fun c => { c with sweepDir := some .outward }).strokeRadius = some 36000 ∧
      ready.needsHub .sweepStart = false ∧
      (ready.modSettings fun g => { g with cond := { g.cond with sweepInner := 10999 } }).needsHub .sweepStart = true ∧
      [withArm .cond 42949 s, ready, conditioner .homing ready, withArm .cond 42701 s].all finds = true ∧
      (withArm .cond 43050 s).arrivalDue = true ∧ s.cond.state = .returning ∧ s.cond.mode = .off ∧
      (s.hub.holder = none ∧ s.hub.waitList = [])) := by
  decide +kernel

theorem test_hyp_CondFaults : (let s := (target .park (conditioner .returning (withArm .cond 42949 ready))).modCond fun c =>
      { c with settleTimer := some 499, dfDevTimer := 1 }
    s.strokeRadius = some 43000 ∧ 50 < ((s.arm .cond).count.toInt - 43000).natAbs ∧ s.cond.settleTimer.isSome = true ∧
      s.cond.state ≠ .fault ∧ 0 < s.cond.dfDevTimer ∧
      ((conditioner .lifting s).modCond fun c => { c with liftTimer := some 0 }).cond.liftTimer.isSome = true ∧
      (conditioner .homing s).cond.state = .homing ∧ (conditioner .fault s).cond.state = .fault ∧
      [s, conditioner .homing s, conditioner .fault s].all finds = true) := by
  decide +kernel

/-- A lowering one unit short of its force, and one that reaches it; a lift whose command reaches 0; a deviation timer one
short of its end. -/
theorem test_hyp_Downforce : (let low := fun n => (conditioner .lowering ready).modCond fun c => { c with dfCommand := n }
    (low 198).cond.dfCommand + 1 ≠ (low 198).loweringForce ∧ (low 199).cond.dfCommand + 1 = (low 199).loweringForce ∧
      (low 200).cond.dfCommand = (low 200).loweringForce ∧
      ((conditioner .lifting ready).updateDownforce 0).cond.dfCommand = 0 ∧
      ((conditioner .lifting ready).updateDownforce 0).cond.liftTimer = some 0 ∧
      ((ready.modCond fun c => { c with dfDevTimer := 198 }).updateDownforce 4095).cond.dfDevTimer = 199 ∧
      ((ready.modCond fun c => { c with dfDevTimer := 199 }).updateDownforce 4095).cond.dfDevTimer = 200 ∧
      ready.settings.press.deviationTime = 200 ∧ ready.cond.state ≠ .fault ∧ ready.cond.queue = [] ∧
      ready.needsHub .sweepStart = false ∧
      (ready.modSettings fun g => { g with cond := { g.cond with sweepInner := 0 } }).needsHub .sweepResume = true ∧
      [low 198, low 199, low 200, conditioner .lifting ready].all finds = true ∧
      (let noted := (conditioner .lifting ready).modCond fun c => { c with liftPurpose := some .halt, clearNoted := true };
        finds noted = true ∧ noted.cond.dfCommand = 0 ∧ (noted.hub.holder = none ∧ noted.hub.waitList = []))) := by
  decide +kernel

/-! ### Witnesses: slurry -/

theorem test_hyp_LineRequests : (let free := ready.modBar .a fun b => { b with feed := none }
    3 < 4 ∧ ready.targetActive .slurryStop = false ∧
      ((ready.modMatrix fun m => { m with inputs := m.inputs.set 7 { InterlockInput.reset with accepted := true } }).modSettings
        fun g => { g with matrix := { g.matrix with masks := g.matrix.masks.set .slurryStop 0x80 } }).targetActive
          .slurryStop = true ∧
      ((lineIn .off ready).line .l1).state = .off ∧ ((lineIn .stopped ready).line .l1).state = .stopped ∧
      0 < ready.settings.slurry.primeCount.get .l1 ∧ (ready.bar .a).feed = some .l1 ∧ (free.bar .a).feed ≠ some .l1 ∧
      (free.bar .b).feed ≠ some .l1 ∧ (free.line .l1).state = .ready ∧
      (ready.modSettings fun g => { g with slurry := { g.slurry with primeCount := .all 0 } }).settings.slurry.primeCount.get
        .l1 = 0 ∧
      [ready, free, lineIn .off ready, lineIn .stopped ready].all finds = true) := by
  decide +kernel

theorem test_hyp_FeedAndRate : 3 < 4 ∧ (tripped ready).matrix.station = .tripped ∧ ready.matrix.station = .normal ∧
    ready.holdLevel .a ≠ .hard ∧ ready.targetActive .slurryStop = false ∧ (ready.line .l2).state = .ready ∧
    ((lineIn .stopped ready).line .l1).state ≠ .ready ∧ (15 ≤ 15 ∧ 15 < 16) ∧ 65535 ≤ 65535 ∧
      [ready, tripped ready, lineIn .stopped ready].all finds = true := by
  decide +kernel

theorem test_hyp_FlowEvents : (let priming := fun n => ready.modLine .l1 fun x =>
      { x with state := .priming, duty := 1, prime := n }
    (stopped.line .l1).duty = 0 ∧ 0 < (ready.line .l1).duty ∧ (ready.line .l1).state ≠ .priming ∧
      ((priming 254).line .l1).prime + 1 < 256 ∧ 256 ≤ ((priming 255).line .l1).prime + 1 ∧
      ready.settings.slurry.primeCount.get .l1 = 256 ∧ (ready.bar .a).fallback = false ∧
      (ready.modSettings fun g => { g with slurry := { g.slurry with fallback := .all (some .l2) } }).settings.slurry.fallback.get
        .l1 = some .l2 ∧ (ready.line .l2).state = .ready ∧ ready.settings.slurry.fallback.get .l1 = none ∧
      (ready.bar .b).feed ≠ some .l1 ∧
      [ready, stopped, priming 254, priming 255].all finds = true) := by
  decide +kernel

/-! ### Witnesses: holds, trips, restart, pins -/

theorem test_hyp_RemoteAndTripClear : (let set := fun sev => ready.modMatrix fun m =>
      { m with remoteHold := m.remoteHold.set .a (some sev), remoteTrip := true }
    ready.matrix.remoteHold.get .a = none ∧ (set .soft).matrix.remoteHold.get .a = some .soft ∧
      (set .hard).matrix.remoteHold.get .a = some .hard ∧ ready.matrix.remoteTrip = false ∧
      (set .soft).matrix.remoteTrip = true ∧ 2 < 3 ∧ 1 < 2 ∧ ready.matrix.station = .normal ∧
      (tripped ready).matrix.station = .tripped ∧ (tripped (set .soft)).tripActive .remote = true ∧
      ∀ c ∈ TripCause.all, (tripped ready).tripActive c = false ∧
      [ready, set .soft, set .hard, tripped ready, tripped (set .soft)].all finds = true) := by
  decide +kernel

theorem test_hyp_ResumeByCases : (let wetHeld := fun sev => held sev ready
    ready.causes .a = [] ∧ (wetHeld .soft).causes .a ≠ [] ∧
      (∀ e ∈ (wetHeld .soft).causes .a, (wetHeld .soft).causeActive .a e.kind = false) ∧
      [ready, wetHeld .soft, wetHeld .hard, held .soft (lane .polish stopped)].all finds = true ∧
      (wetHeld .soft).holdLevel .a = .soft ∧
      (wetHeld .hard).holdLevel .a = .hard ∧
      (∃ e ∈ (held .soft (lane .polish stopped)).causes .a, (held .soft (lane .polish stopped)).causeActive .a e.kind = true) ∧
      ((wetHeld .hard).modBar .a fun b => { b with resume := some ⟨.l1, false⟩ }).bar .a ≠ (wetHeld .hard).bar .a) := by
  decide +kernel

theorem test_hyp_StationRestart : ready.armsInside = [] ∧ (inside .a ready).armsInside = [.a] ∧
    (inside .b (inside .a ready)).armsInside.length = 2 ∧ ready.matrix.station = .normal ∧
    (ready.lane .a).state = .raised ∧ (ready.lane .b).state = .raised ∧
    ready.cond.state ∈ [CondState.parked, .unreferenced, .fault] ∧ ((lane .polish ready).lane .a).state ≠ .raised ∧
      [ready, inside .a ready, inside .b (inside .a ready), lane .polish ready].all finds = true := by
  decide +kernel

theorem test_hyp_PinsDryAndSilence :
    (let u : MapUpdated := { dry := .all true, positions := .all { position := 0, referenced := false }, diskCut := false };
      (told (.dryCountUpdate u) ready).told Event.isDryCountUpdate (.dryCountUpdate u) { ready with events := [] }) ∧
    (ready.matrix.inputs.length = 8 ∧ (ready.matrix.input 7).pin = false ∧ 0 < ready.settings.matrix.debounceTime ∧
      (ready.modSettings fun g => { g with matrix := { g.matrix with debounceTime := 0 } }).settings.matrix.debounceTime = 0 ∧
      (let s := (ready.modInput 7 fun x => { x with pin := true }).modSettings fun g =>
          { g with matrix := { g.matrix with masks := .all 0x80 } };
        (s.matrix.input 7).pin ≠ (s.matrix.input 7).accepted ∧ s.targetActive .holdA = false ∧
          (s.modInput 7 fun x => { x with accepted := true }).targetActive .holdA = true ∧
          (s.modInput 7 fun x => { x with accepted := true }).targetActive .stationTrip = true) ∧
      [ready, ready.modInput 7 fun x => { x with pin := true }, ready.modSettings fun g =>
        { g with matrix := { g.matrix with debounceTime := 0 } }].all finds = true ∧
      0 < ready.settings.matrix.dryLimit ∧ ready.settings.matrix.dryLimit ≤ 2 ∧
      min 8 (ready.matrix.dryCount.get .a + 1) < ready.settings.matrix.dryLimit ∧
      (ready.links.silence.get .a).silent = false ∧
      ((ready.modLinks fun k => { k with silence := .all ⟨250, true, true⟩ }).links.silence.get .a).silent = true) :=
  ⟨told_only _ _ _ rfl, by decide +kernel⟩

/-! ### Witnesses: the queue, the passing of time, SET -/

/-- Timers one step short of their ends and at them: the stall timer, a silence timer, a debounce timer, a last-pulse timer,
the window, and the three timers of the conditioner. -/
theorem test_hyp_PassingTime : (let short := ready.modTracker fun t => { t with stallTimer := some 4998 }
    let due := ready.modTracker fun t => { t with stallTimer := some 4999 }
    let silence := fun n => ready.modLinks fun k => { k with silence := .all ⟨n, false, false⟩ }
    let pin := fun n => ready.modInput 0 fun x => { x with pin := true, timer := n }
    let pulse := fun n => ready.modLine .l1 fun x => { x with lastPulse := n }
    let settle := (target .park (conditioner .returning (withArm .cond 42949 ready))).modCond fun c =>
      { c with settleTimer := some 499 }
    let lift := (conditioner .lifting ready).modCond fun c => { c with liftTimer := some 1999 }
    let homing := (conditioner .homing ready).modCond fun c => { c with homingTimer := some 59999 }
    [short, due, pin 3, pin 4, pulse 498, pulse 499, settle, lift, homing].all (fun s =>
        decide (s.settled = s) && decide (s.pending = []) && decide (s.events = [])) = true ∧
      [silence 248, silence 249].all (fun s => decide (s.settled = s)) = true ∧
      (told .slurryStop ready).pending = [] ∧ (told .slurryStop ready).events = .slurryStop :: [] ∧
      4998 + 1 < ready.settings.tracker.stallLimit ∧ ready.settings.tracker.stallLimit ≤ 4999 + 1 ∧
      248 + 1 < ready.settings.linkSilence ∧ ready.settings.linkSilence ≤ 249 + 1 ∧ ready.matrix.inputs.length = 8 ∧
      (pin 4).matrix.input 0 = ⟨true, false, 4, 5⟩ ∧ 498 + 1 < ready.settings.slurry.stopTimeout.get .l1 ∧
      ready.settings.slurry.stopTimeout.get .l1 ≤ 499 + 1 ∧ 0 < (ready.line .l1).duty ∧
      settle.strokeRadius = some 43000 ∧ 50 < ((settle.arm .cond).count.toInt - 43000).natAbs ∧
      stopped.tracker.state = .unhomed) := by decide +kernel

/-- A millisecond at whose end no timer is. -/
theorem test_hyp_PassingTime_quiet : finds ready = true ∧ ready.pending = [] ∧ ready.events = [] ∧
    ready.tracker.stallTimer = some 0 ∧ 0 + 1 < ready.settings.tracker.stallLimit ∧
    (∀ l, (ready.links.silence.get l).silent = true ∨
      (ready.links.silence.get l).timer + 1 < ready.settings.linkSilence) ∧
    (∀ i, (ready.matrix.input i).pin = (ready.matrix.input i).accepted) ∧ ready.cond.settleTimer = none ∧
    ready.cond.liftTimer = none ∧ ready.cond.homingTimer = none ∧
    ∀ k, (ready.line k).lastPulse + 1 < ready.settings.slurry.stopTimeout.get k :=
  ⟨by decide +kernel, rfl, rfl, rfl, by decide +kernel, fun l => by cases l <;> decide +kernel, by decide +kernel, rfl, rfl, rfl,
    fun k => by cases k <;> decide +kernel⟩

/-- Two lines at the end of their stop timeout of 500 ms and one a millisecond short of it, with the flows and timers as the
rules derive them; and one line alone at its end. -/
theorem test_hyp_PassingTime_lines : (let pulse := fun (n : Nat) (k : Line) (s : State) => s.modLine k fun x => { x with lastPulse := n }
    let one := pulse 499 .l1 ready
    let two := pulse 499 .l1 (pulse 499 .l2 (pulse 498 .l3 ready))
    let expires := fun (s : State) k => (((s.line k).state = .priming ∨ (s.line k).state = .ready) ∧ 0 < (s.line k).duty) ∧
      s.settings.slurry.stopTimeout.get k ≤ (s.line k).lastPulse + 1
    two.slurry.flowsTrue two.settings.slurry ∧ two.slurry.timersHeld ∧ expires two .l1 ∧ expires two .l2 ∧ ¬ expires two .l3 ∧
      one.pending = [] ∧ one.events = [] ∧ finds one = true ∧ finds two = true ∧
      expires one .l1 ∧ ¬ expires one .l2 ∧ ∀ i j, expires one i → expires one j → i = j) := by
  refine ⟨⟨fun l o => ⟨by cases l <;> cases o <;> decide +kernel, by cases l <;> cases o <;> decide +kernel,
      fun k => by cases l <;> cases o <;> cases k <;> decide +kernel, by cases l <;> cases o <;> decide +kernel⟩,
    fun k => by cases k <;> decide +kernel⟩, fun k => by cases k <;> decide +kernel, by decide +kernel, by decide +kernel,
    by decide +kernel, rfl, rfl, by decide +kernel, by decide +kernel, by decide +kernel, by decide +kernel,
    fun i j => by cases i <;> cases j <;> decide +kernel⟩

/-- The last millisecond of a stall timer and of a debounce timer, and the one before (R31, R149). -/
theorem test_tick_limits : (let due := ready.modTracker fun t => { t with stallTimer := some 4999 }
    let short := ready.modTracker fun t => { t with stallTimer := some 4998 }
    let pin := fun n => (ready.modInput 0 fun x => { x with pin := true, timer := n }).tick.matrix.input 0
    due.tick.tracker.state = .stalled ∧ short.tick.tracker.state = .tracking ∧
      short.tick.tracker.stallTimer = some 4999 ∧ (pin 3).accepted = false ∧ (pin 4).accepted = true) := by decide +kernel

theorem test_hyp_OutstandingIsTakenFirst : (told (.hubEntry .a) ready).events = .hubEntry .a :: [] ∧
    ready.events = [] ∧ ready.arrivalDue = false := by decide

/-- A SET would be accepted, and with a new value. -/
def may (s : State) (id inst v : Nat) : Bool :=
  (Item.ofCode id inst).any fun i =>
    Item.inRange v i && (s.settings.put i v).consistent && i.quiet s && decide (i.value s.settings ≠ v)

/-- An item of each clause, with a new value in its range that the constraints and the quiet condition allow. -/
theorem test_hyp_SetTakesEffect : (let parked := (conditioner .parked ready).modCond fun c => { c with mode := .sweep, diskLife := 5 }
    let late := (ready.modLine .l1 fun x => { x with lastPulse := 50 }).modLinks fun k =>
      { k with silence := .all ⟨50, false, false⟩ }
    finds ready = true ∧ finds parked = true ∧ late.settled = late ∧ may ready 0x30 0 0 = true ∧
      may ready 0x10 0 500 = true ∧ ready.tracker.stallTimer = some 0 ∧
      (ready.modTracker fun t => { t with stallTimer := some 500 }).tracker.stallTimer = some 500 ∧
      may ready 0x11 0 10 = true ∧ may ready 0x14 0 6 = true ∧ may ready 0x15 1 20000 = true ∧ may ready 0x20 5 0 = true ∧
      may ready 0x22 0 1000 = true ∧ may ready 0x36 0 0 = true ∧ may ready 0x38 0 5 = true ∧
      may parked 0x38 0 6 = true ∧ may ready 0x40 0 50 = false ∧ may ready 0x40 0 100 = true ∧
      may late 0x44 0 50 = true ∧ may late 0x44 0 51 = true ∧ (late.line .l1).lastPulse = 50 ∧
      0 < (late.line .l1).duty ∧ may ready 0x47 0 10 = true ∧ may ready 0x4A 0 10 = true ∧ may ready 0x51 0 255 = true ∧
      may ready 0x52 3 255 = true ∧ may late 0x60 0 50 = true ∧ may late 0x60 0 51 = true ∧
      (ready.lane .a).state = .raised ∧ ((lane .polish ready).lane .a).state = .polish ∧ ready.holdLevel .a = .none ∧
      (held .soft ready).holdLevel .a = .soft) := by decide +kernel

/-! ### What earlier commands have brought about is taken before the next -/

/-- Run the commands from a state; the part never stops. -/
def after : List Instr → State → State
  | [], s => s
  | c :: rest, s =>
      match exec c s with
      | .next t => after rest t
      | _ => s

/-- R38, R66: a hub claim taken right after a SET that puts the arm inside finds the intrusion. -/
theorem test_claim_after_set : (let s := after [.set .s 0x14 0 6, .hubClaim .a] (withArm .a 25000 ready)
    s.matrix.station = .tripped ∧ s.hub.holder = none ∧ s.hub.intruders.a = true) := by decide +kernel

/-- R176: a status read right after a trip finds the lane vented. R155: a silence expiry vents before a release completes. -/
theorem test_trip_is_whole : ((after [.remoteTrip .s 0, .statusRead .s none] (lane .polish ready)).lane .a).state = .raised ∧
    (let s := after [.silenceTimerExpiry .a, .releaseDone .a] (lane .releasing ready);
      (s.lane .a).state = .raised ∧ .releaseDone ∉ (s.port .a).notices) := by decide +kernel

/-- R155, R177: a TOUCHDOWN is a frame and restarts the silence timer; LINK_SILENT's condition is active since its expiry, a
frame ends it, and a new silence of a raised lane does not bring it back (log 30). -/
theorem test_silence : (let silent := ready.modLinks fun k => { k with silence := .all ⟨250, true, true⟩ }
    let heard := after [.identRead .a] silent;
    (after [.touchdown .a] silent).links.silence.a = ⟨0, false, false⟩ ∧ heard.causeActive .a .linkSilent = false ∧
      silent.causeActive .a .linkSilent = true ∧
      (after [.silenceTimerExpiry .a] heard).links.silence.a = ⟨250, true, false⟩) := by decide +kernel

theorem test_silence_again :
    (ready.modLinks fun k => { k with silence := .all ⟨250, true, false⟩ }).causeActive .a .linkSilent = false := rfl

/-- With no cause in the set, SOFT holds of each origin: REMOTE at SET SOFT, DRY at the dry limit, INPUT with hold severity SOFT
(a mask with no station trip), and SUPPLY_LOW at an update with no fault (R92, R150, R151, R152, R154). -/
theorem test_hyp_first_causes : (let input := (ready.modInput 7 fun x => { x with pin := true }).modSettings fun g =>
      { g with matrix := { g.matrix with severity := .all .soft, masks := g.matrix.masks.set .holdA 0x80 } }
    let dry := (told (.dryCountUpdate
      { dry := .all true, positions := .all { position := 0, referenced := false }, diskCut := false }) ready).modMatrix fun m =>
        { m with dryCount := .all 1 }
    let starved := ready.modPress fun p => { p with supplyTimer := ready.settings.press.supplyTime - 1 }
    let alone := fun k (s : State) => decide (s.causes .a = [⟨k, .soft, .all false⟩] ∧ s.holdLevel .a = .soft)
    ready.causes .a = [] ∧ input.causes .a = [] ∧ dry.causes .a = [] ∧ starved.causes .a = [] ∧
      alone .input (after [.debounceExpiry 7] input) = true ∧ alone .remote (after [.remoteHold .s (some 0) 0] ready) = true ∧
      alone .dry (after [.dryCountUpdate] dry) = true ∧
      alone .supplyLow (after [.pressureUpdate (.all (.all 0)) 0] starved) = true ∧ input.targetActive .holdA = false ∧
      (input.modInput 7 fun x => { x with accepted := true }).targetActive .holdA = true ∧
      (input.modInput 7 fun x => { x with accepted := true }).targetActive .stationTrip = false) := by decide +kernel

/-- R83, R100, R162, R171: outputs with RESET not asserted, asserted and not, with both polarities. -/
theorem test_hyp_Resets_outputs : (let low := ready.modSettings fun g =>
      { g with matrix := { g.matrix with polarity := .all .low } }
    ready.resetAsserted = false ∧ low.resetAsserted = false ∧ ready.pinLevel .stationReady = true ∧
      low.pinLevel .stationReady = false ∧ ready.pinLevel .armStop = false ∧ (tripped ready).pinLevel .armStop = true ∧
      low.pinLevel .slurryShutoff = true ∧ ready.attention .s = false ∧ (ready.file .s .glaze).attention .s = true ∧
      (ready.modCond fun c => { c with dfCommand := 500 }).downforceDuty = 2047 ∧ ready.diskMotor = false ∧
      (conditioner .lifting ready).diskMotor = true) := by decide +kernel

/-- R167, R169: a frame with an unknown kind byte is taken on an idle port, answered with UNKNOWN_KIND, and the reply sent; the
frame of a kind with a payload it does not allow is answered with LENGTH. -/
theorem test_unknown_kind_frame : (let heard := fun (kind : Byte) (payload : List Byte) =>
      (after [.validFrame .a 5 kind payload (requestCrc 5 kind payload)] ready).port .a
    (heard 0xC8 [1, 2]).reply.map (·.result) = some .unknownKind ∧ (heard 0xC8 [1, 2]).sending.isSome = true ∧
      (heard 0xC8 [1, 2]).inProcess = some ⟨5, 0xC8, [1, 2]⟩ ∧
      (heard Kind.hubClaim.byte [1]).reply.map (·.result) = some .length) := by decide +kernel

/-- R110: a count that enters the window of a move arrives though the next count leaves it. -/
theorem test_arrival_is_kept : (after [.armEncoderCount .cond .inward, .armEncoderCount .cond .outward]
    ((target (.band 9) (conditioner .moving (withArm .cond 19051 ready))).modCond fun c =>
      { c with stepPos := 19051 })).cond.state = .lowering := by decide +kernel

/-- R56: a PAD RESET taken between a close and a receiver's taking of it gives that receiver the new records. -/
theorem test_map_updated_waits : (let worn := (angle 16380 ready).modMap fun m =>
      { m with bands := List.replicate 20 { Band.fresh with wear := 60000 } }
    (after [.indexEdge 1, .gainRecompute] worn).map.bands.length = 20 ∧
      ((after [.indexEdge 1, .gainRecompute] worn).lane .a).bucket = 7 ∧
      ((after [.indexEdge 1, .padReset .s, .gainRecompute] worn).lane .a).bucket = 0) := by decide +kernel

/-- R7: a CHORD LOAD taken after a close leaves that close's glaze compensation with the old table. -/
theorem test_chord_load_after_close : (let worn := (angle 16380 ready).modMap fun m =>
      { m with bands := List.replicate 20 { Band.fresh with wear := 60000 } }
    let s := after [.indexEdge 1, .chordLoad .s 0 (List.replicate 20 0), .gainRecompute] worn
    (s.lane .a).bucket = 7 ∧ (s.map.chords.get .a).entries = List.replicate 20 0) := by decide +kernel

/-- R161: a restart that takes an active input again tells no other block of the level. -/
theorem test_restart_tells_nothing : (let s := after [.stationRestart .s] ((ready.modInput 7 fun x =>
      { x with pin := true, accepted := true }).modSettings fun g =>
        { g with matrix := { g.matrix with masks := g.matrix.masks.set .holdA 0x80 } });
    s.events = [] ∧ s.holdLevel .a ≠ .none) := by decide +kernel

/-- R130: a line that another line's stop sets running starts its last-pulse timer at 0 in that millisecond. -/
theorem test_stop_starts_next_line : (let s := ((ready.modLine .l1 fun x => { x with lastPulse := 499 }).modSettings fun g =>
      { g with slurry := { g.slurry with fallback := .all (some .l2), recirculation := .all 0 } }).recompute
    (s.line .l2).duty = 0 ∧ (s.tick.line .l1).state = .stopped ∧ 0 < (s.tick.line .l2).duty ∧
      (s.tick.line .l2).lastPulse = 0) := by decide +kernel

/-- R67, R108 (log 39): a home edge in HOMING that takes the holder out of the hub ends its grant, and the claim that the
selection makes is a new one. R177: a GET is a frame. -/
theorem test_home_edge_out_of_the_hub : (let homing := heldBy .cond (inside .cond (withArm .cond 1000 (conditioner .homing ready)))
    let s := homing.modCond fun c => { c with mode := .map, queue := [⟨4, 20000, none⟩] }
    let t := after [.homeSwitchEdge .cond] s
    t.cond.state = .moving ∧ t.hub.holder = some .cond ∧ t.events = [] ∧
      (after [.get .a 0x60 0] (ready.modLinks fun k => { k with silence := .all ⟨9, false, false⟩ })).links.silence.a =
        ⟨0, false, false⟩) := by decide +kernel

/-- R108: a conditioner that parks with a grant held outside releases it. R110: a home edge that brings the step position to the
radius starts the settle timer. -/
theorem test_park_and_home : (let back := heldBy .cond (target .park (conditioner .returning (withArm .cond 43050 ready)));
    (after [.moveArrival] back).hub.holder = none ∧
      (after [.homeSwitchEdge .cond] ((target .park (conditioner .returning (withArm .cond 42900 ready))).modCond fun c =>
        { c with stepPos := 42900 })).cond.settleTimer = some 0) := by decide +kernel

/-! ### Witnesses: the laws. A lawful state and a step from it that answers a next state. -/

theorem test_hyp_StepRunsFrontCommand : step { ready with pending := [.hubClaim .a] } =
    .next (answerRequest .a .hubClaim { ready with pending := [] }) := rfl

theorem test_hyp_HubStaysLawfulAndGuarded : (waiting .b (heldBy .a ready)).hub.lawful ∧
    ∃ t, step (waiting .b (heldBy .a ready)) = .next t :=
  ⟨⟨by decide +kernel, by decide +kernel, fun m => by cases m <;> decide +kernel, by decide +kernel⟩, _, rfl⟩

/-- A carrier inside the hub whose entry has still to be taken. -/
theorem test_hyp_HubStaysLawfulAndGuarded_guarded :
    (told (.hubEntry .b) (inside .b (withArm .b 1000 ready))).hubGuarded ∧
      ∃ t, step (told (.hubEntry .b) (inside .b (withArm .b 1000 ready))) = .next t :=
  ⟨⟨fun m => by cases m <;> decide +kernel, fun m => by cases m <;> decide +kernel⟩, _, rfl⟩

theorem test_hyp_PressureAndSlurryStayLawful : ready.pressLawful ∧ ∃ t, step ready = .next t :=
  ⟨fun l c => by
    unfold Channel.lawful
    cases l <;> cases c <;> decide +kernel, _, rfl⟩

theorem test_hyp_PressureAndSlurryStayLawful_slurry : ready.slurryLawful := by
  refine ⟨fun l => ?_, fun k => by cases k <;> decide +kernel, fun l o => ?_, fun k => by cases k <;> decide +kernel⟩
  · refine ⟨fun k => by cases l <;> cases k <;> decide +kernel, by cases l <;> decide +kernel, ?_⟩
    cases l <;> decide +kernel
  · refine ⟨by cases l <;> cases o <;> decide +kernel, by cases l <;> cases o <;> decide +kernel, fun k => ?_, ?_⟩
    · cases l <;> cases o <;> cases k <;> decide +kernel
    · cases l <;> cases o <;> decide +kernel

theorem test_hyp_PressureAndSlurryStayLawful_timers : ready.slurry.timersHeld ∧ ∃ t, step ready = .next t :=
  ⟨fun k => by cases k <;> decide +kernel, _, rfl⟩

theorem test_hyp_ConditionerAndQueueStayLawful : ready.cond.lawful ready.settings.cond.downforceLimit ∧
    ∃ t, step ready = .next t :=
  ⟨⟨by decide +kernel, by decide +kernel, by decide +kernel, by decide +kernel⟩, _, rfl⟩

def queued : State := ready.modCond fun c => { c with mode := .map, queue := [⟨3, 9000, some 64⟩, ⟨5, 9000, none⟩] }

theorem test_hyp_ConditionerAndQueueStayLawful_queue : queued.cond.queueLawful queued.settings.map.condStop ∧
    ∃ t, step queued = .next t := by
  refine ⟨⟨?_, by decide +kernel, ?_, by decide +kernel⟩, _, rfl⟩
  · simp [queued, State.modCond, QueueEntry.precedes]
  · intro e he
    simp only [queued, State.modCond, List.mem_cons, List.not_mem_nil, or_false] at he
    rcases he with rfl | rfl <;> simp [queued, ready, State.modCond, State.modMap, State.modTracker, State.modSlurry,
      State.recompute, State.reset, Settings.default]

theorem test_hyp_MatrixStaysLawful : ready.matrix.lawful ∧ ∃ t, step ready = .next t :=
  ⟨⟨by decide +kernel, fun l => by cases l <;> decide +kernel, fun h => absurd h (by decide +kernel), by decide +kernel,
    by decide +kernel, fun l => by cases l <;> decide +kernel⟩, _, rfl⟩

theorem test_hyp_MapAndTrackerStayLawful : ready.map.lawful ∧ ∃ t, step ready = .next t := by
  refine ⟨⟨by decide +kernel, fun b hb => ?_, by decide +kernel, fun _ => by decide +kernel⟩, _, rfl⟩
  have hb' : b = Band.fresh := List.eq_of_mem_replicate (n := 20) hb
  subst hb'
  exact ⟨by decide, by decide, by decide⟩

theorem test_hyp_MapAndTrackerStayLawful_tracker : ready.tracker.lawful := by
  refine ⟨by decide +kernel, by decide +kernel, by decide +kernel, ⟨1, by decide +kernel⟩, by decide +kernel,
    by decide +kernel, by decide +kernel, by decide +kernel, by decide +kernel, by decide +kernel⟩

theorem test_hyp_LinksStayLawful : (ready.modPort .b fun k => { k with notices := [.glaze], noteBox := some ⟨.a, [7]⟩ }).linksLawful ∧
    ∃ t, step (ready.modPort .b fun k => { k with notices := [.glaze], noteBox := some ⟨.a, [7]⟩ }) = .next t := by
  refine ⟨fun p => ⟨by cases p <;> decide +kernel, fun n hn => ?_, by cases p <;> decide +kernel⟩, _, rfl⟩
  cases p
  · exact absurd hn (by simp [ready, State.modPort, State.modLinks, State.port, State.modSlurry, State.modTracker,
      State.modMap, State.recompute, State.reset, Links.reset, Ports.all, Ports.set, Ports.get, PortLink.reset])
  · exact absurd hn (by simp [ready, State.modPort, State.modLinks, State.port, State.modSlurry, State.modTracker,
      State.modMap, State.recompute, State.reset, Links.reset, Ports.all, Ports.set, Ports.get, PortLink.reset])
  · have : n = ⟨.a, [7]⟩ := (Option.some.inj hn).symm
    subst this
    decide

theorem test_hyp_SettingsStayLawful : Settings.default.lawful := by
  constructor
  · intro item
    cases item <;> first | rfl | (rename_i x; cases x <;> rfl) | (rename_i x y; cases x <;> cases y <;> rfl)
  · decide

/-- A step that takes no request at all: none of the exclusions of the two statements applies. -/
theorem test_hyp_HoldLevelNeverFalls : ¬ ready.takes .resume ∧ ready.pending.head? ≠ some .hardReset ∧
    (ready.map.lawful ∧ 19 < 20 ∧ ¬ ready.takes .padReset) ∧ ∃ t, step ready = .next t := by
  have none : ∀ k, ¬ ready.takes k := by
    rintro k ⟨c, rest, hp, -⟩
    exact absurd hp (by simp [ready, State.modSlurry, State.modTracker, State.modMap, State.recompute, State.reset])
  exact ⟨none _, by decide, ⟨test_hyp_MapAndTrackerStayLawful.1, by decide, none _⟩, _, rfl⟩

end Sys2Proof.Tests
end

/-!
What a command leaves of the map, the tracker and the settings. Of the requests only SET, MAP RESTORE, PAD RESET and CHORD LOAD
move them, and of the rows of pins, sensors, timers and events only those of the platen and of the arms.
-/

namespace Sys2Proof.Machine
open Sys2Proof

theorem State.sameGround.refl (s : State) : s.sameGround s := ⟨rfl, rfl, rfl, rfl, rfl⟩

/-- The kinds whose requests can change the map, the tracker or the settings. -/
def changesGround : Kind → Bool
  | .set | .mapRestore | .padReset | .chordLoad => true
  | _ => false

theorem State.sameGround_onRise (b a : Bool) (f : State → State) (s : State) (h : s.sameGround (f s)) :
    s.sameGround (s.onRise b a f) := by
  unfold State.onRise
  split
  · exact h
  · exact .refl s

theorem State.sameGround_reevaluateLane (l : Lane) (s : State) : s.sameGround (s.reevaluateLane l) := by
  have untold : ∀ e (u : State), u.sameGround (u.addCauseUntold l e) := fun e u => by constructor <;> simp
  exact (s.sameGround_onRise _ _ _ (untold _ _)).trans (State.sameGround_onRise _ _ _ _ (untold _ _))

theorem State.sameGround_stationRestart (s : State) : s.sameGround s.stationRestart := by
  have quiet : s.sameGround ((s.pressureRestart.slurryRestart.rederiveHub.condRestart.modLinks Links.restarted).modMatrix
      Matrix.restarted) := by
    constructor <;> simp [State.condRestart, State.rederiveHub, State.pressureRestart]
  exact (quiet.trans (State.sameGround_reevaluateLane .a _)).trans (State.sameGround_reevaluateLane .b _)

theorem decideRequest_sameGround (p : Port) (r : Request) (s : State) (h : changesGround r.kind = false) :
    s.sameGround (decideRequest p s r).state := by
  cases r with
  | set | mapRestore | padReset | chordLoad => cases h
  | identRead => exact .refl s
  | statusRead => 
    simp only [decideRequest, decideStatusRead]
    constructor <;> split <;> rfl
  | noticesRead => exact ⟨rfl, rfl, rfl, rfl, rfl⟩
  | noteSend => 
    simp only [decideRequest, decideNoteSend]
    constructor <;> (repeat' split) <;> rfl
  | noteTake => 
    simp only [decideRequest, decideNoteTake]
    constructor <;> split <;> rfl
  | get => 
    simp only [decideRequest, decideGet]
    constructor <;> split <;> rfl
  | mapRead => 
    simp only [decideRequest, decideMapRead]
    constructor <;> split <;> rfl
  | hubClaim => 
    simp only [decideRequest, decideHubClaim]
    constructor <;> split <;> simp [refuse]
  | hubRelease =>
    simp only [decideRequest, decideHubRelease]
    constructor <;> split <;> simp [refuse]
  | hubForceRelease =>
    simp only [decideRequest, decideHubForceRelease]
    constructor <;> (repeat' split) <;> simp [refuse]
  | profileStage =>
    simp only [decideRequest, decideProfileStage]
    constructor <;> (repeat' split) <;> simp [refuse]
  | touchdown =>
    simp only [decideRequest, decideTouchdown, State.touchdown]
    constructor <;> (repeat' split) <;> simp [refuse]
  | release =>
    simp only [decideRequest, decideRelease]
    constructor <;> (repeat' split) <;> simp [refuse]
  | gainLoad =>
    simp only [decideRequest, decideGainLoad]
    constructor <;> (repeat' split) <;> simp [refuse]
  | condMode =>
    simp only [decideRequest, decideCondMode, State.modeChanged, State.beginHoming]
    constructor <;> (repeat' split) <;> simp [refuse, done]
  | condReset =>
    simp only [decideRequest, decideCondReset]
    constructor <;> (repeat' split) <;> simp [refuse, done]
  | diskReset =>
    simp only [decideRequest, decideDiskReset]
    constructor <;> (repeat' split) <;> simp [refuse, done]
  | lineStart =>
    simp only [decideRequest, decideLineStart, decideLineStartFrom, State.startLine]
    constructor <;> (repeat' split) <;> simp [refuse, done]
  | lineRestart =>
    simp only [decideRequest, decideLineRestart, decideLineStartFrom, State.startLine]
    constructor <;> (repeat' split) <;> simp [refuse, done]
  | lineStop =>
    simp only [decideRequest, decideLineStop]
    constructor <;> (repeat' split) <;> simp [refuse, done]
  | feedSelect =>
    simp only [decideRequest, decideFeedSelect]
    constructor <;> (repeat' split) <;> simp [refuse, done]
  | rateSet =>
    simp only [decideRequest, decideRateSet]
    constructor <;> (repeat' split) <;> simp [refuse]
  | remoteHold =>
    simp only [decideRequest, decideRemoteHold, State.setRemoteHold]
    constructor <;> (repeat' split) <;> simp [refuse, done]
  | remoteTrip =>
    simp only [decideRequest, decideRemoteTrip, State.onRise]
    constructor <;> (repeat' split) <;> simp [refuse, done]
  | resume lane =>
    simp only [decideRequest, decideResume, State.resume, State.resumeFeed, State.resumeBar]
    constructor <;> (repeat' split) <;> simp [refuse]
  | tripClear =>
    simp only [decideRequest, decideTripClear]
    constructor <;> (repeat' split) <;> simp [refuse, done]
  | stationRestart =>
    simp only [decideRequest, decideStationRestart]
    (repeat' split) 
    · exact .refl s
    · exact .refl s
    · exact s.sameGround_stationRestart

end Sys2Proof.Machine

namespace Sys2Proof.Machine
open Sys2Proof

/-! ### Rows of pins, sensors and timers -/

theorem State.sameGround_modPress (f : Pressure → Pressure) (s : State) : s.sameGround (s.modPress f) :=
  ⟨rfl, rfl, rfl, rfl, rfl⟩

theorem State.sameGround_modCond (f : Conditioner → Conditioner) (s : State) : s.sameGround (s.modCond f) :=
  ⟨rfl, rfl, rfl, rfl, rfl⟩

theorem State.sameGround_modSlurry (f : Slurry → Slurry) (s : State) : s.sameGround (s.modSlurry f) :=
  ⟨rfl, rfl, rfl, rfl, rfl⟩

theorem State.sameGround_modMatrix (f : Matrix → Matrix) (s : State) : s.sameGround (s.modMatrix f) :=
  ⟨rfl, rfl, rfl, rfl, rfl⟩

theorem State.sameGround_modLinks (f : Links → Links) (s : State) : s.sameGround (s.modLinks f) :=
  ⟨rfl, rfl, rfl, rfl, rfl⟩

theorem State.sameGround_modEvents (f : List Event → List Event) (s : State) : s.sameGround (s.modEvents f) :=
  ⟨rfl, rfl, rfl, rfl, rfl⟩

theorem State.sameGround_hearFrame (p : Port) (s : State) : s.sameGround (s.hearFrame p) := by
  unfold State.hearFrame
  split <;> exact ⟨rfl, rfl, rfl, rfl, rfl⟩

theorem State.sameGround_silenceExpiry (l : Lane) (s : State) : s.sameGround (s.silenceExpiry l) := by
  unfold State.silenceExpiry State.goSilent State.onRise
  constructor <;> (repeat' split) <;> simp [State.modSilence]

theorem State.sameGround_touchdownDone (l : Lane) (s : State) : s.sameGround (s.touchdownDone l) := by
  unfold State.touchdownDone
  constructor <;> split <;> simp

theorem State.sameGround_releaseDone (l : Lane) (s : State) : s.sameGround (s.releaseDone l) := by
  unfold State.releaseDone
  constructor <;> split <;> simp

theorem State.sameGround_reportFault (l : Lane) (b : Bool) (s : State) : s.sameGround (s.reportFault l b) :=
  s.sameGround_onRise _ _ _ (by constructor <;> simp)

theorem State.sameGround_reportSupply (b : Bool) (s : State) : s.sameGround (s.reportSupply b) := by
  unfold State.reportSupply State.onRise
  constructor <;> split <;> simp

theorem State.sameGround_pressureUpdate (adc : Lanes (Six (BitVec 12))) (supply : BitVec 12) (s : State) :
    s.sameGround (s.pressureUpdate adc supply) := by
  have stepped : ∀ low, s.sameGround ((s.updateLane .a low adc.a).updateLane .b low adc.b) := fun low => by
    constructor <;> simp
  have supplied : ∀ low (u : State), u.sameGround (u.updateSupply (supplyOf supply) low) := fun low u =>
    (u.sameGround_modPress _).trans (State.sameGround_reportSupply _ _)
  exact ((((((((stepped _).trans (State.sameGround_touchdownDone .a _)).trans (State.sameGround_touchdownDone .b _)).trans
    (State.sameGround_releaseDone .a _)).trans (State.sameGround_releaseDone .b _)).trans
    (State.sameGround_reportFault .a _ _)).trans (State.sameGround_reportFault .b _ _)).trans (supplied _ _))

theorem State.sameGround_supplyTimeExpiry (s : State) : s.sameGround s.supplyTimeExpiry := by
  unfold State.supplyTimeExpiry
  split
  · exact .refl s
  · exact (s.sameGround_modPress _).trans (State.sameGround_reportSupply _ _)

theorem State.sameGround_deviationExpiry (l : Lane) (c : Chan) (s : State) : s.sameGround (s.deviationExpiry l c) := by
  unfold State.deviationExpiry
  split
  · exact .refl s
  · exact (s.sameGround_modPress _).trans (State.sameGround_reportFault _ _ _)

theorem State.sameGround_condStep (s : State) : s.sameGround s.condStep := by
  unfold State.condStep State.stepArm
  constructor <;> (repeat' split) <;> simp

theorem State.sameGround_homingStep (b : Bool) (s : State) : s.sameGround (s.homingStep b) := by
  unfold State.homingStep State.stepArm
  constructor <;> split <;> simp

theorem State.sameGround_loweringComplete (s : State) : s.sameGround s.loweringComplete := by
  unfold State.loweringComplete
  constructor <;> (repeat' split) <;> simp

theorem State.sameGround_afterLift (p : LiftPurpose) (s : State) : s.sameGround (s.afterLift p) := by
  unfold State.afterLift
  constructor <;> (repeat' split) <;> simp

theorem State.sameGround_liftComplete (s : State) : s.sameGround s.liftComplete := by
  unfold State.liftComplete
  (repeat' split)
  · exact s.sameGround_afterLift _
  · exact .refl s
  · exact .refl s

theorem State.sameGround_condFault (k : FaultKind) (s : State) : s.sameGround (s.condFault k) := by
  constructor <;> simp

theorem State.sameGround_condTimeouts (s : State) :
    s.sameGround s.settleTimeout ∧ s.sameGround s.liftTimeout ∧ s.sameGround s.homingTimeout ∧
      s.sameGround s.downforceFault := by
  unfold State.settleTimeout State.liftTimeout State.homingTimeout State.downforceFault
  refine ⟨?_, ?_, ?_, ?_⟩ <;> constructor <;> split <;> simp

theorem State.sameGround_downforceUpdate (adc : BitVec 12) (b : Bool) (s : State) :
    s.sameGround (s.downforceUpdate adc b) := by
  have sampled : s.sameGround (s.updateDownforce adc) := ⟨rfl, rfl, rfl, rfl, rfl⟩
  refine sampled.trans ?_
  unfold State.downforceUpdate
  simp only
  (repeat' split)
  · exact State.sameGround_condFault _ _
  · exact State.sameGround_loweringComplete _
  · exact State.sameGround_liftComplete _
  · exact .refl _
  · exact .refl _

theorem State.sameGround_flowPulse (k : Line) (s : State) : s.sameGround (s.flowPulse k) := by
  unfold State.flowPulse
  constructor <;> simp only <;> (repeat' split) <;> simp

theorem State.sameGround_stopTimeout (k : Line) (s : State) : s.sameGround (s.stopTimeout k) := by
  unfold State.stopTimeout
  constructor <;> split <;> simp

theorem State.sameGround_debounceExpiry (i : InputIndex) (s : State) : s.sameGround (s.debounceExpiry i) := by
  unfold State.debounceExpiry
  constructor <;> split <;> simp

theorem State.sameGround_pinChange (i : InputIndex) (b : Bool) (s : State) : s.sameGround (s.pinChange i b) := by
  unfold State.pinChange
  constructor <;> simp only <;> (repeat' split) <;> simp

theorem State.sameGround_windowEnd (s : State) : s.sameGround s.windowEnd := ⟨rfl, rfl, rfl, rfl, rfl⟩

/-! ### A millisecond, but for the platen's timers -/

theorem State.sameGround_tickSilence (l : Lane) (s : State) : s.sameGround (s.tickSilence l) := by
  unfold State.tickSilence
  split
  · exact .refl s
  · simp only
    split
    · exact (s.sameGround_modLinks _).trans (State.sameGround_silenceExpiry l _)
    · exact s.sameGround_modLinks _

theorem State.sameGround_tickInput (s : State) (i : InputIndex) : s.sameGround (s.tickInput i) := by
  unfold State.tickInput
  split
  · exact .refl s
  · simp only
    split
    · exact (s.sameGround_modMatrix _).trans (State.sameGround_debounceExpiry i _)
    · exact s.sameGround_modMatrix _

theorem State.sameGround_tickInputs (is : List InputIndex) (s : State) :
    s.sameGround (is.foldl State.tickInput s) := by
  induction is generalizing s with
  | nil => exact .refl s
  | cons i rest ih => exact (s.sameGround_tickInput i).trans (ih _)

theorem State.sameGround_tickLines (s : State) : s.sameGround s.tickLines := by
  have stop : ∀ (b : Bool) k (u : State), u.sameGround (if b then u.stopTimeout k else u) := fun b k u => by
    split
    · exact u.sameGround_stopTimeout k
    · exact .refl u
  exact (s.sameGround_modSlurry _).trans (((stop _ .l1 _).trans (stop _ .l2 _)).trans (stop _ .l3 _))

theorem State.sameGround_tickWindow (s : State) : s.sameGround s.tickWindow := by
  unfold State.tickWindow
  constructor <;> simp only <;> split <;> rfl

theorem State.sameGround_tickCond (s : State) : s.sameGround s.tickCond := by
  unfold State.tickCond
  simp only
  (repeat' split)
  · exact (s.sameGround_modCond _).trans (State.sameGround_condTimeouts _).1
  · exact (s.sameGround_modCond _).trans (State.sameGround_condTimeouts _).2.1
  · exact (s.sameGround_modCond _).trans (State.sameGround_condTimeouts _).2.2.1
  · exact s.sameGround_modCond _

/-- A millisecond moves the map, the tracker and the settings only by the platen's timers. -/
theorem State.sameGround_tick (s : State) : s.tickPlaten.sameGround s.tick := by
  unfold State.tick
  have silent := (s.tickPlaten.sameGround_tickSilence .a).trans (State.sameGround_tickSilence .b _)
  have flowing := (silent.trans (State.sameGround_tickLines _)).trans (State.sameGround_tickWindow _)
  exact (flowing.trans (State.sameGround_tickInputs _ _)).trans (State.sameGround_tickCond _)

/-! ### Event rows -/

theorem State.takeEvent_eq {ch w : Event → Bool} {e : Event} {s u : State} (h : s.takeEvent ch w = some (e, u)) :
    u = s.modEvents (·.erase e) := by
  unfold State.takeEvent at h
  split at h
  · split at h
    · cases h; rfl
    · cases h
  · cases h

/-- The row of an event between two blocks takes such an event or changes nothing. -/
theorem sameGround_eventRow {e : Event} {s t : State} (h : exec e.command s = .next t) : s.sameGround t := by
  have took : ∀ {ch w : Event → Bool} {e' u}, s.takeEvent ch w = some (e', u) → ∀ x : Event, s.sameGround (u.take x) :=
    fun hu x => by
      rw [State.takeEvent_eq hu]
      exact (s.sameGround_modEvents _).trans (State.sameGround_take x _)
  cases e with
  | hubEntry m =>
    simp only [exec, Event.command, execHubEntry] at h
    split at h
    · next hu => cases h; exact took hu (.hubEntry m)
    · cases h; exact .refl s
  | hubExit m =>
    simp only [exec, Event.command, execHubExit] at h
    split at h
    · next hu => cases h; exact took hu (.hubExit m)
    · cases h; exact .refl s
  | condMapUpdated _ =>
    simp only [exec, Event.command, execCondMapUpdated] at h
    split at h
    · next hu => cases h; exact took hu (.condMapUpdated _)
    · cases h; exact .refl s
  | gainRecompute _ =>
    simp only [exec, Event.command, execGainRecompute] at h
    split at h
    · next hu => cases h; exact took hu (.gainRecompute _)
    · cases h; exact .refl s
  | dryCountUpdate _ =>
    simp only [exec, Event.command, execDryCountUpdate] at h
    split at h
    · next hu => cases h; exact took hu (.dryCountUpdate _)
    · cases h; exact .refl s
  | indexProfileApply =>
    simp only [exec, Event.command, execIndexProfileApply] at h
    split at h
    · next hu => cases h; exact took hu (.indexProfileApply)
    · cases h; exact .refl s
  | hardHoldVent l =>
    simp only [exec, Event.command, execHardHoldVent] at h
    split at h
    · next hu => cases h; exact took hu (.hardHoldVent l)
    · cases h; exact .refl s
  | softHoldCap l =>
    simp only [exec, Event.command, execSoftHoldCap] at h
    split at h
    · next hu => cases h; exact took hu (.softHoldCap l)
    · cases h; exact .refl s
  | hardHoldBarEmpty l =>
    simp only [exec, Event.command, execHardHoldBarEmpty] at h
    split at h
    · next hu => cases h; exact took hu (.hardHoldBarEmpty l)
    · cases h; exact .refl s
  | hardHoldWithdraw l =>
    simp only [exec, Event.command, execHardHoldWithdraw] at h
    split at h
    · next hu => cases h; exact took hu (.hardHoldWithdraw l)
    · cases h; exact .refl s
  | tripBarEmpty =>
    simp only [exec, Event.command, execTripBarEmpty] at h
    split at h
    · next hu => cases h; exact took hu (.tripBarEmpty)
    · cases h; exact .refl s
  | condTripHalt =>
    simp only [exec, Event.command, execCondTripHalt] at h
    split at h
    · next hu => cases h; exact took hu (.condTripHalt)
    · cases h; exact .refl s
  | condTripClear =>
    simp only [exec, Event.command, execCondTripClear] at h
    split at h
    · next hu => cases h; exact took hu (.condTripClear)
    · cases h; exact .refl s
  | mapReplaced =>
    simp only [exec, Event.command, execMapReplaced] at h
    split at h
    · next hu => cases h; exact took hu (.mapReplaced)
    · cases h; exact .refl s
  | condGrant =>
    simp only [exec, Event.command, execCondGrant] at h
    split at h
    · next hu => cases h; exact took hu (.condGrant)
    · cases h; exact .refl s
  | condGrantLost =>
    simp only [exec, Event.command, execCondGrantLost] at h
    split at h
    · next hu => cases h; exact took hu (.condGrantLost)
    · cases h; exact .refl s
  | slurryStop =>
    simp only [exec, Event.command, execSlurryStop] at h
    split at h
    · next hu => cases h; exact took hu (.slurryStop)
    · cases h; exact .refl s

end Sys2Proof.Machine

/-!
The records and the course: what the laws of the map and of the tracker speak of, which operations move it, and the one
theorem by which such a law is carried through every step (`CourseLaw.step`).
-/

namespace Sys2Proof.Machine
open Sys2Proof

/-! ### The records and the course -/

/-- What the map's law speaks of. -/
def PadMap.records (m : PadMap) : List Band × Bool × List Bool × BitVec 32 := (m.bands, m.valid, m.restored, m.revCount)

/-- What the tracker's law speaks of: the platen, its states and timers, without the arms. -/
def Tracker.course (t : Tracker) : TrackerState × Int × Nat × Bool × Nat × Option Nat × Nat × Nat :=
  (t.state, t.angle, t.nextMark, t.platenSuspect, t.suspectRun, t.stallTimer, t.period, t.speed)

/-- The band records, the platen's course and the map's thresholds stay from `s` to `t`. -/
structure State.sameCourse (s t : State) : Prop where
  records : t.map.records = s.map.records
  course : t.tracker.course = s.tracker.course
  thresholds : t.settings.map = s.settings.map

theorem State.sameCourse.refl (s : State) : s.sameCourse s := ⟨rfl, rfl, rfl⟩

theorem State.sameCourse.trans {s t u : State} (h : s.sameCourse t) (k : t.sameCourse u) : s.sameCourse u :=
  ⟨k.records.trans h.records, k.course.trans h.course, k.thresholds.trans h.thresholds⟩

theorem State.sameGround.sameCourse {s t : State} (h : s.sameGround t) : s.sameCourse t :=
  ⟨by rw [h.map], by rw [h.tracker], by rw [h.settings]⟩

theorem State.sameCourse_evaluateInside (m : Arm) (s : State) : s.sameCourse (s.evaluateInside m) := by
  unfold State.evaluateInside
  simp only
  split <;> exact ⟨rfl, rfl, rfl⟩

theorem State.sameCourse_evaluateAllInside (s : State) : s.sameCourse s.evaluateAllInside :=
  ((s.sameCourse_evaluateInside .a).trans (State.sameCourse_evaluateInside .b _)).trans
    (State.sameCourse_evaluateInside .cond _)

theorem State.sameCourse_evaluateWindow (s : State) : s.sameCourse s.evaluateWindow := by
  unfold State.evaluateWindow
  simp only
  split <;> exact ⟨rfl, rfl, rfl⟩

theorem State.sameCourse_modArm (m : Arm) (f : ArmTrack → ArmTrack) (s : State) : s.sameCourse (s.modArm m f) :=
  ⟨rfl, rfl, rfl⟩

theorem State.sameCourse_cross (m : Arm) (s : State) : s.sameCourse (s.cross m) := by
  unfold State.cross
  simp only
  (repeat' split)
  · exact s.sameCourse_modArm _ _
  · exact (s.sameCourse_modArm _ _).trans (State.sameGround_hubEntry _ _).sameCourse
  · exact (s.sameCourse_modArm _ _).trans (State.sameGround_hubExit _ _).sameCourse

theorem State.sameCourse_armCount (m : Arm) (e : ArmEdge) (s : State) : s.sameCourse (s.armCount m e) := by
  have counted : ∀ f, s.sameCourse ((s.modArm m f).evaluateInside m) := fun f =>
    (s.sameCourse_modArm m f).trans (State.sameCourse_evaluateInside m _)
  have checked : ∀ u : State, u.sameGround u.followingCheck := fun u => by constructor <;> simp
  unfold State.armCount
  simp only
  split
  · exact (counted _).trans (checked _).sameCourse
  · exact counted _

theorem State.sameCourse_homeEdge (m : Arm) (s : State) : s.sameCourse (s.homeEdge m) := by
  have edge : ∀ u : State, u.sameGround u.condHomeEdge := fun u => by
    unfold State.condHomeEdge
    constructor <;> simp only <;> split <;> simp
  have loaded : ∀ f, s.sameCourse (s.modArm m f) := fun f => s.sameCourse_modArm m f
  unfold State.homeEdge
  simp only
  (repeat' split)
  · exact (loaded _).trans (State.sameCourse_evaluateInside m _)
  · exact ((loaded _).trans (State.sameCourse_cross m _)).trans (edge _).sameCourse
  · exact ((loaded _).trans (State.sameCourse_evaluateInside m _)).trans (edge _).sameCourse

/-- The effects of a changed setting leave records and course, unless a lower stall limit stalls the tracker (R39). -/
theorem Item.changed_sameCourse (item : Item) (before s : State) :
    s.sameCourse (item.changed before s) ∨ item.changed before s = s.enterStalled := by
  have silence : ∀ l (u : State), u.sameCourse (u.silenceTimeChanged l) := fun l u => by
    unfold State.silenceTimeChanged
    split
    · exact (u.sameGround_silenceExpiry l).sameCourse
    · exact .refl u
  cases item with
  | stallLimit =>
    simp only [Item.changed, State.stallLimitChanged]
    (repeat' split)
    · exact .inr rfl
    · exact .inl (.refl s)
    · exact .inl (.refl s)
  | windowLower | windowUpper => exact .inl s.sameCourse_evaluateWindow
  | hubSize | laneReach | condReach => exact .inl s.sameCourse_evaluateAllInside
  | limit l c => exact .inl (State.sameGround.sameCourse (by constructor <;> simp [Item.changed, State.limitChanged]))
  | diskLifeLimit => exact .inl (State.sameGround.sameCourse (by constructor <;> simp [Item.changed]))
  | maxFlow | recirculation | primeFlow => exact .inl ⟨rfl, rfl, rfl⟩
  | stopTimeout k =>
    refine .inl (State.sameGround.sameCourse ?_)
    unfold Item.changed State.stopTimeoutChanged
    constructor <;> simp only <;> split <;> simp
  | invertMask | mask => exact .inl (State.sameGround.sameCourse (by constructor <;> simp [Item.changed]))
  | linkSilence => exact .inl ((silence .a s).trans (silence .b _))
  | _ => exact .inl ⟨rfl, rfl, rfl⟩

/-! ### Which requests a command takes -/

/-- A known kind byte is the byte of its kind (10.1). -/
theorem Kind.byte_ofByte {b : Byte} {k : Kind} (h : Kind.ofByte b = some k) : b = k.byte := by
  unfold Kind.ofByte at h
  split at h
  · cases h
  · next hb =>
    obtain ⟨hi, hk⟩ := List.getElem?_eq_some_iff.1 h
    have hidx : Kind.all.idxOf k = b.toNat - 1 := by
      rw [← hk]
      exact List.Nodup.idxOf_getElem (by decide) _ hi
    apply BitVec.eq_of_toNat_eq
    unfold Kind.byte
    rw [hidx, BitVec.toNat_ofNat, Nat.sub_add_cancel (by omega), Nat.mod_eq_of_lt b.isLt]

/-- What a payload spells for a kind is a request of that kind (10.1). -/
theorem Request.ofPayload_kind {p : Port} {k : Kind} {bs : List Byte} {r : Request}
    (h : Request.ofPayload p k bs = some r) : r.kind = k := by
  cases k with
  | identRead | noticesRead | noteTake | padReset | hubClaim | hubRelease | hubForceRelease | touchdown | release
  | condReset | tripClear | stationRestart =>
    cases bs <;> cases h
    rfl
  | statusRead => rcases bs with _ | ⟨_, _ | _⟩ <;> cases h <;> rfl
  | condMode | lineStart | lineRestart | lineStop | feedSelect | remoteTrip =>
    rcases bs with _ | ⟨_, _ | _⟩ <;> cases h
    rfl
  | get | mapRead =>
    rcases bs with _ | ⟨_, _ | ⟨_, _ | _⟩⟩ <;> cases h
    rfl
  | diskReset =>
    rcases bs with _ | ⟨_, _ | ⟨_, _ | ⟨_, _ | _⟩⟩⟩ <;> cases h
    rfl
  | rateSet =>
    rcases bs with _ | ⟨_, _ | ⟨_, _ | ⟨_, _ | ⟨_, _ | ⟨_, _ | _⟩⟩⟩⟩⟩ <;> cases h
    rfl
  | set =>
    rcases bs with _ | ⟨_, _ | ⟨_, _ | ⟨_, _ | ⟨_, _ | ⟨_, _ | ⟨_, _ | _⟩⟩⟩⟩⟩⟩ <;> cases h
    rfl
  | profileStage =>
    rcases bs with _ | ⟨_, _ | ⟨_, _ | ⟨_, _ | ⟨_, _ | ⟨_, _ | ⟨_, _ | ⟨_, _ | ⟨_, _ | ⟨_, _ | ⟨_, _ | ⟨_, _ |
      ⟨_, _ | ⟨_, _ | _⟩⟩⟩⟩⟩⟩⟩⟩⟩⟩⟩⟩⟩ <;> cases h
    rfl
  | noteSend | chordLoad =>
    cases bs with
    | nil => cases h
    | cons => obtain ⟨-, h⟩ := Option.ite_none_right_eq_some.1 h; cases h; rfl
  | gainLoad =>
    rcases bs with _ | ⟨_, _ | _⟩
    · cases h
    · cases h
    · obtain ⟨-, h⟩ := Option.ite_none_right_eq_some.1 h; cases h; rfl
  | mapRestore => obtain ⟨-, h⟩ := Option.ite_none_right_eq_some.1 h; cases h; rfl
  | remoteHold =>
    rcases bs with _ | ⟨_, _ | ⟨_, _ | _⟩⟩
    · cases h
    · obtain ⟨-, h⟩ := Option.ite_none_right_eq_some.1 h; cases h; rfl
    · obtain ⟨-, h⟩ := Option.ite_none_left_eq_some.1 h; cases h; rfl
    · cases h
  | resume =>
    rcases bs with _ | ⟨_, _ | _⟩
    · obtain ⟨-, h⟩ := Option.ite_none_right_eq_some.1 h; cases h; rfl
    · obtain ⟨-, h⟩ := Option.ite_none_left_eq_some.1 h; cases h; rfl
    · cases h
end Sys2Proof.Machine

namespace Sys2Proof.Machine
open Sys2Proof

/-- A request's bytes are refused, or they are decided as the request of their kind that they spell (R169). -/
theorem dispatchBytes_cases (p : Port) (b : Byte) (bs : List Byte) (s : State) :
    (dispatchBytes p b bs s).state = s ∨
      ∃ r : Request, b = r.kind.byte ∧ (dispatchBytes p b bs s).state = (decideRequest p s r).state := by
  unfold dispatchBytes
  split
  · exact .inl rfl
  · next k hk =>
    split
    · exact .inl rfl
    · split
      · exact .inl rfl
      · next r hr =>
        refine .inr ⟨r, ?_, rfl⟩
        rw [Request.ofPayload_kind hr]
        exact Kind.byte_ofByte hk

/-- A request is refused, or its rule decides it (R169). -/
theorem dispatch_cases (p : Port) (r : Request) (s : State) :
    (dispatch p r s).state = s ∨ (dispatch p r s).state = (decideRequest p s r).state := by
  unfold dispatch
  (repeat' split)
  · exact .inl rfl
  · exact .inl rfl
  · exact .inr rfl

theorem Instr.eq_command {c : Instr} {p : Port} {r : Request} (h : c.request? = some (p, r)) : c = r.command p := by
  cases c <;> cases h <;> rfl

/-- A law of the records and the course that survives each of the few operations that move them, where the requests that a
command may take are of kinds `allowed`. -/
structure CourseLaw (P : State → Prop) (allowed : Kind → Prop) : Prop where
  blind : ∀ s t, s.sameCourse t → P s → P t
  setting : ∀ item v s, item.inRange v = true → P s → P (s.modSettings (Settings.put item v))
  padReset : allowed .padReset → ∀ s, P s → P s.padReset
  mapRestore : allowed .mapRestore → ∀ entries s, entries.any RestoreEntry.outOfRange = false → s.map.valid = false →
    P s → P (s.mapRestore entries)
  platenCount : ∀ e s, P s → P (s.platenCount e)
  indexEdge : ∀ n s, P s → P (s.indexEdge n)
  stalled : ∀ s, P s → P s.enterStalled
  ticked : ∀ s, P s → P s.tickPlaten

namespace CourseLaw
variable {P : State → Prop} {allowed : Kind → Prop}

theorem ground (law : CourseLaw P allowed) {s t : State} (h : s.sameGround t) (hs : P s) : P t :=
  law.blind s t h.sameCourse hs

theorem modPort (law : CourseLaw P allowed) (p : Port) (f : PortLink → PortLink) {s : State} (hs : P s) :
    P (s.modPort p f) :=
  law.blind s _ ⟨rfl, rfl, rfl⟩ hs

theorem settledFor (law : CourseLaw P allowed) (k : Option Kind) {s : State} (hs : P s) : P (s.settledFor k) := by
  unfold State.settledFor
  split
  · exact law.ground s.sameGround_settledBeforeMap hs
  · exact law.ground s.sameGround_settled hs

theorem applySetting (law : CourseLaw P allowed) {item : Item} {v : Nat} {s : State} (hv : item.inRange v = true)
    (hs : P s) : P (s.applySetting item v) := by
  have put := law.setting item v s hv hs
  unfold State.applySetting
  split
  · exact hs
  · rcases item.changed_sameCourse s (s.modSettings (Settings.put item v)) with h | h
    · exact law.blind _ _ h put
    · rw [h]
      exact law.stalled _ put

/-- Every request of an allowed kind keeps the law. -/
theorem request (law : CourseLaw P allowed) (p : Port) (r : Request) (hr : allowed r.kind) {s : State} (hs : P s) :
    P (decideRequest p s r).state := by
  cases hk : changesGround r.kind with
  | false => exact law.ground (decideRequest_sameGround p r s hk) hs
  | true =>
    cases r with
    | set id inst v =>
      simp only [decideRequest, decideSet]
      split
      · exact hs
      · split
        · exact hs
        · next item _ _ hv =>
          refine law.applySetting ?_ hs
          by_contra hrange
          rw [State.setRefusal, if_pos (by simp [hrange])] at hv
          cases hv
    | padReset =>
      simp only [decideRequest, decidePadReset]
      split
      · exact law.padReset hr s hs
      · exact hs
    | mapRestore entries =>
      simp only [decideRequest, decideMapRestore]
      split
      · exact hs
      · next he =>
        split
        · exact hs
        · next hv => exact law.mapRestore hr entries s (by simp_all) (by simpa using hv) hs
    | chordLoad code chords =>
      simp only [decideRequest, decideChordLoad]
      (repeat' split)
      · exact hs
      · exact hs
      · exact law.blind s _ ⟨rfl, rfl, rfl⟩ hs
      · exact hs
    | _ => cases hk

/-- A request row of an allowed kind keeps the law. -/
theorem answerRequest (law : CourseLaw P allowed) (p : Port) (r : Request) (hr : allowed r.kind) {s : State}
    (hs : P s) : P (answerRequest p r s) := by
  have heard : P (s.heardFor p r.kind) := law.settledFor _ (law.ground (s.sameGround_hearFrame p) hs)
  unfold Machine.answerRequest Answer.compose
  refine law.modPort p _ ?_
  rcases dispatch_cases p r (s.heardFor p r.kind) with h | h
  · rw [h]
    exact heard
  · rw [h]
    exact law.request p r hr heard

/-- A request from a slot keeps the law, when its kind byte is one of an allowed kind. -/
theorem takeRequest (law : CourseLaw P allowed) (p : Port) (q : SlotRequest) (hq : ∀ k : Kind, q.kind = k.byte → allowed k)
    {s : State} (hs : P s) : P (s.takeRequest p q) := by
  unfold State.takeRequest
  simp only
  have found := law.settledFor (Kind.ofByte q.kind) (law.modPort p (fun k => { k with inProcess := some q }) hs)
  refine law.modPort p _ (law.modPort p _ ?_)
  rcases dispatchBytes_cases p q.kind q.payload
    ((s.modPort p fun k => { k with inProcess := some q }).settledFor (Kind.ofByte q.kind)) with h | ⟨r, hr, h⟩
  · rw [h]
    exact found
  · rw [h]
    exact law.request p r (hq _ hr) found

/-- A frame keeps the law, when a request that it brings to a port with none in process is of an allowed kind. -/
theorem frame (law : CourseLaw P allowed) (p : Port) (q : SlotRequest) (crc : BitVec 16) {s : State}
    (hq : (s.port p).inProcess = none → q.payload.length ≤ 60 → crc = requestCrc q.tag q.kind q.payload →
      ∀ k : Kind, q.kind = k.byte → allowed k) (hs : P s) : P (s.frame p q crc) := by
  unfold State.frame
  split
  · exact law.modPort p _ hs
  · next hf =>
    obtain ⟨hlen, hcrc⟩ := not_or.1 hf
    set u := (s.modPort p fun k => { k with collecting := false }).hearFrame p with hu
    have hp : (u.port p).inProcess = (s.port p).inProcess := by
      rw [hu]; cases p <;> rfl
    have heard : P u := law.ground (State.sameGround_hearFrame p _) (law.modPort p _ hs)
    unfold State.handToSlots
    split
    · next hn => exact law.takeRequest p q (hq (hp ▸ hn) (by omega) (not_not.1 hcrc)) heard
    · exact law.modPort p _ heard
    · exact law.modPort p _ heard

theorem replySent (law : CourseLaw P allowed) (p : Port) {s : State}
    (hq : ∀ q, (s.port p).sending.isSome = true → (s.port p).waiting = some q → ∀ k : Kind, q.kind = k.byte → allowed k)
    (hs : P s) : P (s.replySent p) := by
  unfold State.replySent
  simp only
  split
  · next hsend =>
    split
    · next q hw => exact law.takeRequest p q (hq q hsend hw) (law.modPort p _ hs)
    · exact law.modPort p _ hs
  · exact hs

theorem tick (law : CourseLaw P allowed) {s : State} (hs : P s) : P s.tick :=
  law.ground s.sameGround_tick (law.ticked s hs)

/-- A row that does, on the settled state, what leaves map, tracker and settings alone keeps the law. -/
theorem operation (law : CourseLaw P allowed) {f : State → State} (hf : ∀ u : State, u.sameGround (f u)) {s t : State}
    (hs : P s) (h : (Host.Outcome.next (f s.settled) : Host.Outcome State Fault Refusal) = .next t) : P t := by
  rw [← Host.Outcome.next.inj h]
  exact law.ground (s.sameGround_settled.trans (hf _)) hs

/-- Every command that takes only requests of allowed kinds keeps the law, a hard reset where its state obeys it. -/
theorem exec (law : CourseLaw P allowed) {c : Instr} {s t : State} (hc : ∀ k, s.takesBy c k → allowed k)
    (hr : c = .hardReset → P s.hardReset) (hs : P s) (h : exec c s = .next t) : P t := by
  have settled : P s.settled := law.ground s.sameGround_settled hs
  have event : ∀ e : Event, Machine.exec e.command s = .next t → P t := fun e he => law.ground (sameGround_eventRow he) hs
  cases hq : c.request? with
  | some pr =>
    obtain ⟨p, r⟩ := pr
    have hc' := Instr.eq_command hq
    rw [hc', exec_request] at h
    cases h
    exact law.answerRequest p r (hc _ (.inl ⟨p, r, hc', rfl⟩)) hs
  | none =>
    cases c with
    | hardReset => cases h; exact hr rfl
    | validFrame p tag kind payload crc =>
      cases h
      refine law.frame p _ crc (fun hp hl he k hk => hc k (.inr (.inl ⟨p, tag, payload, hp, hl, ?_⟩))) hs
      simp only at hk he
      rw [he, hk]
    | replySent p =>
      cases h
      exact law.replySent p (fun q h1 h2 k hk => hc k (.inr (.inr ⟨p, q, rfl, h1, h2, hk⟩))) hs
    | frameError | syncByte | resetAsserted => cases h; exact law.blind s _ ⟨rfl, rfl, rfl⟩ hs
    | interByteTimeout p =>
      cases h
      unfold State.interByteTimeout
      split
      · exact law.blind s _ ⟨rfl, rfl, rfl⟩ hs
      · exact hs
    | hubEntry m => exact event (.hubEntry m) h
    | hubExit m => exact event (.hubExit m) h
    | condMapUpdated => exact event (.condMapUpdated default) h
    | gainRecompute => exact event (.gainRecompute default) h
    | dryCountUpdate => exact event (.dryCountUpdate default) h
    | indexProfileApply => exact event .indexProfileApply h
    | hardHoldVent l => exact event (.hardHoldVent l) h
    | softHoldCap l => exact event (.softHoldCap l) h
    | hardHoldBarEmpty l => exact event (.hardHoldBarEmpty l) h
    | hardHoldWithdraw l => exact event (.hardHoldWithdraw l) h
    | tripBarEmpty => exact event .tripBarEmpty h
    | condTripHalt => exact event .condTripHalt h
    | condTripClear => exact event .condTripClear h
    | mapReplaced => exact event .mapReplaced h
    | condGrant => exact event .condGrant h
    | condGrantLost => exact event .condGrantLost h
    | slurryStop => exact event .slurryStop h
    | platenEncoderCount e => cases h; exact law.platenCount e _ settled
    | indexEdge n => cases h; exact law.indexEdge n _ settled
    | stallTimerExpiry =>
      cases h
      unfold State.stallExpiry
      split
      · exact law.stalled _ settled
      · exact settled
    | armEncoderCount m e => cases h; exact law.blind _ _ (State.sameCourse_armCount m e _) settled
    | homeSwitchEdge m => cases h; exact law.blind _ _ (State.sameCourse_homeEdge m _) settled
    | silenceTimerExpiry l => exact law.operation (State.sameGround_silenceExpiry l) hs h
    | pressureUpdate adc supply => exact law.operation (State.sameGround_pressureUpdate adc supply) hs h
    | touchdownDone l => exact law.operation (State.sameGround_touchdownDone l) hs h
    | releaseDone l => exact law.operation (State.sameGround_releaseDone l) hs h
    | supplyTimeExpiry => exact law.operation State.sameGround_supplyTimeExpiry hs h
    | deviationTimeExpiry l c => exact law.operation (State.sameGround_deviationExpiry l c) hs h
    | condStep => exact law.operation State.sameGround_condStep hs h
    | moveArrival => cases h; exact law.ground s.sameGround_moveArrival hs
    | settleTimeout => exact law.operation (fun u => u.sameGround_condTimeouts.1) hs h
    | liftTimeout => exact law.operation (fun u => u.sameGround_condTimeouts.2.1) hs h
    | homingTimeout => exact law.operation (fun u => u.sameGround_condTimeouts.2.2.1) hs h
    | downforceFault => exact law.operation (fun u => u.sameGround_condTimeouts.2.2.2) hs h
    | downforceUpdate adc up => exact law.operation (State.sameGround_downforceUpdate adc up) hs h
    | loweringComplete => exact law.operation State.sameGround_loweringComplete hs h
    | liftComplete => exact law.operation State.sameGround_liftComplete hs h
    | flowMeterPulse k => exact law.operation (State.sameGround_flowPulse k) hs h
    | stopTimeoutExpiry k => exact law.operation (State.sameGround_stopTimeout k) hs h
    | flowWindowEnd => exact law.operation State.sameGround_windowEnd hs h
    | interlockPinChange i b => exact law.operation (State.sameGround_pinChange i b) hs h
    | debounceExpiry i => exact law.operation (State.sameGround_debounceExpiry i) hs h
    | homingStep b => exact law.operation (State.sameGround_homingStep b) hs h
    | _ => cases hq

/-- Every step that takes only requests of allowed kinds keeps the law, a hard reset where its state obeys it. -/
theorem step (law : CourseLaw P allowed) {s t : State} (hc : ∀ k, s.takes k → allowed k)
    (hr : s.pending.head? = some .hardReset → P s.hardReset) (hs : P s) (h : step s = .next t) : P t := by
  rcases step_cases h with ⟨c, rest, hp, hx⟩ | ⟨e, _, _, _, hx⟩ | ⟨_, _, ht⟩
  · refine law.exec (s := { s with pending := rest }) (fun k hk => hc k ⟨c, rest, hp, hk⟩) (fun hcr => ?_)
      (law.blind s _ ⟨rfl, rfl, rfl⟩ hs) hx
    exact law.blind s.hardReset _ ⟨rfl, rfl, rfl⟩ (hr (by rw [hp, hcr]; rfl))
  · exact law.ground (sameGround_eventRow hx) hs
  · rw [ht]
    exact law.tick (law.ground s.sameGround_settled hs)

end CourseLaw

end Sys2Proof.Machine

/-!
The law of the map (O56) and the height losses (O60): what the platen, a PAD RESET and a MAP RESTORE make of the records.
-/

namespace Sys2Proof.Machine
open Sys2Proof

/-! ### What the platen makes of the band records -/

/-- A valid close from `s` to `t`: every band is folded with some tallies and classified with the raised count (R52 to R54). -/
def State.foldedTo (s t : State) : Prop :=
  s.map.valid = true ∧ ∃ tally cut : Nat → Nat, t.map.records =
    (bandIndices.map fun k => closeBand s.settings.map (s.map.revCount + 1) (tally k) (cut k) (s.map.band k), true,
      s.map.restored, s.map.revCount + 1)

/-- From `s` to `t` no setting changes, and the records stay or are folded by a valid close. -/
def State.keptOrFolded (s t : State) : Prop :=
  t.settings = s.settings ∧ (t.map.records = s.map.records ∨ s.foldedTo t)

theorem State.closeRevolution_records (v o : Bool) (s : State) :
    (s.closeRevolution v o).map.records = s.map.records ∨ s.foldedTo (s.closeRevolution v o) := by
  unfold State.closeRevolution
  simp only
  split
  · exact .inl rfl
  · next hv =>
    have hvalid : s.accrue.map.valid = true := by
      simp only [State.closeSuspect, Bool.or_eq_true, not_or] at hv
      simpa using hv.2
    replace hvalid : s.map.valid = true := hvalid
    refine .inr ⟨hvalid, fun k => s.accrue.map.tally.getD k 0, fun k => s.accrue.map.cut.getD k 0, ?_⟩
    simp [State.validClose, PadMap.records, PadMap.clearTallies, PadMap.closedBands, State.accrue, PadMap.band, hvalid]

theorem State.indexEvent_keptOrFolded (k : IndexKind) (s : State) : s.keptOrFolded (s.indexEvent k) := by
  have map : (s.indexEvent k).map = (s.closeRevolution (s.tracker.verdictSuspect k) (s.tracker.stateAfter k).outside).map := by
    unfold State.indexEvent State.measureSpeed
    simp only
    split <;> simp
  have settings : (s.indexEvent k).settings = s.settings := by
    unfold State.indexEvent State.measureSpeed
    simp only
    split <;> simp
  refine ⟨settings, ?_⟩
  unfold State.foldedTo
  rw [map]
  exact s.closeRevolution_records _ _

theorem State.keptOrFolded_of_records {s t : State} (hs : t.settings = s.settings) (h : t.map.records = s.map.records) :
    s.keptOrFolded t :=
  ⟨hs, .inl h⟩

theorem State.startIndex_keptOrFolded (s : State) : s.keptOrFolded s.startIndex := by
  refine s.keptOrFolded_of_records ?_ ?_
  · simp [State.startIndex]
  · simp only [State.startIndex, State.trackerChanged_map]
    rfl

theorem State.indexEdge_keptOrFolded (n : Nat) (s : State) : s.keptOrFolded (s.indexEdge n) := by
  unfold State.indexEdge
  split
  · exact s.startIndex_keptOrFolded
  · exact State.indexEvent_keptOrFolded (indexKindOf s.tracker.angle)
      (s.modTracker fun t => { t with periodTimer := advancePeriod t.periodTimer n })

theorem State.platenCount_keptOrFolded (e : PlatenEdge) (s : State) : s.keptOrFolded (s.platenCount e) := by
  unfold State.platenCount
  split
  · exact s.keptOrFolded_of_records rfl rfl
  · unfold State.forwardCount State.sectorMark
    split
    · exact s.indexEvent_keptOrFolded .synthetic
    · split <;> exact s.keptOrFolded_of_records rfl rfl
  · unfold State.reverseCount State.reverseCrossing
    split
    · exact s.indexEvent_keptOrFolded .synthetic
    · simp only
      (repeat' split) <;> exact s.keptOrFolded_of_records rfl rfl
  · exact s.keptOrFolded_of_records rfl rfl

theorem State.enterStalled_keptOrFolded (s : State) : s.keptOrFolded s.enterStalled := by
  unfold State.enterStalled
  split
  · refine s.keptOrFolded_of_records (by simp) ?_
    simp only [State.trackerChanged_map]
    rfl
  · refine s.keptOrFolded_of_records (by simp) ?_
    simp only [State.trackerChanged_map]
    rfl
  · exact s.keptOrFolded_of_records rfl rfl
  · exact s.keptOrFolded_of_records rfl rfl

/-! ### A law of the records alone -/

/-- A law of the records and thresholds that a valid close keeps is kept by everything that the platen does. -/
theorem CourseLaw.ofRecords {P : State → Prop} {allowed : Kind → Prop}
    (blind : ∀ s t, t.map.records = s.map.records → t.settings.map = s.settings.map → P s → P t)
    (folded : ∀ s t, t.settings = s.settings → s.foldedTo t → P s → P t)
    (setting : ∀ item v s, item.inRange v = true → P s → P (s.modSettings (Settings.put item v)))
    (padReset : allowed .padReset → ∀ s, P s → P s.padReset)
    (mapRestore : allowed .mapRestore → ∀ entries s, entries.any RestoreEntry.outOfRange = false → s.map.valid = false →
      P s → P (s.mapRestore entries)) : CourseLaw P allowed := by
  have moved : ∀ s t, s.keptOrFolded t → P s → P t := by
    rintro s t ⟨hset, hrec | hfold⟩ hs
    · exact blind s t hrec (by rw [hset]) hs
    · exact folded s t hset hfold hs
  have stalled : ∀ s, P s → P s.enterStalled := fun s => moved s _ s.enterStalled_keptOrFolded
  refine ⟨fun s t h => blind s t h.records h.thresholds, setting, padReset, mapRestore,
    fun e s => moved s _ (s.platenCount_keptOrFolded e), fun n s => moved s _ (s.indexEdge_keptOrFolded n), stalled,
    fun s hs => ?_⟩
  unfold State.tickPlaten State.stallExpiry
  have timed : ∀ f, P (s.modTracker f) := fun f => blind s _ rfl rfl hs
  split
  · exact hs
  simp only
  (repeat' split)
  · exact stalled _ (timed _)
  · exact timed _
  · exact timed _
  · exact timed _

/-! ### The law of the map -/

theorem classify_zero_ne_glazed {g : MapSettings} (h : 1 ≤ g.glazeLimit) : classify g 0 0 ≠ .glazed := by
  unfold classify
  (repeat' split) <;> simp_all

/-- Classification leaves wear and height loss, and gives a glazed-since exactly to a GLAZED band, where GLAZED bands had
one. -/
theorem reclassify_lawful {g : MapSettings} {c : BitVec 32} {b : Band} (hw : b.wear ≤ 65535) (hh : b.height ≤ 4000000)
    (hg : b.state = .glazed → b.glazedSince.isSome) : (reclassify g c b).lawful := by
  refine ⟨hw, hh, ?_⟩
  simp only [reclassify]
  (repeat' split) <;> simp_all

theorem zeroedBand_lawful {g : MapSettings} (h : 1 ≤ g.glazeLimit) : (zeroedBand g).lawful :=
  ⟨Nat.zero_le _, Nat.zero_le _, by simp [zeroedBand, classify_zero_ne_glazed h]⟩

theorem Band.fresh_lawful : Band.fresh.lawful := ⟨by decide, by decide, by decide⟩

theorem PadMap.band_lawful {m : PadMap} (h : ∀ b ∈ m.bands, b.lawful) (k : Nat) : (m.band k).lawful := by
  unfold PadMap.band
  rw [List.getD_eq_getElem?_getD]
  cases hk : m.bands[k]? with
  | none => exact Band.fresh_lawful
  | some b => exact h b (List.mem_of_getElem? hk)

theorem closeBand_lawful {g : MapSettings} {c : BitVec 32} {tally cut : Nat} {b : Band} (h : b.lawful) :
    (closeBand g c tally cut b).lawful :=
  reclassify_lawful (Nat.min_le_left _ _) (Nat.min_le_left _ _) h.2.2.2

/-- The records as a MAP RESTORE in the INVALID map keeps them: twenty lawful ones, the map INVALID with count 0. -/
def PadMap.restorable (m : PadMap) : Prop :=
  m.bands.length = 20 ∧ (∀ b ∈ m.bands, b.lawful) ∧ m.valid = false ∧ m.revCount = 0

theorem PadMap.restoreEntry_restorable {g : MapSettings} {e : RestoreEntry} {m : PadMap} (he : RestoreEntry.outOfRange e = false)
    (h : m.restorable) : (m.restoreEntry g e).restorable := by
  obtain ⟨hlen, hbands, hvalid, hcount⟩ := h
  simp only [RestoreEntry.outOfRange, Bool.or_eq_false_iff, decide_eq_false_iff_not, not_lt] at he
  obtain ⟨⟨-, hwear⟩, hheight⟩ := he
  refine ⟨by simpa [PadMap.restoreEntry] using hlen, fun b hb => ?_, hvalid, hcount⟩
  rcases List.mem_or_eq_of_mem_set hb with hb | rfl
  · exact hbands b hb
  · refine reclassify_lawful hwear ?_ (PadMap.band_lawful hbands e.band).2.2.2
    show e.heightUm * 1000 ≤ 4000000
    omega

theorem PadMap.restoreEntries_restorable {g : MapSettings} {es : List RestoreEntry} {m : PadMap}
    (he : es.any RestoreEntry.outOfRange = false) (h : m.restorable) :
    (es.foldl (PadMap.restoreEntry g) m).restorable := by
  induction es generalizing m with
  | nil => exact h
  | cons e rest ih =>
    simp only [List.any_cons, Bool.or_eq_false_iff] at he
    exact ih he.2 (PadMap.restoreEntry_restorable he.1 h)

theorem PadMap.becomeValid_lawful {m : PadMap} (hlen : m.bands.length = 20) (h : ∀ b ∈ m.bands, b.lawful) :
    m.becomeValid.lawful :=
  ⟨hlen, h, fun hv => (by cases hv), fun _ _ hr => List.eq_of_mem_replicate hr⟩

theorem State.mapRestore_lawful {es : List RestoreEntry} {s : State} (he : es.any RestoreEntry.outOfRange = false)
    (hv : s.map.valid = false) (h : s.map.lawful) : (s.mapRestore es).map.lawful := by
  obtain ⟨hlen, hbands, hcount, -⟩ := h
  obtain ⟨hlen', hbands', hvalid', hcount'⟩ :=
    PadMap.restoreEntries_restorable (g := s.settings.map) he ⟨hlen, hbands, hv, hcount hv⟩
  unfold State.mapRestore
  simp only
  split
  · exact PadMap.becomeValid_lawful hlen' hbands'
  · exact ⟨hlen', hbands', fun _ => hcount', fun h => by simp [hvalid'] at h⟩

theorem State.padReset_lawful {s : State} (hg : 1 ≤ s.settings.map.glazeLimit) : s.padReset.map.lawful :=
  PadMap.becomeValid_lawful (m := { s.map with bands := List.replicate 20 (zeroedBand s.settings.map) }) rfl
    fun _ hb => List.eq_of_mem_replicate hb ▸ zeroedBand_lawful hg

theorem PadMap.lawful_of_records {m m' : PadMap} (h : m'.records = m.records) (hm : m.lawful) : m'.lawful := by
  obtain ⟨hb, hv, hr, hc⟩ : m'.bands = m.bands ∧ m'.valid = m.valid ∧ m'.restored = m.restored ∧
      m'.revCount = m.revCount := by simpa [PadMap.records] using h
  unfold PadMap.lawful
  rwa [hb, hv, hr, hc]

theorem State.foldedTo_lawful {s t : State} (h : s.foldedTo t) (hs : s.map.lawful) : t.map.lawful := by
  obtain ⟨hv, tally, cut, hrec⟩ := h
  obtain ⟨-, hbands, -, hrestored⟩ := hs
  refine PadMap.lawful_of_records (m := { s.map with
    bands := bandIndices.map fun k => closeBand s.settings.map (s.map.revCount + 1) (tally k) (cut k) (s.map.band k)
    revCount := s.map.revCount + 1 }) (by rw [hrec]; simp [PadMap.records, hv]) ⟨by simp [bandIndices], ?_, ?_, hrestored⟩
  · intro b hb
    obtain ⟨k, -, rfl⟩ := List.mem_map.1 hb
    exact closeBand_lawful (PadMap.band_lawful hbands k)
  · intro hi
    simp [hv] at hi

/-- A SET in range leaves a glaze limit of at least 1. -/
theorem MapSettings.put_glazeLimit {g : MapSettings} {item : Item} {v : Nat} (hv : item.inRange v = true)
    (h : 1 ≤ g.glazeLimit) : 1 ≤ (g.put v item).glazeLimit := by
  cases item with
  | glazeLimit => simp only [Item.inRange, between, Bool.and_eq_true, decide_eq_true_eq] at hv; exact hv.1
  | _ => exact h

theorem mapLaw : CourseLaw (fun s => s.map.lawful ∧ 1 ≤ s.settings.map.glazeLimit) fun _ => True :=
  .ofRecords (fun _ _ hr hg hs => ⟨PadMap.lawful_of_records hr hs.1, hg ▸ hs.2⟩)
    (fun _ _ hg hf hs => ⟨State.foldedTo_lawful hf hs.1, hg ▸ hs.2⟩)
    (fun _ _ _ hv hs => ⟨hs.1, MapSettings.put_glazeLimit hv hs.2⟩)
    (fun _ _ hs => ⟨State.padReset_lawful hs.2, hs.2⟩)
    (fun _ es s he hv hs => ⟨State.mapRestore_lawful he hv hs.1, by
      unfold State.mapRestore
      simp only
      split <;> exact hs.2⟩)

theorem PadMap.reset_lawful : PadMap.reset.lawful :=
  ⟨rfl, fun _ hb => List.eq_of_mem_replicate hb ▸ Band.fresh_lawful, fun _ => rfl, fun h => (by cases h)⟩

theorem step_keeps_map_lawful {s t : State} (hg : s.settings.lawful) (hs : s.map.lawful) (h : step s = .next t) :
    t.map.lawful := by
  have hlimit : 1 ≤ s.settings.map.glazeLimit := by
    have range := hg.1 .glazeLimit
    simp only [Item.inRange, Item.value, between, Bool.and_eq_true] at range
    exact of_decide_eq_true range.1
  exact (mapLaw.step (fun _ _ => trivial) (fun _ => ⟨PadMap.reset_lawful, (by decide : 1 ≤ Settings.default.map.glazeLimit)⟩) ⟨hs, hlimit⟩ h).1

/-! ### Height losses -/

theorem heightLaw {floor : Nat → Nat} (hfloor : ∀ k < 20, floor k ≤ 4000000) :
    CourseLaw (fun s => ∀ k < 20, floor k ≤ (s.map.band k).height) fun k => k ≠ .padReset ∧ k ≠ .mapRestore := by
  have blind : ∀ s t : State, t.map.records = s.map.records → (∀ k < 20, floor k ≤ (s.map.band k).height) →
      ∀ k < 20, floor k ≤ (t.map.band k).height := fun s t hr hs k hk => by
    have hb : t.map.bands = s.map.bands := congrArg Prod.fst hr
    unfold PadMap.band at hs ⊢
    rw [hb]
    exact hs k hk
  refine .ofRecords (fun s t hr _ => blind s t hr) ?_ (fun _ _ s _ => blind s _ rfl) (fun h => absurd rfl h.1)
    (fun h => absurd rfl h.2)
  rintro s t - ⟨-, tally, cut, hrec⟩ hs k hk
  have hb : t.map.bands = _ := congrArg Prod.fst hrec
  have hband : (t.map.band k).height = min 4000000 ((s.map.band k).height + scaledCut (cut k) s.settings.map.heightGain) := by
    rw [PadMap.band, hb, List.getD_eq_getElem?_getD, List.getElem?_map, bandIndices, List.getElem?_range hk]
    rfl
  have := hs k hk
  have := hfloor k hk
  omega

theorem step_height_le {s t : State} (hs : s.map.lawful) (hp : ¬ s.takes .padReset) (hm : ¬ s.takes .mapRestore)
    (hr : s.pending.head? ≠ some .hardReset) (h : step s = .next t) {k : Nat} (hk : k < 20) :
    (s.map.band k).height ≤ (t.map.band k).height := by
  have law := heightLaw (floor := fun k => (s.map.band k).height) fun k _ => (PadMap.band_lawful hs.2.1 k).2.1
  refine law.step (fun kind ht => ⟨?_, ?_⟩) (fun h => absurd h hr) (fun _ _ => le_rfl) h k hk
  · rintro rfl; exact hp ht
  · rintro rfl; exact hm ht

/-- Settles O60: of what a step can do to the records only a PAD RESET, a MAP RESTORE and a hard reset lower a height loss. -/
theorem heightLossNeverFalls : Obligations.HeightLossNeverFalls := by
  intro k s t hs hk hp hm hr h
  exact step_height_le hs hp hm hr h hk

end Sys2Proof.Machine

/-!
The law of the tracker (O56): index events, counts, a stall and the passing of time.
-/

namespace Sys2Proof.Machine
open Sys2Proof

/-! ### The tracker's own work at an index event -/

theorem Tracker.runAfter_le (t : Tracker) (k : IndexKind) : t.runAfter k ≤ 3 := by
  unfold Tracker.runAfter
  (repeat' split) <;> omega

/-- A close after which the tracker is LOST leaves the run count at 3: it reached 3 now, or the tracker stays in LOST, where
every verdict but a clean one's is SUSPECT (R29, R30). -/
theorem Tracker.runAfter_of_lost {t : Tracker} {k : IndexKind} (hs : t.state.outside = true → t.platenSuspect = true)
    (hrun : t.state = .lost → t.suspectRun = 3) (h : t.stateAfter k = .lost) : t.runAfter k = 3 := by
  unfold Tracker.stateAfter at h
  split at h
  · cases h
  · split at h
    · assumption
    · cases h
  · next hl =>
    split at h
    · cases h
    · next hc =>
      have suspect : t.verdictSuspect k = true := by simp [Tracker.verdictSuspect, hs (by rw [hl]; rfl)]
      simp [Tracker.runAfter, suspect, hc, hrun hl]
  · split at h
    · assumption
    · cases h

theorem Tracker.stateAfter_tracking_or_lost {t : Tracker} (k : IndexKind) (hu : t.state ≠ .unhomed) :
    t.stateAfter k = .tracking ∨ t.stateAfter k = .lost := by
  unfold Tracker.stateAfter
  (repeat' split) <;> simp_all

theorem Tracker.beginNext_lawful {t : Tracker} (k : IndexKind) (h : t.lawful) (hu : t.state ≠ .unhomed) :
    (t.beginNext k).lawful := by
  obtain ⟨-, -, -, -, -, hlost, hperiod, hspeed, houtside, -⟩ := h
  have after := t.stateAfter_tracking_or_lost k hu
  refine ⟨(by decide : (-16383 : Int) ≤ 0), (by decide : (0 : Int) ≤ 16388), fun h => ?_, ⟨1, by decide, by decide, rfl⟩, t.runAfter_le k,
    Tracker.runAfter_of_lost houtside hlost, hperiod, hspeed, id, ?_⟩
  · have h : t.stateAfter k = .unhomed := h
    simp [h] at after
  · exact ⟨fun _ => after, fun _ => rfl⟩

theorem speedOf_le (period : Nat) : speedOf period ≤ 65535 := by
  unfold speedOf
  split
  · have := Config.speedAtPeriodZero.isLt
    omega
  · exact Nat.min_le_left _ _

/-- The law speaks of the course alone. -/
theorem Tracker.lawful_of_course {t t' : Tracker} (h : t'.course = t.course) (ht : t.lawful) : t'.lawful := by
  obtain ⟨h1, h2, h3, h4, h5, h6, h7, h8⟩ : t'.state = t.state ∧ t'.angle = t.angle ∧ t'.nextMark = t.nextMark ∧
      t'.platenSuspect = t.platenSuspect ∧ t'.suspectRun = t.suspectRun ∧ t'.stallTimer = t.stallTimer ∧
      t'.period = t.period ∧ t'.speed = t.speed := by simpa [Tracker.course] using h
  unfold Tracker.lawful
  rwa [h1, h2, h3, h4, h5, h6, h7, h8]

theorem State.measureSpeed_lawful {s : State} {period : Nat} (hp : period ≤ 16777215) (h : s.tracker.lawful) :
    (s.measureSpeed period).tracker.lawful := by
  obtain ⟨h1, h2, h3, h4, h5, h6, -, -, h9, h10⟩ := h
  exact Tracker.lawful_of_course (State.sameCourse_evaluateWindow _).course
    ⟨h1, h2, h3, h4, h5, h6, hp, speedOf_le period, h9, h10⟩

theorem State.measureSpeed_state (s : State) (period : Nat) : (s.measureSpeed period).tracker.state = s.tracker.state := by
  unfold State.measureSpeed State.evaluateWindow
  simp only
  split <;> rfl

/-- An index event keeps the tracker's law, when a period that it takes has been held to its top (R34). -/
theorem State.indexEvent_tracker_lawful {s : State} {k : IndexKind} (hu : s.tracker.state ≠ .unhomed)
    (hp : k = .clean → s.tracker.periodTimer ≤ 16777215) (h : s.tracker.lawful) : (s.indexEvent k).tracker.lawful := by
  unfold State.indexEvent
  simp only [State.raise_tracker, State.trackerChanged_tracker, State.modTracker_tracker]
  have closed : (s.closeRevolution (s.tracker.verdictSuspect k) (s.tracker.stateAfter k).outside).tracker = s.tracker := by
    simp
  split
  · next hc =>
    have hk : k = .clean := by
      simp only [Tracker.cleanRevolution, Bool.and_eq_true, decide_eq_true_eq] at hc
      exact hc.1
    refine Tracker.beginNext_lawful k (State.measureSpeed_lawful (hp hk) (by rwa [closed])) ?_
    rw [State.measureSpeed_state, closed]
    exact hu
  · rw [closed]
    exact Tracker.beginNext_lawful k h hu

theorem State.startIndex_tracker_lawful {s : State} (h : s.tracker.lawful) :
    s.startIndex.tracker.lawful := by
  obtain ⟨-, -, -, -, hrun, -, hperiod, hspeed, -, -⟩ := h
  simp only [State.startIndex, State.trackerChanged_tracker, State.modTracker_tracker, State.startRevolution_tracker]
  exact ⟨(by decide : (-16383 : Int) ≤ 0), (by decide : (0 : Int) ≤ 16388), fun h => (by cases h),
    ⟨1, by decide, by decide, rfl⟩, hrun, fun h => (by cases h), hperiod, hspeed, fun h => (by cases h),
    fun _ => .inl rfl, fun _ => rfl⟩

theorem State.indexEdge_tracker_lawful (n : Nat) {s : State} (h : s.tracker.lawful) :
    (s.indexEdge n).tracker.lawful := by
  unfold State.indexEdge
  split
  · exact State.startIndex_tracker_lawful h
  · next hu => exact State.indexEvent_tracker_lawful hu (fun _ => Nat.min_le_left _ _) (Tracker.lawful_of_course rfl h)

/-! ### Counts, a stall and the passing of time -/

theorem Tracker.setAngle_lawful {t : Tracker} {angle : Int} (hu : t.state ≠ .unhomed) (hlo : -16383 ≤ angle)
    (hhi : angle ≤ 16388) (h : t.lawful) : ({ t with angle := angle } : Tracker).lawful := by
  obtain ⟨-, -, -, hrest⟩ := h
  exact ⟨hlo, hhi, fun hx => absurd hx hu, hrest⟩

theorem State.disturb_tracker_lawful {s : State} (h : s.tracker.lawful) : s.disturb.tracker.lawful := by
  obtain ⟨h1, h2, h3, h4, h5, h6, h7, h8, -, h10⟩ := h
  exact ⟨h1, h2, h3, h4, h5, h6, h7, h8, fun _ => rfl, h10⟩

theorem Tracker.advanceMark_lawful {t : Tracker} (hm : t.nextMark ≤ 15360) (h : t.lawful) :
    ({ t with nextMark := t.nextMark + 1024 } : Tracker).lawful := by
  obtain ⟨h1, h2, h3, ⟨n, hn, -, hmark⟩, hrest⟩ := h
  exact ⟨h1, h2, h3, ⟨n + 1, by omega, by omega, by simp only; omega⟩, hrest⟩

theorem State.forwardCount_tracker_lawful {s : State} (hu : s.tracker.state ≠ .unhomed) (h : s.tracker.lawful) :
    s.forwardCount.tracker.lawful := by
  unfold State.forwardCount
  split
  · exact State.indexEvent_tracker_lawful hu (fun hk => by cases hk) h
  · next hs =>
    have ⟨hlo, hhi, _⟩ := h
    have moved := Tracker.setAngle_lawful (angle := s.tracker.angle + 1) hu (by omega) (by omega) h
    unfold State.sectorMark
    split
    · next hm => exact Tracker.advanceMark_lawful hm.2 moved
    · exact moved

theorem State.reverseCount_tracker_lawful {s : State} (hu : s.tracker.state ≠ .unhomed) (h : s.tracker.lawful) :
    s.reverseCount.tracker.lawful := by
  unfold State.reverseCount
  split
  · exact State.indexEvent_tracker_lawful hu (fun hk => by cases hk) h
  · next hs =>
    have ⟨hlo, hhi, _⟩ := h
    have moved := Tracker.setAngle_lawful (angle := s.tracker.angle - 1) hu (by omega) (by omega) h
    unfold State.reverseCrossing
    simp only
    (repeat' split)
    · exact moved
    · exact Tracker.lawful_of_course rfl (State.disturb_tracker_lawful moved)
    · exact moved

theorem State.platenCount_tracker_lawful (e : PlatenEdge) {s : State} (h : s.tracker.lawful) :
    (s.platenCount e).tracker.lawful := by
  unfold State.platenCount
  split
  · exact h
  · next hu => exact State.forwardCount_tracker_lawful hu h
  · next hu => exact State.reverseCount_tracker_lawful hu h
  · exact State.disturb_tracker_lawful h

theorem Tracker.stall_lawful {t : Tracker} (hp : t.platenSuspect = true) (h : t.lawful) :
    ({ t with state := .stalled, stallTimer := none } : Tracker).lawful := by
  obtain ⟨h1, h2, -, h4, h5, -, h7, h8, -, -⟩ := h
  exact ⟨h1, h2, fun h => (by cases h), h4, h5, fun h => (by cases h), h7, h8, fun _ => hp, by simp⟩

theorem State.enterStalled_tracker_lawful {s : State} (h : s.tracker.lawful) : s.enterStalled.tracker.lawful := by
  unfold State.enterStalled
  split
  · rw [State.trackerChanged_tracker]
    exact Tracker.stall_lawful rfl (State.disturb_tracker_lawful h)
  · rw [State.trackerChanged_tracker]
    exact Tracker.stall_lawful rfl (State.disturb_tracker_lawful h)
  · exact h
  · exact h

theorem Tracker.tick_lawful {t : Tracker} (f : Nat → Nat) (g : Nat → Nat) (h : t.lawful) :
    ({ t with periodTimer := f t.periodTimer, stallTimer := t.stallTimer.map g } : Tracker).lawful := by
  obtain ⟨h1, h2, h3, h4, h5, h6, h7, h8, h9, h10⟩ := h
  exact ⟨h1, h2, h3, h4, h5, h6, h7, h8, h9, by simpa using h10⟩

theorem State.tickPlaten_tracker_lawful {s : State} (h : s.tracker.lawful) : s.tickPlaten.tracker.lawful := by
  have timed := Tracker.tick_lawful (advancePeriod · 1000) (· + 1) h
  unfold State.tickPlaten State.stallExpiry
  split
  · exact h
  simp only
  (repeat' split)
  · exact State.enterStalled_tracker_lawful timed
  · exact timed
  · exact timed
  · exact timed

theorem trackerLaw : CourseLaw (fun s => s.tracker.lawful) fun _ => True where
  blind _ _ h hs := Tracker.lawful_of_course h.course hs
  setting _ _ _ _ hs := hs
  padReset _ _ hs := hs
  mapRestore _ es s _ _ hs := by
    unfold State.mapRestore
    simp only
    split <;> exact hs
  platenCount e _ hs := State.platenCount_tracker_lawful e hs
  indexEdge n _ hs := State.indexEdge_tracker_lawful n hs
  stalled _ hs := State.enterStalled_tracker_lawful hs
  ticked _ hs := State.tickPlaten_tracker_lawful hs

theorem Tracker.reset_lawful : Tracker.reset.lawful := by
  refine ⟨by decide, by decide, by decide, ⟨1, by decide⟩, by decide, by decide, by decide, by decide, by decide,
    by decide⟩

theorem step_keeps_tracker_lawful {s t : State} (hs : s.tracker.lawful) (h : step s = .next t) : t.tracker.lawful :=
  trackerLaw.step (fun _ _ => trivial) (fun _ => Tracker.reset_lawful) hs h

/-- Settles O56: the two laws survive each operation that moves records or course, and no other operation sees them. -/
theorem mapAndTrackerStayLawful : Obligations.MapAndTrackerStayLawful :=
  ⟨fun _ _ => step_keeps_map_lawful, fun _ _ => step_keeps_tracker_lawful⟩

end Sys2Proof.Machine

/-!
Requests in bytes, and the chapters' values at an accrual: MAP READ, MAP RESTORE, PAD RESET, CHORD LOAD and the accrual amounts
(O13, O14, O15, O16).
-/

namespace Sys2Proof.Machine
open Sys2Proof

/-- A request that does not change the band records, as a row: its rule decides it in the state that hears it. -/
theorem exec_request_heard (p : Port) (r : Request) (s₀ s : State) (hs : s₀.heard p = s)
    (hk : changesRecords r.kind = false) (hp : permitted p r.kind = true) (hl : lengthOk p r = true) :
    exec (r.command p) s₀ = .next ((decideRequest p s r).compose p r.kind.byte) :=
  exec_request_decided p r s₀ s (by rw [State.heardFor_eq hk, hs]) hp hl

/-! ### PAD RESET and CHORD LOAD -/

theorem State.laneRaised_iff (s : State) (l : Lane) : s.laneRaised l = true ↔ (s.lane l).state = .raised := by
  simp [State.laneRaised]

theorem CondState.atRest_iff (st : CondState) : st.atRest = true ↔ st ∈ [CondState.parked, .unreferenced, .fault] := by
  cases st <;> decide

/-- PAD RESET is accepted exactly with both lanes RAISED and the conditioner at rest (R12). -/
theorem decidePadReset_cases (s : State) :
    ((s.lane .a).state = .raised → (s.lane .b).state = .raised → s.cond.state ∈ [.parked, .unreferenced, .fault] →
      decidePadReset s = done s.padReset) ∧
    ((s.lane .a).state ≠ .raised ∨ (s.lane .b).state ≠ .raised ∨ s.cond.state ∉ [.parked, .unreferenced, .fault] →
      decidePadReset s = refuse .busy s) := by
  have accepted : (s.bothRaised && s.cond.state.atRest) = true ↔
      ((s.lane .a).state = .raised ∧ (s.lane .b).state = .raised) ∧ s.cond.state ∈ [CondState.parked, .unreferenced, .fault] := by
    rw [Bool.and_eq_true, State.bothRaised, Bool.and_eq_true, s.laneRaised_iff, s.laneRaised_iff, CondState.atRest_iff]
  unfold decidePadReset
  constructor
  · intro ha hb hc
    rw [if_pos (accepted.2 ⟨⟨ha, hb⟩, hc⟩)]
  · intro h
    rw [if_neg fun hx => ?_]
    obtain ⟨⟨ha, hb⟩, hc⟩ := accepted.1 hx
    rcases h with h | h | h
    · exact h ha
    · exact h hb
    · exact h hc

theorem decideChordLoad_high {code : Nat} {chords : List Nat} (s : State) (h : ∃ c ∈ chords, 300 < c) :
    decideChordLoad code chords s = refuse .range s := by
  unfold decideChordLoad
  split
  · rfl
  · rw [if_pos (by simpa using h)]

theorem decideChordLoad_lane (l : Lane) {chords : List Nat} (s : State) (h : ∀ c ∈ chords, c ≤ 300) :
    decideChordLoad (laneCode l) chords s =
      if s.laneRaised l then
        done (s.modMap fun m => { m with chords := m.chords.set l { entries := chords, loaded := true } })
      else refuse .state s := by
  simp only [decideChordLoad, laneOfCode_laneCode]
  rw [if_neg (by simpa using h)]

theorem laneOfCode_above {n : Nat} (h : 1 < n) : laneOfCode n = none := by
  obtain ⟨m, rfl⟩ := Nat.exists_eq_add_of_le' h
  rfl

/-- Settles O15, by the cases of the two rules in the state that the request finds. -/
theorem padResetAndChordLoad : Obligations.PadResetAndChordLoad := by
  refine ⟨fun s₀ s hs => ?_, fun l chords s₀ s hs hlen => ?_⟩
  · have row := exec_request_decided .s .padReset s₀ s hs rfl rfl
    obtain ⟨accepted, busy⟩ := decidePadReset_cases s
    refine ⟨fun ha hb hc => row.trans ?_, fun h => row.trans ?_⟩
    · rw [decideRequest, accepted ha hb hc]; rfl
    · rw [decideRequest, busy h]; rfl
  · have row := fun n => exec_request_heard .s (.chordLoad n chords) s₀ s hs rfl rfl (by simp [lengthOk, hlen])
    refine ⟨fun hc hl => (row _).trans ?_, fun hc hl => (row _).trans ?_, fun hc => (row _).trans ?_,
      fun n hn => (row n).trans ?_⟩
    · rw [decideRequest, decideChordLoad_lane l s hc, if_pos (by simpa [State.laneRaised] using hl)]; rfl
    · rw [decideRequest, decideChordLoad_lane l s hc, if_neg (by simpa [State.laneRaised] using hl)]; rfl
    · rw [decideRequest, decideChordLoad_high s hc]; rfl
    · rw [decideRequest, decideChordLoad, laneOfCode_above hn]; rfl

/-! ### MAP READ -/

@[simp] theorem beBytes_length (w n : Nat) : (beBytes w n).length = w := by
  induction w generalizing n with
  | zero => rfl
  | succ w ih => simp [beBytes, ih]

@[simp] theorem byte1_eq (n : Nat) : byte1 n = beBytes 1 n := rfl

theorem bandRecord_length (c : BitVec 32) (b : Band) : (bandRecord c b).length = 7 := by simp [bandRecord]

/-- The j-th of a run of pieces of one length, cut out of their join. -/
theorem take_drop_flatten {α : Type} {n : Nat} {pieces : List (List α)} (h : ∀ x ∈ pieces, x.length = n) {j : Nat}
    (hj : j < pieces.length) : (pieces.flatten.drop (n * j)).take n = pieces[j] := by
  induction pieces generalizing j with
  | nil => simp at hj
  | cons x rest ih =>
    have hx : x.length = n := h x (by simp)
    cases j with
    | zero => simp [← hx]
    | succ j =>
      have hdrop : n * (j + 1) = x.length + n * j := by rw [hx]; ring
      rw [List.flatten_cons, hdrop, List.drop_append]
      have hnil : x.drop (x.length + n * j) = [] := List.drop_eq_nil_of_le (by omega)
      simpa [hnil] using ih (fun y hy => h y (by simp [hy])) (by simpa using hj)

/-- Settles O13: the reply is the head and then the records, each seven bytes, or the restored-band set. -/
theorem mapReadAnswers : Obligations.MapReadAnswers := by
  intro p first count s₀ s hs
  have row := exec_request_heard p (.mapRead first count) s₀ s hs rfl (by cases p <;> rfl) rfl
  constructor
  · intro h1 h7 h20
    have accepted : ¬ (count = 0 ∨ 7 < count ∨ 19 < first + count - 1) := by omega
    have head : s.map.valid.toNat * 128 + first = (if s.map.valid then 128 else 0) + first := by
      cases s.map.valid <;> rfl
    refine ⟨if s.map.valid then
        ((List.range count).map fun j => bandRecord s.map.revCount (s.map.band (first + j))).flatten
      else restoredBytes s.map, row.trans ?_, fun hv => ?_, fun hv => ?_⟩
    · rw [decideRequest, decideMapRead, if_neg accepted, head]; rfl
    · have pieces : ∀ x ∈ (List.range count).map fun j => bandRecord s.map.revCount (s.map.band (first + j)),
          x.length = 7 := by simp [bandRecord_length]
      rw [if_pos hv]
      refine ⟨?_, fun j hj => ?_⟩
      · simp [List.length_flatten, Function.comp_def, bandRecord_length, Nat.mul_comm]
      · rw [take_drop_flatten pieces (by simpa using hj)]
        simp only [List.getElem_map, List.getElem_range, bandRecord, glazedAge]
        rfl
    · rw [hv]; rfl
  · intro h
    refine row.trans ?_
    rw [decideRequest, decideMapRead, if_pos (by omega)]; rfl

end Sys2Proof.Machine

namespace Sys2Proof.Machine
open Sys2Proof

/-! ### The accrual -/

theorem State.contributes_iff (s : State) (l : Lane) : s.contributes l = true ↔
    (s.lane l).state ≠ .raised ∧ (s.arm l.arm).referenced = true ∧ (s.map.chords.get l).loaded = true := by
  have down : s.laneDown l = true ↔ (s.lane l).state ≠ .raised := by
    unfold State.laneDown
    cases (s.lane l).state <;> simp [LaneState.down]
  rw [State.contributes, Bool.and_eq_true, Bool.and_eq_true, down, and_assoc]

theorem State.wetFactor_eq_two (s : State) (l : Lane) (k : Nat) : s.wetFactor l k = 2 ↔ s.wetBand l k = false := by
  unfold State.wetFactor
  cases s.wetBand l k <;> simp

/-- A band is wet under some outlet of the lane's bar that serves flow and whose range, clipped at band 19, holds it (R45). -/
theorem State.wetBand_iff (s : State) (l : Lane) (k : Nat) : s.wetBand l k = true ↔
    ∃ o, 0 < ((s.bar l).outlets.get o).served ∧ (s.settings.slurry.outletFirst.get l).get o ≤ k ∧
      k ≤ min 19 ((s.settings.slurry.outletFirst.get l).get o + (s.settings.slurry.outletCount.get l).get o - 1) := by
  have outlets : ∀ p : Outlet → Prop, (∃ o, p o) ↔ (p .inner ∨ p .middle) ∨ p .outer := fun p =>
    ⟨fun ⟨o, h⟩ => by cases o <;> simp [h], fun h => by rcases h with (h | h) | h <;> exact ⟨_, h⟩⟩
  simp only [State.wetBand, inOutletRange, Bool.or_eq_true, Bool.and_eq_true, decide_eq_true_eq, outlets]

theorem clampRadius_eq (p : Int) : (clampRadius p : Int) = max 0 (min 45000 p) := by
  unfold clampRadius
  omega

theorem State.laneChord_eq (s : State) (l : Lane) (k : Nat) : s.laneChord l k =
    (let place := ((2000 * k + 1000 : Nat) - max 0 (min 45000 (s.arm l.arm).count.toInt) : Int).natAbs / 1000
      if (s.arm l.arm).referenced = true ∧ (s.map.chords.get l).loaded = true ∧ place ≤ 19 then
        (s.map.chords.get l).entries.getD place 0
      else 0) := by
  simp only [State.laneChord, chordAt, radiusDistance, clampRadius_eq, bandCentre, ArmTrack.position, Bool.and_eq_true,
    ← and_assoc, ite_and]

theorem CondState.cutting_iff (st : CondState) : st.cutting = true ↔ st = .dwelling ∨ st = .sweeping := by
  cases st <;> decide

/-- Settles O16, each clause by the equation of the function that it is about. -/
theorem accrualAmounts : Obligations.AccrualAmounts := by
  intro l k s works
  have contributes : s.contributes l = true ↔ works := s.contributes_iff l
  refine ⟨fun h => ?_, fun h => ?_, ?_, s.laneChord_eq l k, ?_, ?_, fun h => ?_, fun hd hs => ?_⟩
  · rw [State.laneWork, if_pos (contributes.2 h)]
    rfl
  · rw [State.laneWork, if_neg (mt contributes.1 h)]
  · simp [State.dryContact, contributes, bandIndices, State.wetFactor_eq_two]
  · rintro ⟨o, hserved, hfirst, hlast, hcount⟩
    rw [State.wetFactor, if_pos ((s.wetBand_iff l k).2 ⟨o, hserved, hfirst, by omega⟩)]
  · intro hcount hdry
    rw [State.wetFactor_eq_two, ← Bool.not_eq_true, s.wetBand_iff]
    rintro ⟨o, hserved, hfirst, hlast⟩
    have := hcount o
    rcases hdry o with h | h | h <;> omega
  · have cutting := (CondState.cutting_iff _).2 h
    simp only [State.diskWork, cutting, radiusDistance, bandCentre, ArmTrack.position, true_and]
  · rw [State.diskWork, if_neg fun h => ?_]
    rcases (CondState.cutting_iff _).1 h.1 with h | h
    · exact hd h
    · exact hs h

end Sys2Proof.Machine

namespace Sys2Proof.Machine
open Sys2Proof

/-! ### MAP RESTORE -/

theorem repeatsBand_iff (es : List RestoreEntry) : repeatsBand es = true ↔ ¬ (es.map (·.band)).Nodup := by
  induction es with
  | nil => simp [repeatsBand]
  | cons e rest ih =>
    rw [repeatsBand, Bool.or_eq_true, ih, List.map_cons, List.nodup_cons, not_and_or, not_not]
    simp

theorem RestoreEntry.outOfRange_iff (e : RestoreEntry) :
    RestoreEntry.outOfRange e = true ↔ 19 < e.band ∨ 65535 < e.wear ∨ 4000 < e.heightUm := by
  simp [RestoreEntry.outOfRange, or_assoc]

namespace PadMap

/-- The record that an entry stores: its wear and height loss, classified with the count in force (R3, R15). -/
def storedBand (g : MapSettings) (m : PadMap) (e : RestoreEntry) : Band :=
  reclassify g m.revCount { m.band e.band with wear := e.wear, height := e.heightUm * 1000 }

theorem restoreEntry_band (g : MapSettings) (m : PadMap) (e : RestoreEntry) (k : Nat) (he : e.band < m.bands.length) :
    (m.restoreEntry g e).band k = if k = e.band then m.storedBand g e else m.band k := by
  by_cases hk : k = e.band
  · subst hk
    simp [restoreEntry, band, he, storedBand]
  · simp [restoreEntry, band, hk, List.getElem?_set_ne (Ne.symm hk)]

theorem restoreEntry_restored (g : MapSettings) (m : PadMap) (e : RestoreEntry) (k : Nat)
    (he : e.band < m.restored.length) :
    (m.restoreEntry g e).restored.getD k false = (m.restored.getD k false || decide (k = e.band)) := by
  by_cases hk : k = e.band
  · subst hk
    simp [restoreEntry, he]
  · simp [restoreEntry, hk, List.getElem?_set_ne (Ne.symm hk)]

/-- The map once the entries of a MAP RESTORE are stored, one after the other (R15). -/
def restoreEntries (g : MapSettings) (m : PadMap) (es : List RestoreEntry) : PadMap := es.foldl (restoreEntry g) m

theorem restoreEntries_frame (g : MapSettings) (m : PadMap) (es : List RestoreEntry) :
    m.restoreEntries g es =
        { m with bands := (m.restoreEntries g es).bands, restored := (m.restoreEntries g es).restored } ∧
      (m.restoreEntries g es).bands.length = m.bands.length ∧
      (m.restoreEntries g es).restored.length = m.restored.length := by
  induction es generalizing m with
  | nil => exact ⟨rfl, rfl, rfl⟩
  | cons e rest ih =>
    obtain ⟨hframe, hbands, hrestored⟩ := ih (m.restoreEntry g e)
    exact ⟨hframe, hbands.trans (by simp [restoreEntry]), hrestored.trans (by simp [restoreEntry])⟩

theorem restoreEntries_band_of_not_mem {g : MapSettings} {m : PadMap} {es : List RestoreEntry} {k : Nat}
    (he : ∀ e ∈ es, e.band < m.bands.length) (hk : k ∉ es.map (·.band)) : (m.restoreEntries g es).band k = m.band k := by
  induction es generalizing m with
  | nil => rfl
  | cons e rest ih =>
    simp only [List.map_cons, List.mem_cons, not_or] at hk
    refine (ih (m := m.restoreEntry g e) (fun x hx => ?_) hk.2).trans ?_
    · simpa [restoreEntry] using he x (by simp [hx])
    · rw [restoreEntry_band g m e k (he e (by simp)), if_neg hk.1]

theorem restoreEntries_band_of_mem {g : MapSettings} {m : PadMap} {es : List RestoreEntry} {e : RestoreEntry}
    (hlen : ∀ e ∈ es, e.band < m.bands.length) (hnodup : (es.map (·.band)).Nodup) (he : e ∈ es) :
    (m.restoreEntries g es).band e.band = m.storedBand g e := by
  induction es generalizing m with
  | nil => cases he
  | cons x rest ih =>
    rw [List.map_cons, List.nodup_cons] at hnodup
    have hx := hlen x (by simp)
    have hrest : ∀ e ∈ rest, e.band < (m.restoreEntry g x).bands.length := fun y hy => by
      simpa [restoreEntry] using hlen y (by simp [hy])
    rcases List.mem_cons.1 he with rfl | he
    · refine (restoreEntries_band_of_not_mem hrest hnodup.1).trans ?_
      rw [restoreEntry_band g m e _ hx, if_pos rfl]
    · have hne : e.band ≠ x.band := fun h => hnodup.1 (h ▸ List.mem_map_of_mem he)
      refine (ih hrest hnodup.2 he).trans ?_
      rw [storedBand, restoreEntry_band g m x _ hx, if_neg hne]
      rfl

theorem restoreEntries_restored {g : MapSettings} {m : PadMap} {es : List RestoreEntry} (k : Nat)
    (he : ∀ e ∈ es, e.band < m.restored.length) :
    (m.restoreEntries g es).restored.getD k false =
      (m.restored.getD k false || decide (k ∈ es.map (·.band))) := by
  induction es generalizing m with
  | nil => simp [restoreEntries]
  | cons e rest ih =>
    refine (ih (m := m.restoreEntry g e) fun x hx => ?_).trans ?_
    · simpa [restoreEntry] using he x (by simp [hx])
    · rw [restoreEntry_restored g m e k (he e (by simp)), Bool.or_assoc, ← Bool.decide_or, List.map_cons]
      simp

theorem restoreComplete_iff {m : PadMap} (h : m.restored.length = 20) :
    m.restoreComplete = true ↔ ∀ k < 20, m.restored.getD k false = true := by
  rw [restoreComplete, List.all_eq_true]
  constructor
  · intro hall k hk
    rw [List.getD_eq_getElem _ _ (by omega)]
    exact hall _ (List.getElem_mem _)
  · intro hall b hb
    obtain ⟨i, hi, rfl⟩ := List.mem_iff_getElem.1 hb
    have := hall i (by omega)
    rwa [List.getD_eq_getElem _ _ hi] at this

end PadMap

/-- The reply of a MAP RESTORE, by the validity (R15, 10.1). -/
theorem restoreReply_eq (m : PadMap) :
    restoreReply m = if m.valid then [20, 1] else [BitVec.ofNat 8 (m.restored.count true), 0] := by
  unfold restoreReply
  cases m.valid <;> rfl

theorem State.mapRestore_eq (es : List RestoreEntry) (s : State) : s.mapRestore es =
    if (s.map.restoreEntries s.settings.map es).restoreComplete then
      { s with map := (s.map.restoreEntries s.settings.map es).becomeValid, events := s.events ++ [.mapReplaced] }
    else { s with map := s.map.restoreEntries s.settings.map es } := rfl

theorem State.mapRestore_frame (es : List RestoreEntry) (s : State) :
    s.mapRestore es = { s with map := (s.mapRestore es).map, events := (s.mapRestore es).events } ∧
      (s.mapRestore es).map.chords = s.map.chords ∧
      ∀ k, (s.mapRestore es).map.band k = (s.map.restoreEntries s.settings.map es).band k := by
  have chords : (s.map.restoreEntries s.settings.map es).chords = s.map.chords := by
    rw [(PadMap.restoreEntries_frame s.settings.map s.map es).1]
  rw [State.mapRestore_eq]
  split
  · exact ⟨rfl, chords, fun _ => rfl⟩
  · exact ⟨rfl, chords, fun _ => rfl⟩

/-- Settles O14: the entries are stored one after the other, and the twentieth band completes the map. -/
theorem mapRestoreStores : Obligations.MapRestoreStores := by
  intro entries s₀ s hs h1 h7
  have row := exec_request_decided .s (.mapRestore entries) s₀ s hs rfl
    (by simp [lengthOk, between, h1, h7])
  rw [decideRequest, decideMapRestore] at row
  constructor
  · intro hbad
    rw [if_pos] at row
    · exact row
    · rw [Bool.or_eq_true, List.any_eq_true, repeatsBand_iff]
      simpa only [RestoreEntry.outOfRange_iff] using hbad
  · intro hrange hnodup
    rw [if_neg] at row
    · refine ⟨fun hv => ?_, fun hv hbands hrestored => ?_⟩
      · rw [if_pos hv] at row
        exact row
      · rw [if_neg (by simp [hv])] at row
        obtain ⟨frame, chords, bands⟩ := s.mapRestore_frame entries
        obtain ⟨hframe, -, hlen⟩ := PadMap.restoreEntries_frame s.settings.map s.map entries
        have hband : ∀ e ∈ entries, e.band < s.map.bands.length := fun e he => by have := (hrange e he).1; omega
        have hflag : ∀ e ∈ entries, e.band < s.map.restored.length := fun e he => by have := (hrange e he).1; omega
        have complete := PadMap.restoreComplete_iff (hlen.trans hrestored)
        refine ⟨s.mapRestore entries, row, frame, chords, restoreReply_eq _, fun e he => ?_, fun k hk => ?_,
          fun hall => ?_, fun j hj hj1 hj2 => ?_⟩
        · rw [bands, PadMap.restoreEntries_band_of_mem hband hnodup he]
          exact ⟨rfl, rfl, rfl, rfl⟩
        · rw [bands, PadMap.restoreEntries_band_of_not_mem hband hk]
        · rw [State.mapRestore_eq, if_pos]
          · exact ⟨rfl, rfl, rfl, rfl, rfl, rfl, rfl, rfl, rfl⟩
          · refine complete.2 fun k hk => ?_
            rw [PadMap.restoreEntries_restored k hflag, Bool.or_eq_true, decide_eq_true_eq]
            exact hall k hk
        · rw [State.mapRestore_eq, if_neg]
          · exact ⟨hframe, rfl, fun k _ => PadMap.restoreEntries_restored k hflag⟩
          · intro hc
            have := complete.1 hc j hj
            rw [PadMap.restoreEntries_restored j hflag, hj1, Bool.false_or, decide_eq_true_eq] at this
            exact hj2 this
    · rw [Bool.or_eq_true, List.any_eq_true, repeatsBand_iff, not_or, not_not]
      refine ⟨?_, hnodup⟩
      rintro ⟨e, he, ho⟩
      obtain ⟨hb, hw, hh⟩ := hrange e he
      rcases (RestoreEntry.outOfRange_iff e).1 ho with h | h | h <;> omega

end Sys2Proof.Machine

/-!
The valid close (O19).
-/

namespace Sys2Proof.Machine
open Sys2Proof

/-! ### Filings -/

theorem State.onlyFiled_of_links {s t : State} (h : t.links = s.links) : s.onlyFiled t := by
  have port : ∀ p, t.port p = s.port p := fun p => by rw [State.port, State.port, h]
  exact ⟨by rw [h], fun p => ⟨by rw [port], fun n hn => by rwa [port]⟩⟩

theorem State.onlyFiled.trans {s t u : State} (h : s.onlyFiled t) (k : t.onlyFiled u) : s.onlyFiled u := by
  refine ⟨k.1.trans h.1, fun p => ⟨?_, fun n hn => (k.2 p).2 n ((h.2 p).2 n hn)⟩⟩
  rw [(k.2 p).1, (h.2 p).1]

theorem State.onlyFiled_file (p : Port) (n : Notice) (s : State) : s.onlyFiled (s.file p n) := by
  refine ⟨rfl, fun q => ⟨?_, fun x hx => (State.mem_file p q n x s).2 (.inr hx)⟩⟩
  rw [State.file_port]
  split
  · next h => rw [h]
  · rfl

theorem State.onlyFiled_fileAll (n : Notice) (s : State) : s.onlyFiled (s.fileAll n) :=
  ((s.onlyFiled_file .s n).trans (State.onlyFiled_file .a n _)).trans (State.onlyFiled_file .b n _)

theorem State.onlyFiled_onRise (b a : Bool) (f : State → State) (s : State) (h : s.onlyFiled (f s)) :
    s.onlyFiled (s.onRise b a f) := by
  unfold State.onRise
  split
  · exact h
  · exact State.onlyFiled_of_links rfl

theorem State.mem_onRise_file (c : Bool) (p q : Port) (n x : Notice) (s : State) :
    x ∈ ((s.onRise false c (·.file p n)).port q).notices ↔ (c = true ∧ q = p ∧ x = n) ∨ x ∈ (s.port q).notices := by
  cases c <;> simp [State.onRise, State.mem_file]

theorem State.mem_onRise_fileAll (c : Bool) (q : Port) (n x : Notice) (s : State) :
    x ∈ ((s.onRise false c (·.fileAll n)).port q).notices ↔ (c = true ∧ x = n) ∨ x ∈ (s.port q).notices := by
  cases c <;> simp [State.onRise, State.mem_fileAll]

/-! ### What a valid close files and raises -/

theorem State.onlyFiled_closeNotices (old : PadMap) (s : State) : s.onlyFiled (s.closeNotices old) :=
  (((s.onlyFiled_onRise _ _ _ (State.onlyFiled_file _ _ _)).trans
    (State.onlyFiled_onRise _ _ _ _ (State.onlyFiled_file _ _ _))).trans
    (State.onlyFiled_onRise _ _ _ _ (State.onlyFiled_file _ _ _))).trans
    (State.onlyFiled_onRise _ _ _ _ (State.onlyFiled_fileAll _ _))

/-- Band k enters a state between two maps (R4). -/
theorem enters_iff (st : BandState) (old new : PadMap) (k : Nat) :
    enters st old new k = true ↔ (new.band k).state = st ∧ (old.band k).state ≠ st := by
  simp [enters]

theorem any_bandIndices (f : Nat → Bool) : bandIndices.any f = true ↔ ∃ k < 20, f k = true := by
  simp [bandIndices]

/-- The notices of a valid close are GLAZE at S, GLAZE_UNDER at the lanes whose carriers lie over a band that enters GLAZED, and
PAD_SPENT everywhere (R4, R54). -/
theorem State.mem_closeNotices (old : PadMap) (s : State) (p : Port) (x : Notice) :
    x ∈ ((s.closeNotices old).port p).notices ↔
      (x = .padSpent ∧ ∃ k < 20, enters .worn old s.map k = true) ∨
      (x = .glazeUnder ∧ ∃ l : Lane, p = l.port ∧ ∃ k < 20, enters .glazed old s.map k = true ∧ 0 < s.laneChord l k) ∨
      (x = .glaze ∧ p = .s ∧ ∃ k < 20, enters .glazed old s.map k = true) ∨ x ∈ (s.port p).notices := by
  have entered : (!(bandIndices.filter (enters .glazed old s.map)).isEmpty) = true ↔
      ∃ k < 20, enters .glazed old s.map k = true := by
    rw [Bool.not_eq_true', List.isEmpty_eq_false_iff_exists_mem]
    simp [bandIndices]
  have under : ∀ l, ((bandIndices.filter (enters .glazed old s.map)).any fun k => decide (0 < s.laneChord l k)) = true ↔
      ∃ k < 20, enters .glazed old s.map k = true ∧ 0 < s.laneChord l k := fun l => by
    simp [bandIndices]
  unfold State.closeNotices
  simp only [State.mem_onRise_file, State.mem_onRise_fileAll, entered, under, any_bandIndices]
  constructor
  · rintro (⟨h, hx⟩ | ⟨h, hp, hx⟩ | ⟨h, hp, hx⟩ | ⟨h, hp, hx⟩ | h)
    · exact .inl ⟨hx, h⟩
    · exact .inr (.inl ⟨hx, .b, hp, h⟩)
    · exact .inr (.inl ⟨hx, .a, hp, h⟩)
    · exact .inr (.inr (.inl ⟨hx, hp, h⟩))
    · exact .inr (.inr (.inr h))
  · rintro (⟨hx, h⟩ | ⟨hx, l, hp, h⟩ | ⟨hx, hp, h⟩ | h)
    · exact .inl ⟨h, hx⟩
    · cases l
      · exact .inr (.inr (.inl ⟨h, hp, hx⟩))
      · exact .inr (.inl ⟨h, hp, hx⟩)
    · exact .inr (.inr (.inr (.inl ⟨h, hp, hx⟩)))
    · exact .inr (.inr (.inr (.inr h)))

theorem State.validClose_map (s : State) : s.validClose.map =
    ({ s.map with bands := s.map.closedBands s.settings.map, revCount := s.map.revCount + 1 } : PadMap).clearTallies := by
  simp [State.validClose]

theorem State.validClose_events (s : State) : s.validClose.events =
    s.events ++ [.condMapUpdated s.mapUpdated, .gainRecompute s.mapUpdated, .dryCountUpdate s.mapUpdated] := by
  simp [State.validClose, State.issueUpdated]

theorem State.validClose_links (s : State) : s.validClose.links =
    ((s.modMap fun m => { m with bands := m.closedBands s.settings.map, revCount := m.revCount + 1 }).closeNotices
      s.map).links := by
  simp [State.validClose]

theorem State.onlyFiled_validClose (s : State) : s.onlyFiled s.validClose :=
  ((State.onlyFiled_of_links rfl : s.onlyFiled (s.modMap _)).trans (State.onlyFiled_closeNotices s.map _)).trans
    (State.onlyFiled_of_links s.validClose_links)

theorem PadMap.closedBands_band (g : MapSettings) (m : PadMap) {k : Nat} (hk : k < 20) :
    (m.closedBands g).getD k Band.fresh = closeBand g (m.revCount + 1) (m.tally.getD k 0) (m.cut.getD k 0) (m.band k) := by
  rw [PadMap.closedBands, List.getD_eq_getElem?_getD, List.getElem?_map, bandIndices, List.getElem?_range hk]
  rfl

/-! ### The clean index in TRACKING -/

theorem State.onlyFiled_measureSpeed (period : Nat) (s : State) : s.onlyFiled (s.measureSpeed period) := by
  unfold State.measureSpeed State.evaluateWindow
  simp only
  split
  · exact State.onlyFiled_of_links rfl
  · refine State.onlyFiled.trans ?_ (State.onlyFiled_fileAll _ _)
    exact State.onlyFiled_of_links rfl

theorem State.mem_measureSpeed {period : Nat} {s : State} {p : Port} {x : Notice} (hx : x ≠ .speedWindow) :
    x ∈ ((s.measureSpeed period).port p).notices ↔ x ∈ (s.port p).notices := by
  unfold State.measureSpeed State.evaluateWindow
  simp only
  split
  · rfl
  · rw [State.mem_fileAll]
    simp [hx]

/-- The valid close at a clean index in TRACKING, and the speed measured there. -/
def State.cleanClose (s : State) : State :=
  (s.accrue.validClose.modMap fun m => { m with suspect := false }).measureSpeed s.tracker.periodTimer

/-- A clean index in TRACKING, with nothing suspect and a VALID map, closes and begins the next revolution, and the tracker
stays in TRACKING (R28, R49, R57). -/
theorem State.indexEvent_clean {s : State} (ht : s.tracker.state = .tracking) (hp : s.tracker.platenSuspect = false)
    (hd : s.tracker.disturbed = false) (hsuspect : s.map.suspect = false) (hv : s.map.valid = true) :
    s.indexEvent .clean = (s.cleanClose.modTracker (·.beginNext .clean)).raise .indexProfileApply := by
  have verdict : s.tracker.verdictSuspect .clean = false := by simp [Tracker.verdictSuspect, hp]
  have clean : s.tracker.cleanRevolution .clean = true := by simp [Tracker.cleanRevolution, hd]
  have after : ∀ t : Tracker, t.state = .tracking → t.platenSuspect = false → t.stateAfter .clean = .tracking :=
    fun t h1 h2 => by simp [Tracker.stateAfter, Tracker.runAfter, Tracker.verdictSuspect, h1, h2]
  have close : s.closeRevolution false false = s.accrue.validClose.modMap fun m => { m with suspect := false } := by
    have : s.accrue.closeSuspect false = false := by
      show (false || s.map.suspect || !s.map.valid) = false
      simp [hsuspect, hv]
    simp [State.closeRevolution, this]
  have measured : s.cleanClose.tracker.state = .tracking ∧ s.cleanClose.tracker.platenSuspect = false := by
    have course := (State.sameCourse_evaluateWindow
      ((s.accrue.validClose.modMap fun m => { m with suspect := false }).modTracker fun t =>
        { t with period := s.tracker.periodTimer, speed := speedOf s.tracker.periodTimer })).course
    simp only [Tracker.course, Prod.mk.injEq, State.modTracker_tracker, State.modMap_tracker, State.validClose_tracker,
      State.accrue_tracker] at course
    exact ⟨course.1.trans ht, course.2.2.2.1.trans hp⟩
  have unchanged : (s.cleanClose.modTracker (·.beginNext .clean)).trackerChanged .tracking =
      s.cleanClose.modTracker (·.beginNext .clean) := by
    rw [State.trackerChanged, if_pos]
    exact after _ measured.1 measured.2
  unfold State.indexEvent
  simp only [verdict, clean, after _ ht hp, TrackerState.outside, close, if_true, ht]
  rw [← State.cleanClose, unchanged]

/-- The wear of a band at a valid close, as a number held between 0 and 65535 (R52). -/
theorem closeBand_wear (g : MapSettings) (c : BitVec 32) (tally cut : Nat) (b : Band) :
    ((closeBand g c tally cut b).wear : Int) =
      max 0 (min 65535 ((b.wear : Int) + ((tally + 8192) / 16384 : Nat) - (cut * g.cutGain / 256 : Nat))) := by
  show ((min 65535 (b.wear + exposure tally - scaledCut cut g.cutGain) : Nat) : Int) = _
  unfold exposure scaledCut
  omega

theorem classify_eq (g : MapSettings) (wear height : Nat) : classify g wear height =
    if g.padLife * 1000 ≤ height then .worn
    else if g.glazeLimit ≤ wear then .glazed
    else if g.glazeWarn ≤ wear then .glazing
    else .fresh := by
  unfold classify
  simp only [Nat.le_div_iff_mul_le (by decide : 0 < 1000)]

theorem State.cleanClose_map (s : State) : s.cleanClose.map = { s.accrue.validClose.map with suspect := false } := by
  simp [State.cleanClose, State.measureSpeed]

/-- What a clean close makes of the map but for the records (R51, R54, R57). -/
theorem State.cleanClose_map_frame (s : State) : s.cleanClose.map.bands.length = 20 ∧
    s.cleanClose.map = { s.map with
      bands := s.cleanClose.map.bands, revCount := s.map.revCount + 1, tally := List.replicate 20 0
      cut := List.replicate 20 0, dryMarks := ⟨0, 0⟩, cutMark := false, suspect := false } := by
  rw [State.cleanClose_map, State.validClose_map]
  exact ⟨by simp [PadMap.clearTallies, PadMap.closedBands, bandIndices], rfl⟩

theorem State.cleanClose_events (s : State) : s.cleanClose.events = s.accrue.validClose.events := by
  simp [State.cleanClose, State.measureSpeed]

theorem State.onlyFiled_cleanClose (s : State) : s.onlyFiled s.cleanClose := by
  have accrued : s.onlyFiled s.accrue := State.onlyFiled_of_links rfl
  have closed := accrued.trans (State.onlyFiled_validClose _)
  have marked := closed.trans (State.onlyFiled_of_links (s := s.accrue.validClose)
    (t := s.accrue.validClose.modMap fun m => { m with suspect := false }) rfl)
  exact marked.trans (State.onlyFiled_measureSpeed _ _)

/-- Nothing but the map, the tracker, the notices and the outstanding events changes at a clean close. -/
theorem State.cleanClose_frame (s : State) : s.cleanClose = { s with
    map := s.cleanClose.map, tracker := s.cleanClose.tracker, links := s.cleanClose.links
    events := s.cleanClose.events } := by
  have hub : s.cleanClose.hub = s.hub := by simp [State.cleanClose, State.measureSpeed]
  have press : s.cleanClose.press = s.press := by simp [State.cleanClose, State.measureSpeed]
  have cond : s.cleanClose.cond = s.cond := by simp [State.cleanClose, State.measureSpeed]
  have slurry : s.cleanClose.slurry = s.slurry := by simp [State.cleanClose, State.measureSpeed]
  have matrix : s.cleanClose.matrix = s.matrix := by simp [State.cleanClose, State.measureSpeed]
  have settings : s.cleanClose.settings = s.settings := by simp [State.cleanClose, State.measureSpeed]
  have reset : s.cleanClose.resetAsserted = s.resetAsserted := by simp [State.cleanClose, State.measureSpeed]
  have pending : s.cleanClose.pending = s.pending := by simp [State.cleanClose, State.measureSpeed]
  rw [← hub, ← press, ← cond, ← slurry, ← matrix, ← settings, ← reset, ← pending]

/-- The record of band k after a clean close (R52 to R54). -/
theorem State.cleanClose_band (s : State) {k : Nat} (hk : k < 20) : s.cleanClose.map.band k =
    closeBand s.settings.map (s.map.revCount + 1) (s.map.tally.getD k 0 + s.laneWork .a k + s.laneWork .b k)
      (s.map.cut.getD k 0 + s.diskWork k) (s.map.band k) := by
  have entry : ∀ f : Nat → Nat, (bandIndices.map f).getD k 0 = f k := fun f => by
    simp [bandIndices, hk]
  rw [State.cleanClose_map, State.validClose_map]
  refine (PadMap.closedBands_band s.settings.map s.accrue.map hk).trans ?_
  simp only [State.accrue, State.modMap_map, entry]
  rfl

/-- The notices of a clean close, but for a change of the speed window. -/
theorem State.mem_cleanClose (s : State) (p : Port) {x : Notice} (hx : x ≠ .speedWindow) :
    x ∈ (s.cleanClose.port p).notices ↔
      (x = .padSpent ∧ ∃ k < 20, enters .worn s.map s.cleanClose.map k = true) ∨
      (x = .glazeUnder ∧ ∃ l : Lane, p = l.port ∧
        ∃ k < 20, enters .glazed s.map s.cleanClose.map k = true ∧ 0 < s.laneChord l k) ∨
      (x = .glaze ∧ p = .s ∧ ∃ k < 20, enters .glazed s.map s.cleanClose.map k = true) ∨
      x ∈ (s.port p).notices := by
  have port : ∀ q, s.accrue.validClose.port q =
      ((s.accrue.modMap fun m => { m with bands := m.closedBands s.settings.map, revCount := m.revCount + 1 }).closeNotices
        s.map).port q := fun q => by
    unfold State.port
    rw [State.validClose_links]
    rfl
  have same : ∀ st k, enters st s.map s.cleanClose.map k = enters st s.map
      { s.accrue.map with bands := s.accrue.map.closedBands s.settings.map, revCount := s.accrue.map.revCount + 1 } k :=
    fun st k => by rw [State.cleanClose_map, State.validClose_map]; rfl
  have measured : x ∈ (s.cleanClose.port p).notices ↔ x ∈ (s.accrue.validClose.port p).notices :=
    State.mem_measureSpeed hx
  rw [measured, port, State.mem_closeNotices]
  simp only [same]
  rfl

/-- Settles O19: the index closes cleanly, and each clause is a fact about that close. -/
theorem validClose : Obligations.ValidClose := by
  refine ⟨classify_eq, fun elapsed s₀ s hs ht hp hd hangle hsuspect hv => ?_⟩
  set s₁ := s.modTracker fun t => { t with periodTimer := advancePeriod t.periodTimer elapsed } with hs₁
  have row : exec (.indexEdge elapsed) s₀ =
      .next ((s₁.cleanClose.modTracker (·.beginNext .clean)).raise .indexProfileApply) := by
    show Host.Outcome.next (s₀.settled.indexEdge elapsed) = _
    rw [hs, State.indexEdge]
    simp only [ht, indexKindOf, if_pos hangle]
    rw [← hs₁, State.indexEvent_clean (s := s₁) ht hp hd hsuspect hv]
  have band : ∀ k < 20, s₁.cleanClose.map.band k = _ := fun k hk => s₁.cleanClose_band hk
  have notices := fun p x => s₁.mem_cleanClose p (x := x)
  have filed : s.onlyFiled s₁.cleanClose := (State.onlyFiled_of_links rfl).trans s₁.onlyFiled_cleanClose
  have events : s₁.cleanClose.events = s.events ++ [.condMapUpdated s₁.accrue.mapUpdated,
      .gainRecompute s₁.accrue.mapUpdated, .dryCountUpdate s₁.accrue.mapUpdated] := by
    rw [State.cleanClose_events, State.validClose_events]
    rfl
  obtain ⟨length, map⟩ := s₁.cleanClose_map_frame
  have frame := s₁.cleanClose_frame
  generalize s₁.cleanClose = v at row band notices filed events length map frame
  have cutting : s.cond.state.cutting = decide (s.cond.state = .dwelling ∨ s.cond.state = .sweeping) :=
    Bool.eq_iff_iff.2 (by simp [CondState.cutting_iff])
  refine ⟨_, row, fun k hk => ?_, filed, length, map, ⟨s₁.accrue.mapUpdated, ?_, ?_, fun l => ?_, fun l => ?_⟩, ?_,
    fun l => ?_, fun p => ?_, ?_⟩
  · show (((v.map.band k).wear : Nat) : Int) = _ ∧ (v.map.band k).height = _ ∧
      (v.map.band k).state = classify _ (v.map.band k).wear (v.map.band k).height ∧
      (v.map.band k).glazedSince = if (v.map.band k).state = .glazed then _ else none
    rw [band k hk]
    exact ⟨closeBand_wear _ _ _ _ _, rfl, rfl, rfl⟩
  · show v.events ++ [Event.indexProfileApply] = _
    rw [events, List.append_assoc]
    rfl
  · show (s.map.cutMark || s.cond.state.cutting) = _
    rw [cutting]
  · have marks : ∀ (n : Nat) (b : Bool), decide (1 ≤ n + b.toNat) = decide (1 ≤ n + if b then 1 else 0) := fun n b => by
      cases b <;> rfl
    cases l <;> exact marks _ _
  · cases l <;> rfl
  · refine (notices .s .glaze (by decide)).trans ?_
    simp only [enters_iff]
    simp [or_comm]
    rfl
  · refine (notices l.port .glazeUnder (by decide)).trans ?_
    have own : ∀ j : Lane, l.port = j.port ↔ l = j := fun j => by cases l <;> cases j <;> decide
    simp only [enters_iff, own]
    simp [or_comm, and_assoc]
    rfl
  · refine (notices p .padSpent (by decide)).trans ?_
    simp only [enters_iff]
    simp [or_comm]
    rfl
  · exact congrArg (fun u : State => { u with
      tracker := v.tracker.beginNext .clean, events := v.events ++ [Event.indexProfileApply] }) frame

end Sys2Proof.Machine

/-!
The requests that every port may send (O8): IDENT READ, NOTICES READ and the status pages.
-/

namespace Sys2Proof.Machine
open Sys2Proof

/-! ### Bytes and bits -/

theorem beNat_append (xs : List Byte) (b : Byte) : beNat (xs ++ [b]) = beNat xs * 256 + b.toNat := by
  simp [beNat]

/-- Reading a number's bytes gives the number again, up to what the bytes can hold. -/
theorem beNat_beBytes (w n : Nat) : beNat (beBytes w n) = n % 256 ^ w := by
  induction w generalizing n with
  | zero => simp [beBytes, beNat, Nat.mod_one]
  | succ w ih =>
    have split : n % 256 ^ (w + 1) = n % 256 + 256 * (n / 256 % 256 ^ w) := by rw [pow_succ', Nat.mod_mul]
    rw [beBytes, beNat_append, ih, BitVec.toNat_ofNat, split]
    omega

/-- Bit i of a bit field is member i. -/
theorem testBit_bitField (members : List Bool) (i : Nat) : (bitField members).testBit i = members.getD i false := by
  induction members generalizing i with
  | nil => simp [bitField]
  | cons b rest ih =>
    cases i with
    | zero => cases b <;> simp [bitField, Nat.testBit_zero]
    | succ i =>
      have half : (b.toNat + 2 * bitField rest) / 2 = bitField rest := by
        have := b.toNat_lt
        omega
      rw [bitField, Nat.testBit_succ, half, ih]
      rfl

/-- Bit i of a set's bytes is member i, where the bytes have that bit. -/
theorem testBit_setBytes {w : Nat} (members : List Bool) {i : Nat} (hi : i < 8 * w) :
    (beNat (setBytes w members)).testBit i = members.getD i false := by
  have top : (256 : Nat) ^ w = 2 ^ (8 * w) := by rw [Nat.pow_mul]
  rw [setBytes, beNat_beBytes, top, Nat.testBit_mod_two_pow, decide_eq_true hi, Bool.true_and, testBit_bitField]

/-- Bit i of the notice bytes says whether notice i belongs to the set (10.2). -/
theorem testBit_noticeBytes (set : List Notice) (n : Notice) :
    (beNat (noticeBytes set)).testBit (Notice.all.idxOf n) = decide (n ∈ set) := by
  have member : Notice.all[Notice.all.idxOf n]? = some n := by cases n <;> rfl
  have place : Notice.all.idxOf n < 8 * 3 := by cases n <;> decide
  rw [noticeBytes, testBit_setBytes _ place, List.getD_eq_getElem?_getD, List.getElem?_map, member]
  rfl

/-! ### Lengths of the items -/

@[simp] theorem boolByte_length (b : Bool) : (boolByte b).length = 1 := beBytes_length 1 _
@[simp] theorem setBytes_length (w : Nat) (members : List Bool) : (setBytes w members).length = w := beBytes_length w _
@[simp] theorem positionBytes_length (p : BitVec 32) : (positionBytes p).length = 4 := beBytes_length 4 _
@[simp] theorem presentByte_length : presentByte.length = 1 := rfl
@[simp] theorem optCode_length (x : Option Nat) : (optCode x).length = 2 := by cases x <;> rfl
@[simp] theorem measuredBytes_length (n : Nat) : (measuredBytes n).length = 2 := by
  unfold measuredBytes
  split <;> exact beBytes_length 2 _
@[simp] theorem targetsBytes_length (t : Six Nat) : (targetsBytes t).length = 12 := by
  simp [targetsBytes, Six.toList]
@[simp] theorem bandCountBytes_length (m : PadMap) : (bandCountBytes m).length = 4 := by simp [bandCountBytes]
@[simp] theorem armBytes_length (a : ArmTrack) : (armBytes a).length = 6 := by simp [armBytes]
@[simp] theorem holderBytes_length (h : Option Arm) : (holderBytes h).length = 2 := optCode_length _
@[simp] theorem noteSenderBytes_length (n : Option Note) : (noteSenderBytes n).length = 2 := optCode_length _
@[simp] theorem portSetBytes_length (f : Port → Bool) : (portSetBytes f).length = 1 := setBytes_length 1 _
@[simp] theorem laneHoldBytes_length (s : State) (l : Lane) : (laneHoldBytes s l).length = 8 := by
  simp [laneHoldBytes, causeSetBytes]
@[simp] theorem condTargetBytes_length (t : Option CondTarget) : (condTargetBytes t).length = 3 := by
  rcases t with _ | _ | _ | _ | _ <;> rfl
@[simp] theorem queueEntryBytes_length (e : QueueEntry) : (queueEntryBytes e).length = 5 := by simp [queueEntryBytes]
@[simp] theorem barBytes_length (b : Bar) : (barBytes b).length = 11 := by
  unfold barBytes
  cases b.resume <;> simp [Three.toList]
@[simp] theorem lineBytes_length (x : SupplyLine) : (lineBytes x).length = 12 := by simp [lineBytes]

@[simp] theorem waitListBytes_length (w : List Arm) : (waitListBytes w).length = 3 := by
  rcases w with _ | ⟨_, _ | ⟨_, _⟩⟩ <;> simp [waitListBytes]

@[simp] theorem queueHeadBytes_length (q : List QueueEntry) : (queueHeadBytes q).length = 20 := by
  simp [queueHeadBytes]

@[simp] theorem laneTargetsPage_length (s : State) (l : Lane) : (laneTargetsPage s l).length = 43 := by
  simp [laneTargetsPage]

@[simp] theorem laneCommandsPage_length (s : State) (l : Lane) : (laneCommandsPage s l).length = 32 := by
  unfold laneCommandsPage
  cases hq : (s.lane l).compPosition <;> simp [hq]

@[simp] theorem supplyBytes_length (s : State) : (supplyBytes s).length = 4 := by simp [supplyBytes]

@[simp] theorem barPage_length (s : State) (l : Lane) : (barPage s l).length = 29 := by simp [barPage, Three.toList]

/-- The items of a page take at most 53 bytes, which with its opening makes 58 (R179). -/
theorem pageBody_length {s : State} {p : Port} {page : Nat} {body : List Byte} (h : pageBody s p page = some body) :
    body.length ≤ 53 := by
  unfold pageBody at h
  split at h <;> cases h
  · simp [summaryPage]
  · simp [mapTrackerPage, restoredBytes]
  · simp [hubLinkPage]
  · simp
  · simp
  · simp
  · simp
  · simp [condPage]
  · simp [linesPage]
  · simp
  · simp
  · simp [matrixPage, tripSetBytes]
  · simp [laneSummaryPage]
  · simp
  · simp
  · simp [ownBarPage, Three.toList]

/-! ### The statement's items -/

theorem boolByte_eq : boolByte = fun b => beBytes 1 (if b then 1 else 0) := by
  funext b
  cases b <;> rfl

theorem targetsBytes_eq (t : Six Nat) : targetsBytes t =
    beBytes 2 t.z1 ++ beBytes 2 t.z2 ++ beBytes 2 t.z3 ++ beBytes 2 t.z4 ++ beBytes 2 t.z5 ++ beBytes 2 t.ring := by
  simp [targetsBytes, Six.toList]

/-- An entry of the queue's head, or zeros. -/
def queueEntryAt (q : List QueueEntry) (n : Nat) : List Byte := (q[n]?.map queueEntryBytes).getD [0, 0, 0, 0, 0]

theorem queueHeadBytes_eq (q : List QueueEntry) :
    queueHeadBytes q = queueEntryAt q 0 ++ queueEntryAt q 1 ++ queueEntryAt q 2 ++ queueEntryAt q 3 := by
  have cut : ∀ (n : Nat) (e : QueueEntry) (rest : List Byte),
      (queueEntryBytes e ++ rest).take (n + 5) = queueEntryBytes e ++ rest.take n := fun n e rest => by
    rw [Nat.add_comm, ← queueEntryBytes_length e, List.take_length_add_append]
  rcases q with _ | ⟨a, _ | ⟨b, _ | ⟨c, _ | ⟨d, rest⟩⟩⟩⟩ <;>
    simp [queueHeadBytes, queueEntryAt, cut]

theorem statusRead_row {p : Port} {page : Option Nat} {s₀ s : State} (hs : s₀.heard p = s) :
    exec (.statusRead p page) s₀ = .next ((decideStatusRead p page s).compose p Kind.statusRead.byte) :=
  exec_request_heard p (.statusRead page) s₀ s hs rfl (by cases p <;> rfl) rfl

end Sys2Proof.Machine

namespace Sys2Proof.Machine
open Sys2Proof

theorem presentByte_eq : presentByte = [1] := rfl

theorem zeroByte_eq : beBytes 1 0 = [0] := rfl

theorem armsInside_length (s : State) : s.armsInside.length =
    [Arm.a, .b, .cond].countP fun m => (s.arm m).referenced && (s.arm m).inside :=
  List.countP_eq_length_filter.symm

theorem inputActive_eq (s : State) (i : InputIndex) :
    s.inputActive i = xor (s.matrix.input i).accepted (s.settings.matrix.invertMask.getLsbD i) := rfl

theorem finRange_eight : List.finRange 8 = ([0, 1, 2, 3, 4, 5, 6, 7] : List InputIndex) := rfl

theorem pageBody_past_last {s : State} {p : Port} {page : Nat} (h : (if p = .s then 11 else 3) < page) :
    pageBody s p page = none := by
  cases p with
  | s =>
    obtain ⟨n, rfl⟩ : ∃ n, page = n + 12 := ⟨page - 12, by simp at h; omega⟩
    rfl
  | a | b =>
    obtain ⟨n, rfl⟩ : ∃ n, page = n + 4 := ⟨page - 4, by simp at h; omega⟩
    rfl

/-- A page the port has is answered with its opening and its items. -/
theorem statusRead_of_pageBody {p : Port} {page : Nat} {s₀ s : State} {body : List Byte} (hs : s₀.heard p = s)
    (h : pageBody s p page = some body) :
    exec (.statusRead p (some page)) s₀ = .next (replied p .statusRead .ok
      (beBytes 4 s.map.revCount.toNat ++ beBytes 1 s.matrix.station.code ++ body) s) := by
  rw [statusRead_row hs, decideStatusRead, Option.getD_some, h]
  rfl

/-- A page past the port's last is refused. -/
theorem statusRead_past_last {p : Port} {page : Nat} {s₀ s : State} (hs : s₀.heard p = s)
    (h : (if p = .s then 11 else 3) < page) :
    exec (.statusRead p (some page)) s₀ = .next (replied p .statusRead .range [] s) := by
  rw [statusRead_row hs, decideStatusRead, Option.getD_some, pageBody_past_last h]
  rfl

/-- Settles O8: each item of the statement is the model's item, and each page of the statement the model's page. -/
theorem readRequests : Obligations.ReadRequests := by
  refine ⟨fun p s₀ s hs => ⟨?_, noticeBytes (s.port p).notices, ?_, ?_, ?_⟩, fun p page s₀ s hs => ?_⟩
  · exact exec_request_heard p .identRead s₀ s hs rfl (by cases p <;> rfl) rfl
  · exact exec_request_heard p .noticesRead s₀ s hs rfl (by cases p <;> rfl) rfl
  · exact setBytes_length 3 _
  · exact testBit_noticeBytes _
  · intro one two flag optional bits six count counts arm holder sender noteLength silent hold targets commands
      supply line bar outlet entry summary mapAndTracker hubAndLinks conditioner matrix laneSummary ownBar items
    -- the items of section 10.2 are the model's
    have hflag : flag = boolByte := boolByte_eq.symm
    have hopt : optional = optCode := by funext x; cases x <;> rfl
    have hsix : six = targetsBytes := by funext t; exact (targetsBytes_eq t).symm
    have hcounts : counts = bandCountBytes s.map := by
      simp [counts, count, one, bandCountBytes, PadMap.countIn]
    have harm : ∀ m, arm m = armBytes (s.arm m) := fun m => by simp only [arm, hflag]; rfl
    have hholder : holder = holderBytes s.hub.holder := congrFun hopt _
    have hsilent : ∀ l, silent l = boolByte (s.links.silence.get l).silent := fun l => congrFun hflag _
    have hhold : ∀ l, hold l = laneHoldBytes s l := fun l => by
      simp only [hold, hopt, laneHoldBytes, causeSetBytes, Bool.decide_and]
      cases ((s.causes l).find? fun e => decide (e.kind = .pressureFault)).map (·.channels) with
      | none => simp [one, bits, Six.all, Six.toList]; rfl
      | some channels => simp [one, bits, Six.toList]
    have htargets : ∀ l, targets l = laneTargetsPage s l := fun l => by
      simp only [targets, hopt, hsix, hflag]; rfl
    have hcommands : ∀ l, commands l = laneCommandsPage s l := fun l => by
      simp only [commands, hsix, hflag, laneCommandsPage]
      cases hq : (s.lane l).compPosition <;> simp [presentByte_eq]
    have hline : ∀ k, line k = lineBytes (s.line k) := fun k => by
      simp only [line, hflag, lineBytes, measuredBytes, ← apply_ite]; rfl
    have hbar : ∀ l, bar l = barBytes (s.bar l) := fun l => by
      simp only [bar, hflag, barBytes, Three.toList]
      cases (s.bar l).resume <;> simp [one, two, presentByte_eq]
    have hentry : entry = queueEntryAt s.cond.queue := by
      funext n
      simp only [entry, hopt, queueEntryAt]
      cases s.cond.queue[n]? <;> rfl
    -- and so are the pages they make
    have hsummary : summary = summaryPage s := by
      simp only [summary, hflag, hcounts, hholder, hsilent]
      simp [summaryPage, one, bits, noteLength, sender, portSetBytes, Machine.noteLength]
    have hmap : mapAndTracker = mapTrackerPage s := by
      simp only [mapAndTracker, hflag, hcounts, harm]
      simp [mapTrackerPage, one, two, restoredBytes]
    have hhub : hubAndLinks = hubLinkPage s := by
      simp only [hubAndLinks, hflag, hholder, hopt, hsilent]
      rcases hw : s.hub.waitList with _ | ⟨m, _ | ⟨n, rest⟩⟩ <;>
        simp [hubLinkPage, hw, waitListBytes, armsInside_length, zeroByte_eq, one, bits, sender, noteLength,
          noteSenderBytes, Machine.noteLength]
    have hcond : conditioner = condPage s := by
      simp only [conditioner, hflag, hopt, hentry]
      rcases ht : s.cond.target with _ | _ | _ | _ | _ <;>
        simp [condPage, ht, condTargetBytes, presentByte_eq, positionBytes, queueHeadBytes_eq, one, two]
    have hlines : line .l1 ++ line .l2 ++ line .l3 = linesPage s := by simp [linesPage, hline]
    have hbars : ∀ l, bar l ++ outlet l .inner ++ outlet l .middle ++ outlet l .outer = barPage s l := fun l => by
      simp [barPage, hbar, outlet, two, Three.toList, Three.get]
    have hmatrix : matrix = matrixPage s := by
      simp only [matrix, hhold]
      simp [matrixPage, tripSetBytes, inputActive_eq, finRange_eight, one, bits]
      rfl
    have hlane : ∀ l, laneSummary l = laneSummaryPage s l := fun l => by
      simp only [laneSummary, hflag, hhold, harm, hopt, hsilent, Bool.decide_and]
      rcases ht : s.cond.target with _ | _ | _ | _ | _ <;>
        simp [laneSummaryPage, ht, State.glazedUnder, bandIndices, PadMap.anyWorn, Hub.standing, condTargetBand,
          noteSenderBytes, one, two, sender]
    have hown : ∀ l, ownBar l = ownBarPage s l := fun l => by
      simp only [ownBar, hbar, hopt]
      simp [ownBarPage, Three.toList, Three.get, two]
    have pages : page ≤ (if p = .s then 11 else 3) → pageBody s p page = some items := fun hpage => by
      rcases hl : p.lane? with _ | l
      · have last : page ≤ 11 := by cases p <;> simp_all [Port.lane?]
        simp only [items, pageBody, hl]
        interval_cases page
        · exact congrArg some hsummary.symm
        · exact congrArg some hmap.symm
        · exact congrArg some hhub.symm
        · exact congrArg some (htargets .a).symm
        · exact congrArg (fun b => some (b ++ supplyBytes s)) (hcommands .a).symm
        · exact congrArg some (htargets .b).symm
        · exact congrArg some (hcommands .b).symm
        · exact congrArg some hcond.symm
        · exact congrArg some hlines.symm
        · exact congrArg some (hbars .a).symm
        · exact congrArg some (hbars .b).symm
        · exact congrArg some hmatrix.symm
      · have last : page ≤ 3 := by cases p <;> simp_all [Port.lane?]
        simp only [items, pageBody, hl]
        interval_cases page
        · exact congrArg some (hlane l).symm
        · exact congrArg some (htargets l).symm
        · exact congrArg (fun b => some (b ++ supplyBytes s)) (hcommands l).symm
        · exact congrArg some (hown l).symm
    exact ⟨fun hpage => ⟨pageBody_length (pages hpage), statusRead_of_pageBody hs (pages hpage)⟩,
      (statusRead_row hs).trans (statusRead_row hs).symm, fun hpage => statusRead_past_last hs hpage⟩

end Sys2Proof.Machine

/-!
The taking of all that is outstanding (O3): each taking lowers the bound on what is still to be taken, so none is left.
-/

namespace Sys2Proof.Machine
open Sys2Proof

/-! ### What each operation adds to what is still to be taken -/

theorem State.outstanding_congr {s t : State} (he : t.events = s.events) (hh : t.hub.waitList = s.hub.waitList) :
    t.outstanding = s.outstanding := by
  rw [State.outstanding, State.outstanding, he, hh]

theorem State.outstanding_raise (e : Event) (s : State) : (s.raise e).outstanding = s.outstanding + e.weight := by
  simp only [State.outstanding, State.raise_events, State.raise_hub, List.map_append, List.sum_append, List.map_cons,
    List.map_nil, List.sum_cons, List.sum_nil]
  omega

/-- A told level is at most three events (R153). -/
theorem State.outstanding_addCause (l : Lane) (c : CauseEntry) (s : State) :
    (s.addCause l c).outstanding ≤ s.outstanding + 3 := by
  have told : ∀ level (u : State), (u.holdEntered l level).outstanding ≤ u.outstanding + 3 := fun level u => by
    have filed : (u.fileHold l).outstanding = u.outstanding := State.outstanding_congr (by simp) (by simp)
    unfold State.holdEntered State.tellLevel
    split <;> simp only [State.outstanding_raise, filed, Event.weight] <;> omega
  have set : ∀ x, (s.setCauses l x).outstanding = s.outstanding := fun _ => rfl
  unfold State.addCause State.addCauseWith
  simp only
  split
  · rw [set]; omega
  · exact (told _ _).trans_eq (by rw [set])

/-- A trip tells two levels, the slurry unit and the conditioner (R157). -/
theorem State.outstanding_tripCause (c : TripCause) (s : State) : (s.tripCause c).outstanding ≤ s.outstanding + 8 := by
  unfold State.tripCause
  simp only
  split
  · exact Nat.le_add_right _ _
  · simp only [State.outstanding_raise, State.addCauseBoth, Event.weight]
    refine Nat.add_le_add_right (Nat.add_le_add_right ?_ 1) 1 |>.trans (Nat.le_refl (s.outstanding + 6 + 1 + 1))
    exact (State.outstanding_addCause _ _ _).trans (Nat.add_le_add_right (State.outstanding_addCause _ _ _) 3)

theorem State.outstanding_dropGrant (s : State) : s.dropGrant.outstanding ≤ s.outstanding :=
  Nat.add_le_add_right ((List.filter_sublist.map _).sum_le_sum fun _ _ => Nat.zero_le _) _

theorem State.outstanding_withdrawClaim (m : Arm) (s : State) : (s.withdrawClaim m).outstanding ≤ s.outstanding :=
  Nat.add_le_add_left (Nat.mul_le_mul_left _ (List.length_filter_le _ _)) _

/-- A hand-off takes a claimant from the wait list and tells it at most one event (R63). -/
theorem State.outstanding_endGrant (s : State) : s.endGrant.outstanding ≤ s.outstanding := by
  unfold State.endGrant
  split
  · next hw => exact (State.outstanding_congr rfl rfl).le
  · next m rest hw =>
    have handed : ((s.modHub fun h => { h with waitList := rest }).grantHub m).outstanding + 2 = s.outstanding := by
      simp only [State.outstanding, State.grantHub, State.modHub, hw, List.length_cons]
      omega
    have filed : ∀ (p : Port) (u : State), (u.file p .hubGranted).outstanding = u.outstanding := fun _ _ => rfl
    have weight : Event.weight .condGrant = 1 := rfl
    unfold State.tellGrant
    split
    · rw [filed]; omega
    · rw [State.outstanding_raise, weight]; omega

theorem State.outstanding_releaseHub (m : Arm) (s : State) : (s.releaseHub m).2.outstanding ≤ s.outstanding := by
  unfold State.releaseHub
  (repeat' split)
  · exact Nat.le_refl _
  · exact s.outstanding_endGrant
  · exact s.outstanding_withdrawClaim m
  · exact Nat.le_refl _

theorem State.outstanding_claimHub (m : Arm) (s : State) : (s.claimHub m).2.outstanding ≤ s.outstanding + 2 := by
  have queued : (s.modHub fun h => { h with waitList := h.waitList ++ [m] }).outstanding = s.outstanding + 2 := by
    simp only [State.outstanding, State.modHub, List.length_append, List.length_singleton]
    omega
  unfold State.claimHub
  (repeat' split)
  all_goals first | exact Nat.le_add_right _ _ | exact queued.le

theorem State.outstanding_condGiveUp (s : State) : s.condGiveUp.outstanding ≤ s.outstanding :=
  (State.outstanding_releaseHub _ _).trans s.outstanding_dropGrant

theorem State.outstanding_startMove (st : CondState) (s : State) : (s.startMove st).outstanding = s.outstanding :=
  State.outstanding_congr (by simp) (by simp)

theorem State.outstanding_returnToPark (s : State) : s.returnToPark.outstanding ≤ s.outstanding :=
  (State.outstanding_startMove _ _).le.trans (State.outstanding_condGiveUp (s.setTarget (some .park)))

theorem State.outstanding_dealFor (t : CondTarget) (s : State) : (s.dealFor t).outstanding ≤ s.outstanding + 2 := by
  have claim := (State.outstanding_claimHub .cond (s.setTarget (some t)).dropGrant).trans
    (Nat.add_le_add_right (State.outstanding_dropGrant _) 2)
  have work : ∀ u : State, u.beginWork.outstanding = u.outstanding := fun u => State.outstanding_congr (by simp) (by simp)
  unfold State.dealFor
  simp only
  (repeat' split)
  · rw [work]; exact claim
  · exact claim
  · rw [work]; exact (State.outstanding_condGiveUp _).trans (Nat.le_add_right _ _)

theorem State.outstanding_goIdle (s : State) : s.goIdle.outstanding ≤ s.outstanding := by
  unfold State.goIdle
  split
  · exact Nat.le_refl _
  · exact s.outstanding_returnToPark

theorem State.outstanding_select (s : State) : s.select.outstanding ≤ s.outstanding + 2 := by
  unfold State.select
  (repeat' split)
  · exact s.outstanding_goIdle.trans (Nat.le_add_right _ _)
  · exact s.outstanding_dealFor _
  · exact (State.outstanding_condGiveUp (s.setTarget none)).trans (Nat.le_add_right _ _)
  · exact s.outstanding_goIdle.trans (Nat.le_add_right _ _)

theorem State.outstanding_reclaim (go other : State → State) (s : State)
    (hgo : ∀ u, (go u).outstanding = State.outstanding u) (hother : ∀ u, (other u).outstanding = State.outstanding u) :
    (s.reclaim go other).outstanding ≤ s.outstanding + 2 := by
  have claim := (State.outstanding_claimHub .cond s.dropGrant).trans (Nat.add_le_add_right s.outstanding_dropGrant 2)
  unfold State.reclaim
  simp only
  split
  · rw [hgo]; exact claim
  · rw [hother]; exact claim

/-! ### One taking -/

theorem State.outstanding_condMapUpdated (u : MapUpdated) (s : State) :
    (s.condMapUpdated u).outstanding ≤ s.outstanding + 2 := by
  have counted : ((s.rebuild).countDiskLife u.diskCut).outstanding = s.outstanding := by
    refine State.outstanding_congr ?_ ?_ <;> unfold State.countDiskLife State.rebuild <;> (repeat' split) <;> simp
  have dwelt : ∀ v : State, v.dwellTest.outstanding = v.outstanding := fun v => by
    refine State.outstanding_congr ?_ ?_ <;> unfold State.dwellTest <;> simp only <;> (repeat' split) <;> simp
  unfold State.condMapUpdated
  generalize (s.rebuild).countDiskLife u.diskCut = v at counted
  rw [← counted]
  unfold State.updatedWork
  (repeat' split)
  · exact (dwelt v).le.trans (Nat.le_add_right _ _)
  · exact v.outstanding_select
  all_goals first | exact v.outstanding_select | exact Nat.le_add_right _ _

theorem State.outstanding_dryUpdate (l : Lane) (u : MapUpdated) (s : State) :
    (s.dryUpdate l u).outstanding ≤ s.outstanding + 3 := by
  unfold State.dryUpdate State.onRise
  simp only
  split
  · exact State.outstanding_addCause _ _ _
  · exact Nat.le_add_right _ _

theorem State.outstanding_hubEntry (m : Arm) (s : State) : (s.hubEntry m).outstanding ≤ s.outstanding + 8 := by
  unfold State.hubEntry State.onRise
  (repeat' split)
  · exact Nat.le_add_right _ _
  · exact State.outstanding_tripCause _ _
  · exact Nat.le_add_right _ _

theorem State.outstanding_hubExit (m : Arm) (s : State) : (s.hubExit m).outstanding ≤ s.outstanding := by
  unfold State.hubExit
  (repeat' split)
  · exact s.outstanding_endGrant
  · exact Nat.le_refl _
  · exact Nat.le_refl _

theorem State.outstanding_condGrant (s : State) : s.condGrant.outstanding ≤ s.outstanding := by
  unfold State.condGrant
  (repeat' split)
  all_goals first
    | exact Nat.le_refl _
    | exact State.outstanding_releaseHub _ _
    | exact (State.outstanding_congr (by simp) (by simp)).le

theorem State.outstanding_condGrantLost (s : State) : s.condGrantLost.outstanding ≤ s.outstanding + 2 := by
  have reclaimed : ∀ other : State → State, (∀ u, (other u).outstanding = State.outstanding u) →
      (s.reclaim id other).outstanding ≤ s.outstanding + 2 := fun other h => s.outstanding_reclaim _ _ (fun _ => rfl) h
  unfold State.condGrantLost
  (repeat' split)
  · exact reclaimed _ fun _ => rfl
  · exact Nat.le_add_right _ _
  · exact reclaimed _ fun _ => rfl
  · exact Nat.le_add_right _ _
  · exact (State.outstanding_congr (by simp) (by simp)).le.trans (Nat.le_add_right _ _)
  · exact Nat.le_add_right _ _
  · exact Nat.le_add_right _ _

theorem State.outstanding_condTold (s : State) :
    s.condTripHalt.outstanding ≤ s.outstanding ∧ s.condTripClear.outstanding ≤ s.outstanding := by
  constructor
  · refine (State.outstanding_congr ?_ ?_).le <;> unfold State.condTripHalt <;> split <;> simp
  · unfold State.condTripClear
    (repeat' split)
    · exact s.outstanding_returnToPark
    all_goals exact Nat.le_refl _

/-- What a taking brings about is less than what was taken (log 2). -/
theorem State.outstanding_take (e : Event) (s : State) : (s.take e).outstanding < s.outstanding + e.weight := by
  have same : ∀ {t : State}, t.events = s.events → t.hub.waitList = s.hub.waitList → t.outstanding < s.outstanding + 1 :=
    fun he hh => Nat.lt_succ_of_le (State.outstanding_congr he hh).le
  cases e with
  | hubEntry m => exact Nat.lt_succ_of_le (s.outstanding_hubEntry m)
  | hubExit m => exact Nat.lt_succ_of_le (s.outstanding_hubExit m)
  | condMapUpdated u => exact Nat.lt_succ_of_le (s.outstanding_condMapUpdated u)
  | dryCountUpdate u =>
    exact Nat.lt_succ_of_le ((State.outstanding_dryUpdate .b u _).trans
      (Nat.add_le_add_right (s.outstanding_dryUpdate .a u) 3))
  | indexProfileApply =>
    have applied : ∀ l (u : State), (u.applyAtIndex l).outstanding = u.outstanding := fun l u => by
      refine State.outstanding_congr ?_ ?_ <;> unfold State.applyAtIndex <;> split <;> simp
    exact Nat.lt_succ_of_le ((applied .b _).trans (applied .a s)).le
  | hardHoldWithdraw l => exact Nat.lt_succ_of_le (s.outstanding_withdrawClaim l.arm)
  | condTripHalt => exact Nat.lt_succ_of_le s.outstanding_condTold.1
  | condTripClear => exact Nat.lt_succ_of_le s.outstanding_condTold.2
  | condGrant => exact Nat.lt_succ_of_le s.outstanding_condGrant
  | condGrantLost => exact Nat.lt_succ_of_le s.outstanding_condGrantLost
  | gainRecompute | hardHoldVent | softHoldCap | hardHoldBarEmpty | tripBarEmpty | mapReplaced | slurryStop =>
    exact same (by simp [State.take, State.emptyQueue]) (by simp [State.take, State.emptyQueue])

/-- The taking of the oldest event lowers the bound. -/
theorem State.outstanding_take_oldest {s : State} {e : Event} {rest : List Event} (h : s.events = e :: rest) :
    ((s.modEvents fun _ => rest).take e).outstanding < s.outstanding := by
  refine (State.outstanding_take e _).trans_eq ?_
  simp only [State.outstanding, State.modEvents, h, List.map_cons, List.sum_cons]
  omega

/-! ### All takings -/

/-- Within a bound on what is still to be taken, all of it is taken. -/
theorem State.drainWithin_events {n : Nat} {s : State} (h : s.outstanding ≤ n) : (State.drainWithin n s).events = [] := by
  induction n generalizing s with
  | zero =>
    cases he : s.events with
    | nil => rw [State.drainWithin, he]
    | cons e rest =>
      have := State.outstanding_take_oldest he
      omega
  | succ n ih =>
    cases he : s.events with
    | nil => simp [State.drainWithin, he]
    | cons e rest =>
      have := State.outstanding_take_oldest he
      simp only [State.drainWithin, he]
      exact ih (by omega)

/-- A longer drain takes no more. -/
theorem State.drainWithin_eq_drain {n : Nat} {s : State} (h : s.outstanding ≤ n) : State.drainWithin n s = s.drain := by
  have more : ∀ k m (u : State), u.outstanding ≤ k → u.outstanding ≤ m → State.drainWithin k u = State.drainWithin m u := by
    intro k
    induction k with
    | zero =>
      intro m u hk _
      cases m with
      | zero => rfl
      | succ m =>
        cases he : u.events with
        | nil => simp [State.drainWithin, he]
        | cons e rest =>
          have := State.outstanding_take_oldest he
          omega
    | succ k ih =>
      intro m u hk hm
      cases he : u.events with
      | nil => cases m <;> simp [State.drainWithin, he]
      | cons e rest =>
        have := State.outstanding_take_oldest he
        cases m with
        | zero => omega
        | succ m =>
          simp only [State.drainWithin, he]
          exact ih m _ (by omega) (by omega)
  exact more _ _ s h (Nat.le_refl _)

@[simp] theorem State.drain_events (s : State) : s.drain.events = [] := State.drainWithin_events (Nat.le_refl _)

@[simp] theorem State.settled_events (s : State) : s.settled.events = [] := State.drain_events _

/-- Taking everything begins with the oldest event. -/
theorem State.drain_cons {s : State} {e : Event} {rest : List Event} (h : s.events = e :: rest) :
    s.drain = ((s.modEvents fun _ => rest).take e).drain := by
  have lower := State.outstanding_take_oldest h
  obtain ⟨n, hn⟩ : ∃ n, s.outstanding = n + 1 := ⟨s.outstanding - 1, by omega⟩
  rw [State.drain, hn, State.drainWithin, h]
  exact State.drainWithin_eq_drain (by omega)

/-- The settled state keeps the ground, and has nothing outstanding. -/
theorem State.settled_frame (s : State) : s.settled = { s.settled with
    map := s.map, tracker := s.tracker, settings := s.settings, resetAsserted := s.resetAsserted, pending := s.pending } := by
  obtain ⟨map, tracker, settings, reset, pending⟩ := s.sameGround_settled
  rw [← map, ← tracker, ← settings, ← reset, ← pending]

theorem State.settledBeforeMap_eq_aside (s : State) : s.settledBeforeMap =
    { State.settled { s with events := s.events.filter fun e => !e.isMapUpdated } with
      events := s.events.filter (·.isMapUpdated) } := by
  unfold State.settledBeforeMap State.modEvents
  simp only [State.settled_events, List.append_nil]

theorem Event.isMapUpdated_eq (e : Event) :
    (e.isCondMapUpdated || e.isGainRecompute || e.isDryCountUpdate) = e.isMapUpdated := by
  cases e <;> rfl

theorem changesRecords_iff (k : Kind) : changesRecords k = true ↔ k ∈ [Kind.padReset, .mapRestore] := by
  cases k <;> decide

/-- Settles O3: each taking lowers a bound, so that the drain, which takes as often as the bound says, takes all. -/
theorem outstandingIsTakenFirst : Obligations.OutstandingIsTakenFirst := by
  refine ⟨fun s => ⟨s.drain_events, s.settled_events, s.settled_frame⟩, fun s e rest h => ⟨_, exec_oldest h, State.drain_cons h⟩,
    fun s h => ⟨State.drain_nil h, fun ha => State.settled_calm ⟨h, ha⟩⟩, fun s => ⟨_, _, rfl, rfl, rfl⟩,
    fun p r s => exec_request p r s, fun p k s => ⟨fun hk => ?_, fun hk => ?_⟩, fun s => ⟨rfl, fun l => by cases l <;> rfl⟩⟩
  · exact State.heardFor_eq (by rw [← Bool.not_eq_true, changesRecords_iff]; exact hk)
  · simp only [Event.isMapUpdated_eq]
    rw [State.heardFor, State.settledFor, Option.any_some, (changesRecords_iff k).2 hk, if_pos rfl,
      State.settledBeforeMap_eq_aside, State.hearFrame_events]

end Sys2Proof.Machine

/-!
The moves of the hub: the few operations that change what the arbiter's laws speak of, and that each of them keeps the two
laws (R59, R63, R66 to R68).
-/

namespace Sys2Proof.Machine
open Sys2Proof

/-! ### What the laws of the hub speak of -/

/-- The crossings of an arm that have been raised and not yet taken, oldest first. -/
def State.crossings (s : State) (m : Arm) : List Event := s.events.filter (Event.crossingOf m)

/-- From `s` to `t` nothing changes that the laws of the hub speak of, but that the station may trip, and may leave TRIPPED
while no arm intrudes. -/
structure State.hubKept (s t : State) : Prop where
  hub : t.hub = s.hub
  arms : t.tracker.arms = s.tracker.arms
  footprint : t.reach = s.reach ∧ t.hubRadius = s.hubRadius
  crossings : t.crossings = s.crossings
  station : s.matrix.station = .tripped → s.hub.intrusion = true → t.matrix.station = .tripped

theorem State.hubKept.refl (s : State) : s.hubKept s := ⟨rfl, rfl, ⟨rfl, rfl⟩, rfl, fun h _ => h⟩

theorem State.hubKept.trans {s t u : State} (h : s.hubKept t) (k : t.hubKept u) : s.hubKept u :=
  ⟨k.hub.trans h.hub, k.arms.trans h.arms, ⟨k.footprint.1.trans h.footprint.1, k.footprint.2.trans h.footprint.2⟩,
    k.crossings.trans h.crossings, fun hs hi => k.station (h.station hs hi) (h.hub ▸ hi)⟩

/-- What leaves hub, arms, settings, events and station as they are keeps the hub. -/
theorem State.hubKept_of_frame {s t : State} (hub : t.hub = s.hub) (arms : t.tracker.arms = s.tracker.arms)
    (settings : t.settings = s.settings) (events : t.events = s.events) (matrix : t.matrix.station = s.matrix.station) :
    s.hubKept t := by
  refine ⟨hub, arms, ⟨?_, ?_⟩, ?_, fun h _ => matrix ▸ h⟩
  · funext m; cases m <;> simp [State.reach, settings]
  · simp [State.hubRadius, settings]
  · funext m; simp [State.crossings, events]

/-- What leaves the ground, the hub, the events and the station as they are keeps the hub. -/
theorem State.sameGround.hubKept {s t : State} (h : s.sameGround t) (hub : t.hub = s.hub) (events : t.events = s.events)
    (matrix : t.matrix.station = s.matrix.station) : s.hubKept t :=
  State.hubKept_of_frame hub (congrArg Tracker.arms h.tracker) h.settings events matrix

/-- The hub once its holder's grant has ended (R63). -/
def Hub.handedOff (h : Hub) : Hub :=
  match h.waitList with
  | [] => { h with holder := none }
  | m :: rest => { holder := some m, waitList := rest, intruders := h.intruders.set m false }

theorem State.tellGrant_kept (m : Arm) (s : State) : s.hubKept (s.tellGrant m) := by
  have told : (s.raise .condGrant).crossings = s.crossings := by
    funext m
    simp [State.crossings, Event.crossingOf]
  unfold State.tellGrant
  split
  · exact State.hubKept_of_frame rfl rfl rfl rfl rfl
  · exact ⟨rfl, rfl, ⟨rfl, rfl⟩, told, fun h _ => h⟩

/-- The end of a grant hands the hub off, and the wait list's oldest is told. -/
theorem State.endGrant_eq (s : State) :
    ({ s with hub := s.hub.handedOff } : State).hubKept s.endGrant := by
  cases hw : s.hub.waitList with
  | nil =>
    simp only [State.endGrant, Hub.handedOff, hw]
    exact State.hubKept_of_frame (by simp [State.modHub, hw]) rfl rfl rfl rfl
  | cons m rest =>
    simp only [State.endGrant, Hub.handedOff, hw]
    exact State.tellGrant_kept m _

/-! ### The moves -/

/-- The moves that change what the laws of the hub speak of. -/
inductive HubMove : State → State → Prop
  | kept {s t : State} : s.hubKept t → HubMove s t
  | claim (m : Arm) (s : State) : HubMove s (s.claimHub m).2
  | withdraw (m : Arm) (s : State) : HubMove s (s.withdrawClaim m)
  | endGrant (s : State) : (∀ m, s.hub.holder = some m → (s.arm m).inside = false) → HubMove s s.endGrant
  | armMoved (m : Arm) (f : ArmTrack → ArmTrack) (s : State) : (∀ a, (f a).inside = a.inside) →
      HubMove s ((s.modArm m f).evaluateInside m)
  | resized (f : Settings → Settings) (s : State) : HubMove s (s.modSettings f).evaluateAllInside
  | entered (m : Arm) (rest : List Event) (s t : State) : s.crossings m = .hubEntry m :: rest → t.crossings m = rest →
      (∀ j, j ≠ m → t.crossings j = s.crossings j) → { s with events := t.events } = t → HubMove s (t.hubEntry m)
  | exited (m : Arm) (rest : List Event) (s t : State) : s.crossings m = .hubExit m :: rest → t.crossings m = rest →
      (∀ j, j ≠ m → t.crossings j = s.crossings j) → { s with events := t.events } = t → HubMove s (t.hubExit m)
  | restart (s : State) : s.armsInside.length < 2 → HubMove s s.rederiveHub
  | reset (s : State) : HubMove s s.hardReset

/-! ### Trips and causes -/

theorem State.crossings_raise {e : Event} (he : ∀ m, e.crossingOf m = false) (s : State) :
    (s.raise e).crossings = s.crossings := by
  funext m
  simp [State.crossings, he]

theorem State.hubKept_raise {e : Event} (he : ∀ m, e.crossingOf m = false) (s : State) : s.hubKept (s.raise e) :=
  ⟨rfl, rfl, ⟨rfl, rfl⟩, State.crossings_raise he s, fun h _ => h⟩

theorem State.hubKept_file (p : Port) (n : Notice) (s : State) : s.hubKept (s.file p n) :=
  ⟨rfl, rfl, ⟨rfl, rfl⟩, rfl, fun h _ => h⟩

theorem State.hubKept_addCause (l : Lane) (e : CauseEntry) (s : State) : s.hubKept (s.addCause l e) := by
  have told : ∀ level (u : State), u.hubKept (u.tellLevel l level) := fun level u => by
    cases level
    · exact u.hubKept_raise fun _ => rfl
    · exact u.hubKept_raise fun _ => rfl
    · exact ((u.hubKept_raise fun _ => rfl).trans (State.hubKept_raise (fun _ => rfl) _)).trans
        (State.hubKept_raise (fun _ => rfl) _)
  have set : ∀ c, s.hubKept (s.setCauses l c) := fun c => ⟨rfl, rfl, ⟨rfl, rfl⟩, rfl, fun h _ => h⟩
  have filed : ∀ u : State, u.hubKept (u.fileHold l) := fun u => (u.hubKept_file _ _).trans (State.hubKept_file _ _ _)
  unfold State.addCause State.addCauseWith
  simp only
  split
  · exact set _
  · exact ((set _).trans (filed _)).trans (told _ _)

theorem State.hubKept_onRise (b a : Bool) {f : State → State} {s : State} (h : s.hubKept (f s)) :
    s.hubKept (s.onRise b a f) := by
  unfold State.onRise
  split
  · exact h
  · exact .refl s

theorem State.hubKept_addCauseBoth (e : CauseEntry) (s : State) : s.hubKept (s.addCauseBoth e) :=
  (s.hubKept_addCause .a e).trans (State.hubKept_addCause .b e _)

theorem State.hubKept_tripCause (c : TripCause) (s : State) : s.hubKept (s.tripCause c) := by
  have tripped : s.hubKept (s.modMatrix fun m =>
      { m with tripCauses := insertTrip c m.tripCauses, station := .tripped }) :=
    ⟨rfl, rfl, ⟨rfl, rfl⟩, rfl, fun _ _ => rfl⟩
  have filed : ∀ u : State, u.hubKept (u.fileAll .tripEntered) := fun u => ⟨rfl, rfl, ⟨rfl, rfl⟩, rfl, fun h _ => h⟩
  unfold State.tripCause
  simp only
  split
  · exact tripped
  · exact (((tripped.trans (filed _)).trans (State.hubKept_addCauseBoth _ _)).trans
      (State.hubKept_raise (fun _ => rfl) _)).trans (State.hubKept_raise (fun _ => rfl) _)

theorem State.tripCause_station (c : TripCause) (s : State) : (s.tripCause c).matrix.station = .tripped :=
  (s.tripCause_tripsTo c).1

/-- The arbiter's taking of an entry by an arm that is not the holder: an intruder in a TRIPPED station (R66, R68). -/
theorem State.hubEntry_intruder {m : Arm} {s : State} (h : s.hub.holder ≠ some m) :
    ({ s with hub := { s.hub with intruders := s.hub.intruders.set m true } } : State).hubKept (s.hubEntry m) ∧
      (s.hub.intrusion = false → (s.hubEntry m).matrix.station = .tripped) := by
  rw [State.hubEntry, if_neg h]
  cases hi : s.hub.intrusion with
  | false => exact ⟨State.hubKept_tripCause _ _, fun _ => State.tripCause_station _ _⟩
  | true => exact ⟨.refl _, fun h => by cases h⟩

/-! ### The arbiter's limits -/

theorem Hub.lawful_queue {h : Hub} {m : Arm} (hl : h.lawful) (hm : h.holder ≠ some m) (hn : h.holder ≠ none)
    (hw : m ∉ h.waitList) : ({ h with waitList := h.waitList ++ [m] } : Hub).lawful := by
  obtain ⟨-, nodup, holder, -⟩ := hl
  obtain ⟨k, hk⟩ := Option.ne_none_iff_exists'.1 hn
  have kw := (holder k hk).1
  have fresh : (h.waitList ++ [m]).Nodup := by
    rw [List.nodup_append]
    refine ⟨nodup, by simp, ?_⟩
    rintro x hx y hy rfl
    exact hw (List.mem_singleton.1 hy ▸ hx)
  have out : k ∉ h.waitList ++ [m] := by
    rw [List.mem_append, List.mem_singleton]
    rintro (hx | rfl)
    · exact kw hx
    · exact hm hk
  have short : (k :: (h.waitList ++ [m])).length ≤ 3 := by
    have all : k :: (h.waitList ++ [m]) ⊆ [Arm.a, .b, .cond] := fun x _ => by cases x <;> simp
    exact (List.Nodup.subperm (List.nodup_cons.2 ⟨out, fresh⟩) all).length_le
  refine ⟨Nat.le_of_succ_le_succ short, fresh, fun j hj => ?_, fun h0 => absurd h0 hn⟩
  obtain rfl : k = j := Option.some.inj (hk.symm.trans hj)
  exact ⟨out, (holder k hk).2⟩

theorem Hub.lawful_grant {h : Hub} {m : Arm} (hl : h.lawful) (hn : h.holder = none) :
    ({ h with holder := some m, intruders := h.intruders.set m false } : Hub).lawful := by
  have empty := hl.2.2.2 hn
  refine ⟨by simp [empty], by simp [empty], ?_, fun h0 => by cases h0⟩
  rintro j ⟨⟩
  exact ⟨by simp [empty], Arms.get_set_self _ _ _⟩

theorem Hub.lawful_withdraw {h : Hub} (m : Arm) (hl : h.lawful) :
    ({ h with waitList := h.waitList.filter fun x => decide (x ≠ m) } : Hub).lawful := by
  obtain ⟨short, nodup, holder, free⟩ := hl
  refine ⟨(List.length_filter_le _ _).trans short, nodup.filter _, fun j hj => ?_, fun h0 => by simp [free h0]⟩
  exact ⟨fun hx => (holder j hj).1 (List.mem_filter.1 hx).1, (holder j hj).2⟩

theorem Hub.lawful_handedOff {h : Hub} (hl : h.lawful) : h.handedOff.lawful := by
  obtain ⟨short, nodup, holder, free⟩ := hl
  unfold Hub.handedOff
  split
  · next hw => exact ⟨by simp [hw], by simp [hw], fun _ hj => (by cases hj), fun _ => hw⟩
  · next m rest hw =>
    rw [hw] at short nodup
    obtain ⟨hm, hrest⟩ := List.nodup_cons.1 nodup
    refine ⟨(Nat.le_succ _).trans short, hrest, ?_, fun h0 => by cases h0⟩
    rintro j ⟨⟩
    exact ⟨hm, Arms.get_set_self _ _ _⟩

theorem Hub.lawful_intruder {h : Hub} {m : Arm} {b : Bool} (hl : h.lawful) (hm : b = true → h.holder ≠ some m) :
    ({ h with intruders := h.intruders.set m b } : Hub).lawful := by
  obtain ⟨short, nodup, holder, free⟩ := hl
  refine ⟨short, nodup, fun j hj => ⟨(holder j hj).1, ?_⟩, free⟩
  show (h.intruders.set m b).get j = false
  rw [Arms.get_set]
  split
  · next hjm =>
    cases b with
    | false => rfl
    | true => exact absurd (hjm ▸ hj) (hm rfl)
  · exact (holder j hj).2

theorem HubMove.keeps_lawful {s t : State} (h : HubMove s t) (hs : s.hub.lawful) : t.hub.lawful := by
  have sameHub : ∀ {u v : State}, { u with events := v.events } = v → u.hub.lawful → v.hub.lawful := fun hv hu => by
    rw [← hv]; exact hu
  cases h with
  | kept hk => exact hk.hub ▸ hs
  | claim m =>
    unfold State.claimHub
    (repeat' split)
    · exact hs
    · exact hs
    · exact hs
    · exact hs
    · next hn => exact Hub.lawful_grant hs (Option.isNone_iff_eq_none.1 hn)
    · next hm hw _ hn => exact Hub.lawful_queue hs hm (fun h0 => hn (by simp [h0])) hw
  | withdraw m => exact Hub.lawful_withdraw m hs
  | endGrant => rw [s.endGrant_eq.hub]; exact Hub.lawful_handedOff hs
  | armMoved => rw [State.evaluateInside_hub]; exact hs
  | resized => rw [State.evaluateAllInside_hub]; exact hs
  | entered m _ _ v _ _ _ hv =>
    replace hs := sameHub hv hs
    by_cases hm : v.hub.holder = some m
    · rwa [State.hubEntry, if_pos hm]
    · rw [(State.hubEntry_intruder hm).1.hub]
      exact Hub.lawful_intruder hs fun _ => hm
  | exited m _ _ v _ _ _ hv =>
    replace hs := sameHub hv hs
    unfold State.hubExit
    (repeat' split)
    · rw [v.endGrant_eq.hub]; exact Hub.lawful_handedOff hs
    · exact hs
    · exact Hub.lawful_intruder hs fun h => by cases h
  | restart =>
    refine ⟨Nat.zero_le _, List.nodup_nil, fun m _ => ⟨List.not_mem_nil, ?_⟩, fun _ => rfl⟩
    exact Arms.get_all _ _
  | reset => exact ⟨Nat.zero_le _, List.nodup_nil, fun _ h => (by cases h), fun _ => rfl⟩

/-! ### The guarded hub -/

/-- What `State.hubGuarded` says of one arm but for its position: of its inside flag, its hold or intrusion, and its crossings on
their way. -/
structure State.armGuarded (s : State) (m : Arm) : Prop where
  inside : (s.arm m).inside = true →
    s.hub.holder = some m ∨ s.hub.intruders.get m = true ∨ .hubEntry m ∈ s.crossings m
  entry : (s.crossings m).getLast? = some (.hubEntry m) → (s.arm m).inside = true
  exit : (s.crossings m).getLast? = some (.hubExit m) → (s.arm m).inside = false
  tripped : s.hub.intruders.get m = true → s.matrix.station = .tripped

theorem State.mem_crossings {s : State} {m : Arm} : .hubEntry m ∈ s.crossings m ↔ .hubEntry m ∈ s.events := by
  simp [State.crossings, Event.crossingOf]

theorem State.hubGuarded_iff (s : State) : s.hubGuarded ↔ s.insideTrue ∧ ∀ m, s.armGuarded m := by
  refine and_congr_right fun _ => forall_congr' fun m => ⟨fun ⟨h1, h2, h3, h4⟩ => ⟨?_, h2, h3, h4⟩, fun h =>
    ⟨?_, h.entry, h.exit, h.tripped⟩⟩
  · simpa only [State.mem_crossings] using h1
  · simpa only [State.mem_crossings] using h.inside

theorem Hub.intrusion_of {h : Hub} {m : Arm} (hm : h.intruders.get m = true) : h.intrusion = true := by
  unfold Hub.intrusion
  cases m <;> simp_all [Arms.get]

theorem Hub.exists_intruder {h : Hub} (hi : h.intrusion = true) : ∃ m, h.intruders.get m = true := by
  rw [Hub.intrusion, Bool.or_eq_true, Bool.or_eq_true] at hi
  rcases hi with (h | h) | h
  · exact ⟨.a, h⟩
  · exact ⟨.b, h⟩
  · exact ⟨.cond, h⟩

theorem State.hubKept.armGuarded {s t : State} (h : s.hubKept t) {m : Arm} (hs : s.armGuarded m) : t.armGuarded m := by
  obtain ⟨inside, entry, exit, tripped⟩ := hs
  have arm : t.arm m = s.arm m := by rw [State.arm, State.arm, h.arms]
  refine ⟨?_, ?_, ?_, fun hi => ?_⟩
  · rw [arm, h.hub, h.crossings]; exact inside
  · rw [arm, h.crossings]; exact entry
  · rw [arm, h.crossings]; exact exit
  · rw [h.hub] at hi
    exact h.station (tripped hi) (Hub.intrusion_of hi)

theorem State.hubKept.insideTrue {s t : State} (h : s.hubKept t) (hs : s.insideTrue) : t.insideTrue := fun m => by
  have arm : t.arm m = s.arm m := by rw [State.arm, State.arm, h.arms]
  rw [State.footprintInside, arm, h.footprint.1, h.footprint.2]
  exact hs m

/-- A crossing on its way, of which the last is no exit, leaves an entry on its way. -/
theorem State.entry_on_its_way {s : State} {m : Arm} {e : Event} {rest : List Event} (hs : s.armGuarded m)
    (hc : s.crossings m = e :: rest) (hin : (s.arm m).inside = true) : .hubEntry m ∈ s.crossings m := by
  have some := List.getLast?_eq_some_getLast (l := s.crossings m) (by simp [hc])
  have mem := List.mem_of_getLast? some
  have crossing := (List.mem_filter.1 mem).2
  generalize (s.crossings m).getLast _ = x at some mem crossing
  cases x <;> simp [Event.crossingOf] at crossing
  · exact crossing ▸ mem
  · have out := hs.exit (crossing ▸ some)
    rw [hin] at out
    cases out

theorem State.crossings_evaluateInside (k m : Arm) (s : State) : (s.evaluateInside k).crossings m =
    s.crossings m ++ if m = k ∧ s.footprintInside k ≠ (s.arm k).inside then
      [if s.footprintInside k then .hubEntry k else .hubExit k] else [] := by
  have other : ∀ (b : Bool), Event.crossingOf m (if b then .hubEntry k else .hubExit k) = decide (k = m) := fun b => by
    cases b <;> rfl
  unfold State.evaluateInside
  simp only
  split
  · next h => simp [h, State.crossings]
  · next h =>
    simp only [State.crossings, State.raise_events, List.filter_append, State.modArm_events, h, ne_eq, not_false_eq_true,
      and_true]
    congr 1
    simp only [List.filter_cons, other, List.filter_nil, decide_eq_true_eq, eq_comm (a := k)]

theorem State.evaluateInside_arm (k m : Arm) (s : State) : (s.evaluateInside k).arm m =
    if m = k then { s.arm k with inside := s.footprintInside k } else s.arm m := by
  unfold State.evaluateInside
  simp only
  split
  · exact State.modArm_arm _ _ _ _
  · exact State.modArm_arm _ _ (fun a => { a with inside := s.footprintInside k }) s

/-- The evaluation of an arm keeps what is guarded: a change raises the crossing that says it (R37). -/
theorem State.armGuarded_evaluateInside (k : Arm) {m : Arm} {s : State} (hs : s.armGuarded m) :
    (s.evaluateInside k).armGuarded m := by
  obtain ⟨inside, entry, exit, tripped⟩ := hs
  have arm := s.evaluateInside_arm k m
  have crossings := s.crossings_evaluateInside k m
  by_cases hm : m = k
  · subst hm
    rw [if_pos rfl] at arm
    by_cases hc : s.footprintInside m = (s.arm m).inside
    · have same : (s.evaluateInside m).arm m = s.arm m := by rw [arm, hc]
      rw [if_neg (by simp [hc]), List.append_nil] at crossings
      refine ⟨?_, ?_, ?_, by simpa using tripped⟩
      · rw [same, crossings, State.evaluateInside_hub]; exact inside
      · rw [same, crossings]; exact entry
      · rw [same, crossings]; exact exit
    · rw [if_pos ⟨rfl, hc⟩] at crossings
      refine ⟨?_, ?_, ?_, by simpa using tripped⟩ <;> rw [arm, crossings] <;> cases s.footprintInside m <;> simp
  · rw [if_neg hm] at arm
    rw [if_neg (by simp [hm]), List.append_nil] at crossings
    refine ⟨?_, ?_, ?_, by simpa using tripped⟩
    · rw [arm, crossings, State.evaluateInside_hub]; exact inside
    · rw [arm, crossings]; exact entry
    · rw [arm, crossings]; exact exit


/-- An arm inside whose oldest crossing on its way is no entry has an entry behind it. -/
theorem State.entry_behind {s : State} {m : Arm} {e : Event} {rest : List Event} (hs : s.armGuarded m)
    (hc : s.crossings m = e :: rest) (he : e ≠ .hubEntry m) (hin : (s.arm m).inside = true) : .hubEntry m ∈ rest := by
  have mem := State.entry_on_its_way hs hc hin
  rw [hc] at mem
  exact (List.mem_cons.1 mem).resolve_left fun h => he h.symm

/-- The oldest crossing taken leaves its arm guarded, when it is no entry or the arm holds the hub or is an intruder. -/
theorem State.armGuarded_taken {s t : State} {m : Arm} {e : Event} {rest : List Event} (hs : s.armGuarded m)
    (hc : s.crossings m = e :: rest) (he : e ≠ .hubEntry m ∨ t.hub.holder = some m ∨ t.hub.intruders.get m = true)
    (arm : t.arm m = s.arm m) (hr : t.crossings m = rest)
    (tripped : t.hub.intruders.get m = true → t.matrix.station = .tripped) : t.armGuarded m := by
  have last : ∀ x, rest.getLast? = some x → (s.crossings m).getLast? = some x := fun x hx => by
    rw [hc, List.getLast?_cons, hx]; rfl
  refine ⟨fun hin => ?_, fun hx => ?_, fun hx => ?_, tripped⟩
  · rcases he with he | he
    · exact .inr (.inr (hr ▸ State.entry_behind hs hc he (arm ▸ hin)))
    · exact he.imp_right .inl
  · rw [arm]; exact hs.entry (last _ (hr ▸ hx))
  · rw [arm]; exact hs.exit (last _ (hr ▸ hx))

theorem State.armGuarded_congr {s t : State} {m : Arm} (hs : s.armGuarded m) (arm : t.arm m = s.arm m)
    (holder : t.hub.holder = s.hub.holder) (flag : t.hub.intruders.get m = s.hub.intruders.get m)
    (crossings : t.crossings m = s.crossings m)
    (tripped : t.hub.intruders.get m = true → t.matrix.station = .tripped) : t.armGuarded m := by
  refine ⟨?_, ?_, ?_, tripped⟩
  · rw [arm, holder, flag, crossings]; exact hs.inside
  · rw [arm, crossings]; exact hs.entry
  · rw [arm, crossings]; exact hs.exit

/-- The oldest crossing of an arm gone, with the hub as it was, every arm stays guarded, when that crossing was no entry or its
arm holds the hub. -/
theorem State.armGuarded_behind {s v : State} {k : Arm} {e : Event} {rest : List Event} (hs : ∀ m, s.armGuarded m)
    (hc : s.crossings k = e :: rest) (he : e ≠ .hubEntry k ∨ s.hub.holder = some k) (hr : v.crossings k = rest)
    (hother : ∀ j, j ≠ k → v.crossings j = s.crossings j) (hv : { s with events := v.events } = v) (m : Arm) :
    v.armGuarded m := by
  have arm : v.arm m = s.arm m := by rw [← hv]; rfl
  have hub : v.hub = s.hub := by rw [← hv]
  have tripped : v.hub.intruders.get m = true → v.matrix.station = .tripped := by
    rw [← hv]
    exact (hs m).tripped
  by_cases hm : m = k
  · subst hm
    exact State.armGuarded_taken (hs m) hc (he.imp_right fun h => .inl (hub ▸ h)) arm hr tripped
  · exact State.armGuarded_congr (hs m) arm (by rw [hub]) (by rw [hub]) (hother m hm) tripped

/-- An arm that is neither the old holder nor the new one is guarded as before a hand-off, and the new holder by its grant. -/
theorem State.armGuarded_endGrant {s : State} {m : Arm}
    (hs : s.armGuarded m) (hm : s.hub.holder = some m → (s.arm m).inside = true → .hubEntry m ∈ s.crossings m) :
    s.endGrant.armGuarded m := by
  refine s.endGrant_eq.armGuarded ?_
  obtain ⟨inside, entry, exit, tripped⟩ := hs
  cases hw : s.hub.waitList with
  | nil =>
    simp only [Hub.handedOff, hw]
    refine ⟨fun hin => ?_, entry, exit, tripped⟩
    rcases inside hin with h | h | h
    · exact .inr (.inr (hm h hin))
    · exact .inr (.inl h)
    · exact .inr (.inr h)
  | cons n rest =>
    simp only [Hub.handedOff, hw]
    by_cases hn : m = n
    · subst hn
      exact ⟨fun _ => .inl rfl, entry, exit, fun h => by rw [Arms.get_set_self] at h; cases h⟩
    · have flag : (s.hub.intruders.set n false).get m = s.hub.intruders.get m := Arms.get_set_ne _ _ _ _ hn
      refine ⟨fun hin => ?_, entry, exit, fun h => tripped (flag ▸ h)⟩
      rcases inside hin with h | h | h
      · exact .inr (.inr (hm h hin))
      · exact .inr (.inl (flag.trans h))
      · exact .inr (.inr h)

/-- A restart makes the only arm inside the holder (R71). -/
theorem State.rederiveHub_holder {s : State} {m : Arm} (hi : s.insideTrue) (hlen : s.armsInside.length < 2)
    (hin : (s.arm m).inside = true) : s.rederiveHub.hub.holder = some m := by
  have referenced : (s.arm m).referenced = true := by
    have h := (hi m).symm.trans hin
    rw [State.footprintInside, Bool.and_eq_true] at h
    exact h.1
  have mem : m ∈ s.armsInside := List.mem_filter.2 ⟨by cases m <;> simp, by simp [State.armInside, referenced, hin]⟩
  obtain ⟨x, hx⟩ : ∃ x, s.armsInside = [x] :=
    List.length_eq_one_iff.1 (Nat.le_antisymm (Nat.le_of_lt_succ hlen) (List.length_pos_of_mem mem))
  rw [hx, List.mem_singleton] at mem
  show (match s.armsInside with | [m] => some m | _ => none) = some m
  rw [hx, mem]

theorem HubMove.keeps_insideTrue {s t : State} (h : HubMove s t) (hs : s.insideTrue) : t.insideTrue := by
  have evaluated : ∀ k (u : State) m, (u.evaluateInside k).footprintInside m = u.footprintInside m := fun k u m => by
    have reach : (u.evaluateInside k).reach m = u.reach m := by cases m <;> simp [State.reach]
    have radius : (u.evaluateInside k).hubRadius = u.hubRadius := by simp [State.hubRadius]
    rw [State.footprintInside, reach, radius, State.evaluateInside_arm]
    split
    · next h => rw [h]; rfl
    · rfl
  have same : ∀ {u v : State}, v.tracker = u.tracker → v.settings = u.settings → u.insideTrue → v.insideTrue :=
    fun {u v} ht hg hu m => by
      have footprint : v.footprintInside m = u.footprintInside m := by
        cases m <;> simp [State.footprintInside, State.arm, State.reach, State.hubRadius, ht, hg]
      rw [footprint, State.arm, ht]
      exact hu m
  have stayed : ∀ {u v : State}, { u with events := v.events } = v → u.insideTrue → v.insideTrue := fun hv hu => by
    rw [← hv]; exact hu
  cases h with
  | kept hk => exact hk.insideTrue hs
  | claim m => exact same (State.claimHub_tracker m s) (State.claimHub_settings m s) hs
  | withdraw => exact hs
  | endGrant => exact same (State.endGrant_tracker s) (State.endGrant_settings s) hs
  | armMoved k f _ hf =>
    intro m
    rw [evaluated, State.evaluateInside_arm]
    split
    · next h => rw [h]
    · next h =>
      have arm : (s.modArm k f).arm m = s.arm m := by rw [State.modArm_arm, if_neg h]
      have footprint : (s.modArm k f).footprintInside m = s.footprintInside m := by
        rw [State.footprintInside, arm]
        cases m <;> rfl
      rw [arm, footprint]
      exact hs m
  | resized f =>
    intro m
    simp only [State.evaluateAllInside, evaluated, State.evaluateInside_arm]
    cases m <;> simp
  | entered m _ _ v _ _ _ hv =>
    exact same (State.sameGround_hubEntry m v).tracker (State.sameGround_hubEntry m v).settings (stayed hv hs)
  | exited m _ _ v _ _ _ hv =>
    exact same (State.sameGround_hubExit m v).tracker (State.sameGround_hubExit m v).settings (stayed hv hs)
  | restart => exact hs
  | reset => intro m; cases m <;> rfl

theorem HubMove.keeps_armGuarded {s t : State} (h : HubMove s t) (hi : s.insideTrue) (hs : ∀ m, s.armGuarded m) (m : Arm) :
    t.armGuarded m := by
  cases h with
  | kept hk => exact hk.armGuarded (hs m)
  | claim k =>
    obtain ⟨inside, entry, exit, tripped⟩ := hs m
    unfold State.claimHub
    (repeat' split)
    · exact hs m
    · exact hs m
    · exact hs m
    · exact hs m
    · next hn =>
      have free := Option.isNone_iff_eq_none.1 hn
      by_cases hm : m = k
      · subst hm
        refine ⟨fun _ => .inl rfl, entry, exit, fun h => ?_⟩
        have : (s.hub.intruders.set m false).get m = true := h
        rw [Arms.get_set_self] at this
        cases this
      · have flag : (s.hub.intruders.set k false).get m = s.hub.intruders.get m := Arms.get_set_ne _ _ _ _ hm
        refine ⟨fun hin => ?_, entry, exit, fun h => tripped (flag ▸ h)⟩
        rcases inside hin with h | h | h
        · rw [free] at h; cases h
        · exact .inr (.inl (flag.trans h))
        · exact .inr (.inr h)
    · exact ⟨inside, entry, exit, tripped⟩
  | withdraw => exact ⟨(hs m).inside, (hs m).entry, (hs m).exit, (hs m).tripped⟩
  | endGrant _ hout =>
    refine State.armGuarded_endGrant (hs m) fun hm hin => ?_
    rw [hout m hm] at hin
    cases hin
  | armMoved k f _ hf =>
    refine State.armGuarded_evaluateInside k ?_
    have arm : ((s.modArm k f).arm m).inside = (s.arm m).inside := by
      rw [State.modArm_arm]
      split
      · next h => rw [hf, h]
      · rfl
    obtain ⟨inside, entry, exit, tripped⟩ := hs m
    exact ⟨arm ▸ inside, arm ▸ entry, arm ▸ exit, tripped⟩
  | resized f =>
    have put : (s.modSettings f).armGuarded m := ⟨(hs m).inside, (hs m).entry, (hs m).exit, (hs m).tripped⟩
    exact State.armGuarded_evaluateInside _ (State.armGuarded_evaluateInside _ (State.armGuarded_evaluateInside _ put))
  | entered k rest _ v hc hr hother hv =>
    have hub : v.hub = s.hub := by rw [← hv]
    have station : v.matrix = s.matrix := by rw [← hv]
    have arm : (v.hubEntry k).arm m = s.arm m := by
      rw [State.arm, State.arm, (State.sameGround_hubEntry k v).tracker, ← hv]
    by_cases hk : v.hub.holder = some k
    · rw [State.hubEntry, if_pos hk] at arm ⊢
      exact State.armGuarded_behind hs hc (.inr (hub ▸ hk)) hr hother hv m
    · obtain ⟨moved, trip⟩ := State.hubEntry_intruder hk
      have tripped : (v.hubEntry k).matrix.station = .tripped := by
        cases hi' : v.hub.intrusion with
        | false => exact trip hi'
        | true =>
          obtain ⟨j, hj⟩ := Hub.exists_intruder (hub ▸ hi')
          exact moved.station (station ▸ (hs j).tripped hj) (Hub.intrusion_of (m := k) (Arms.get_set_self _ _ _))
      have crossings : ∀ j, (v.hubEntry k).crossings j = v.crossings j := fun j => congrFun moved.crossings j
      by_cases hm : m = k
      · subst hm
        refine State.armGuarded_taken (hs m) hc (.inr (.inr ?_)) arm ((crossings m).trans hr) fun _ => tripped
        rw [moved.hub]
        exact Arms.get_set_self _ _ _
      · refine State.armGuarded_congr (hs m) arm ?_ ?_ ((crossings m).trans (hother m hm)) fun _ => tripped
        · rw [moved.hub, ← hub]
        · rw [moved.hub, ← hub]
          exact Arms.get_set_ne _ _ _ _ hm
  | exited k rest _ v hc hr hother hv =>
    have taken := fun j => State.armGuarded_behind hs hc (.inl (by simp)) hr hother hv j
    have behind : (v.arm k).inside = true → .hubEntry k ∈ v.crossings k := fun hin => by
      rw [hr]
      rw [← hv] at hin
      exact State.entry_behind (hs k) hc (by simp) hin
    unfold State.hubExit
    (repeat' split)
    · next hk _ =>
      refine State.armGuarded_endGrant (taken m) fun hm hin => ?_
      obtain rfl := Option.some.inj (hk.symm.trans hm)
      exact behind hin
    · exact taken m
    · by_cases hm : m = k
      · subst hm
        exact ⟨fun hin => .inr (.inr (behind hin)), (taken m).entry, (taken m).exit, fun h => by
          have : (v.hub.intruders.set m false).get m = true := h
          rw [Arms.get_set_self] at this
          cases this⟩
      · have flag : (v.hub.intruders.set k false).get m = v.hub.intruders.get m := Arms.get_set_ne _ _ _ _ hm
        exact State.armGuarded_congr (taken m) rfl rfl flag rfl fun h => (taken m).tripped (flag ▸ h)
  | restart _ hlen =>
    refine ⟨fun hin => .inl ?_, (hs m).entry, (hs m).exit, fun h => ?_⟩
    · exact State.rederiveHub_holder hi hlen hin
    · have : (Arms.all false).get m = true := h
      rw [Arms.get_all] at this
      cases this
  | reset =>
    have out : ((Arms.all { count := 0, referenced := false, inside := false } : Arms ArmTrack).get m).inside = false := by
      rw [Arms.get_all]
    refine ⟨fun h => ?_, fun h => (by cases h), fun h => (by cases h), fun h => ?_⟩
    · exact absurd (out.symm.trans h) (by decide)
    · have : (Arms.all false).get m = true := h
      rw [Arms.get_all] at this
      cases this

/-- A move of the hub keeps it guarded. -/
theorem HubMove.keeps_guarded {s t : State} (h : HubMove s t) (hs : s.hubGuarded) : t.hubGuarded := by
  obtain ⟨inside, arms⟩ := s.hubGuarded_iff.1 hs
  exact t.hubGuarded_iff.2 ⟨h.keeps_insideTrue inside, h.keeps_armGuarded inside arms⟩

end Sys2Proof.Machine

/-!
Every step moves the hub by its moves alone, so that every step keeps the arbiter's limits and keeps the hub guarded (O52).
-/

namespace Sys2Proof.Machine
open Sys2Proof

/-- From `s` to `t` the hub moves by its moves alone. -/
def State.hubPath (s t : State) : Prop := Relation.ReflTransGen HubMove s t

theorem HubMove.path {s t : State} (h : HubMove s t) : s.hubPath t := .single h

theorem State.hubPath.refl (s : State) : s.hubPath s := Relation.ReflTransGen.refl

theorem State.hubPath.trans {s t u : State} (h : s.hubPath t) (k : t.hubPath u) : s.hubPath u :=
  Relation.ReflTransGen.trans h k

theorem State.hubKept.path {s t : State} (h : s.hubKept t) : s.hubPath t := (HubMove.kept h).path

/-- What every move of the hub keeps, a path of moves keeps. -/
theorem State.hubPath.keeps {P : State → Prop} (hmove : ∀ s t, HubMove s t → P s → P t) {s t : State} (h : s.hubPath t)
    (hs : P s) : P t := by
  induction h with
  | refl => exact hs
  | tail _ hm ih => exact hmove _ _ hm ih

/-! ### Updates of one block -/

theorem State.hubKept_modCond (f : Conditioner → Conditioner) (s : State) : s.hubKept (s.modCond f) :=
  ⟨rfl, rfl, ⟨rfl, rfl⟩, rfl, fun h _ => h⟩

theorem State.hubKept_modPress (f : Pressure → Pressure) (s : State) : s.hubKept (s.modPress f) :=
  ⟨rfl, rfl, ⟨rfl, rfl⟩, rfl, fun h _ => h⟩

theorem State.hubKept_modMap (f : PadMap → PadMap) (s : State) : s.hubKept (s.modMap f) :=
  ⟨rfl, rfl, ⟨rfl, rfl⟩, rfl, fun h _ => h⟩

theorem State.hubKept_modSlurry (f : Slurry → Slurry) (s : State) : s.hubKept (s.modSlurry f) :=
  ⟨rfl, rfl, ⟨rfl, rfl⟩, rfl, fun h _ => h⟩

theorem State.hubKept_modLinks (f : Links → Links) (s : State) : s.hubKept (s.modLinks f) :=
  ⟨rfl, rfl, ⟨rfl, rfl⟩, rfl, fun h _ => h⟩

theorem State.hubKept_modTracker {f : Tracker → Tracker} {s : State} (h : (f s.tracker).arms = s.tracker.arms) :
    s.hubKept (s.modTracker f) :=
  State.hubKept_of_frame rfl h rfl rfl rfl

theorem State.hubKept_modMatrix {f : Matrix → Matrix} {s : State} (h : (f s.matrix).station = s.matrix.station) :
    s.hubKept (s.modMatrix f) :=
  State.hubKept_of_frame rfl rfl rfl rfl h

theorem State.hubKept_modEvents {f : List Event → List Event} {s : State}
    (h : ∀ m, (f s.events).filter (Event.crossingOf m) = s.events.filter (Event.crossingOf m)) :
    s.hubKept (s.modEvents f) :=
  ⟨rfl, rfl, ⟨rfl, rfl⟩, funext h, fun h _ => h⟩

theorem State.hubKept_fileAll (n : Notice) (s : State) : s.hubKept (s.fileAll n) :=
  ⟨rfl, rfl, ⟨rfl, rfl⟩, rfl, fun h _ => h⟩

/-! ### The conditioner's dealing with the arbiter -/

theorem State.hubKept_dropGrant (s : State) : s.hubKept s.dropGrant := by
  refine State.hubKept_modEvents fun m => ?_
  rw [List.filter_filter]
  refine List.filter_congr fun e _ => ?_
  cases e <;> simp [Event.crossingOf]

theorem State.hubKept_tellLoss (m : Arm) (s : State) : s.hubKept (s.tellLoss m) := by
  unfold State.tellLoss
  split
  · exact s.hubKept_file _ _
  · exact s.hubKept_raise fun _ => rfl

theorem State.hubPath_releaseHub (m : Arm) (s : State) : s.hubPath (s.releaseHub m).2 := by
  unfold State.releaseHub
  (repeat' split)
  · exact .refl s
  · next hm hout =>
    refine (HubMove.endGrant s fun k hk => ?_).path
    obtain rfl := Option.some.inj (hm.symm.trans hk)
    simpa using hout
  · exact (HubMove.withdraw m s).path
  · exact .refl s

theorem State.hubPath_claimHub (m : Arm) (s : State) : s.hubPath (s.claimHub m).2 := (HubMove.claim m s).path

theorem State.hubPath_condGiveUp (s : State) : s.hubPath s.condGiveUp :=
  s.hubKept_dropGrant.path.trans (State.hubPath_releaseHub _ _)

theorem State.hubKept_startMove (st : CondState) (s : State) : s.hubKept (s.startMove st) :=
  State.hubKept_of_frame (by simp) (by simp) (by simp) (by simp) (by simp)

theorem State.hubKept_startStroke (d : SweepDir) (s : State) : s.hubKept (s.startStroke d) :=
  State.hubKept_of_frame (by simp) (by simp) (by simp) (by simp) (by simp)

theorem State.hubKept_beginWork (s : State) : s.hubKept s.beginWork :=
  State.hubKept_of_frame (by simp) (by simp) (by simp) (by simp) (by simp)

theorem State.hubKept_evaluateSpent (s : State) : s.hubKept s.evaluateSpent :=
  State.hubKept_of_frame (by simp) (by simp) (by simp) (by simp) (by simp)

theorem State.hubPath_dealFor (t : CondTarget) (s : State) : s.hubPath (s.dealFor t) := by
  have target : s.hubPath (s.setTarget (some t)) := (s.hubKept_modCond _).path
  have claim := (target.trans (State.hubKept_dropGrant _).path).trans (State.hubPath_claimHub .cond _)
  unfold State.dealFor
  simp only
  (repeat' split)
  · exact claim.trans (State.hubKept_beginWork _).path
  · exact claim.trans (State.hubKept_modCond _ _).path
  · exact (target.trans (State.hubPath_condGiveUp _)).trans (State.hubKept_beginWork _).path

theorem State.hubPath_returnToPark (s : State) : s.hubPath s.returnToPark :=
  ((s.hubKept_modCond _).path.trans (State.hubPath_condGiveUp (s.setTarget (some .park)))).trans
    (State.hubKept_startMove _ _).path

theorem State.hubPath_goIdle (s : State) : s.hubPath s.goIdle := by
  unfold State.goIdle
  split
  · exact .refl s
  · exact s.hubPath_returnToPark

theorem State.hubPath_select (s : State) : s.hubPath s.select := by
  unfold State.select
  (repeat' split)
  · exact s.hubPath_goIdle
  · exact s.hubPath_dealFor _
  · exact ((s.hubKept_modCond _).path.trans (State.hubPath_condGiveUp (s.setTarget none))).trans
      (State.hubKept_modCond _ _).path
  · exact s.hubPath_goIdle

theorem State.hubPath_sweepStart (s : State) : s.hubPath s.sweepStart := by
  unfold State.sweepStart
  split
  · exact s.hubPath_goIdle
  · exact s.hubPath_dealFor _

theorem State.hubPath_actOnMode (s : State) : s.hubPath s.actOnMode := by
  unfold State.actOnMode
  split
  · exact .refl s
  · exact s.hubPath_select
  · exact s.hubPath_sweepStart

theorem State.hubPath_enterParked (s : State) : s.hubPath s.enterParked := by
  have dropped : s.hubPath s.dropTarget := by
    unfold State.dropTarget
    split
    · exact (s.hubKept_modCond _).path.trans (State.hubPath_condGiveUp (s.setTarget none))
    · exact .refl s
  exact (dropped.trans (State.hubKept_modCond _ _).path).trans (State.hubPath_actOnMode _)

theorem State.hubPath_modeChanged (s : State) : s.hubPath s.modeChanged := by
  have acts : s.hubPath s.modeActs := by
    unfold State.modeActs
    split
    · exact s.hubPath_returnToPark
    · exact s.hubPath_select
    · exact s.hubPath_sweepStart
  unfold State.modeChanged
  (repeat' split)
  · exact (s.hubKept_modCond _).path
  · exact .refl s
  · exact s.hubPath_actOnMode
  all_goals first | exact acts | exact (s.hubKept_modCond _).path | exact .refl s

theorem State.hubPath_actIfParked (s : State) : s.hubPath s.actIfParked := by
  unfold State.actIfParked
  split
  · exact s.hubPath_actOnMode
  · exact .refl s

theorem State.hubPath_reclaim {go other : State → State} (s : State) (hgo : ∀ u, State.hubKept u (go u))
    (hother : ∀ u, State.hubKept u (other u)) : s.hubPath (s.reclaim go other) := by
  have claim := s.hubKept_dropGrant.path.trans (State.hubPath_claimHub .cond _)
  unfold State.reclaim
  simp only
  split
  · exact claim.trans (hgo _).path
  · exact claim.trans (hother _).path

theorem State.hubPath_condFault (k : FaultKind) (s : State) : s.hubPath (s.condFault k) :=
  ((s.hubKept_modCond _).path.trans (HubMove.withdraw .cond _).path).trans (State.hubKept_file _ _ _).path

theorem State.hubPath_followingCheck (s : State) : s.hubPath s.followingCheck := by
  unfold State.followingCheck
  split
  · exact s.hubPath_condFault _
  · exact .refl s

/-! ### Taking events -/

theorem State.hubPath_condMapUpdated (u : MapUpdated) (s : State) : s.hubPath (s.condMapUpdated u) := by
  have rebuilt : s.hubKept s.rebuild := by
    unfold State.rebuild
    split
    · exact .refl s
    · exact s.hubKept_modCond _
  have counted : ∀ v : State, v.hubKept (v.countDiskLife u.diskCut) := fun v => by
    unfold State.countDiskLife
    split
    · exact (v.hubKept_modCond _).trans (State.hubKept_evaluateSpent _)
    · exact .refl v
  have dwelt : ∀ v : State, v.hubKept v.dwellTest := fun v => by
    unfold State.dwellTest
    simp only
    (repeat' split)
    · exact v.hubKept_modCond _
    · exact ((v.hubKept_modCond _).trans (State.hubKept_modCond _ _)).trans (State.hubKept_modCond _ _)
    · exact v.hubKept_modCond _
    · exact v.hubKept_modCond _
  refine (rebuilt.trans (counted _)).path.trans ?_
  unfold State.condMapUpdated State.updatedWork
  (repeat' split)
  · exact (dwelt _).path
  all_goals first | exact State.hubPath_select _ | exact .refl _ | exact (State.hubKept_modCond _ _).path

theorem State.hubKept_dryUpdate (l : Lane) (u : MapUpdated) (s : State) : s.hubKept (s.dryUpdate l u) := by
  unfold State.dryUpdate
  exact (State.hubKept_modMatrix rfl).trans (State.hubKept_onRise _ _ (State.hubKept_addCause _ _ _))

theorem State.hubKept_applyAtIndex (l : Lane) (s : State) : s.hubKept (s.applyAtIndex l) :=
  (s.sameGround_applyAtIndex l).hubKept (by unfold State.applyAtIndex; split <;> simp)
    (by unfold State.applyAtIndex; split <;> simp) (by unfold State.applyAtIndex; split <;> simp)

theorem State.hubPath_condGrant (s : State) : s.hubPath s.condGrant := by
  unfold State.condGrant
  (repeat' split)
  all_goals first | exact s.hubPath_releaseHub _ | exact s.hubKept_beginWork.path | exact .refl s

theorem State.hubPath_condGrantLost (s : State) : s.hubPath s.condGrantLost := by
  unfold State.condGrantLost
  (repeat' split)
  · exact s.hubPath_reclaim .refl fun u => u.hubKept_modCond _
  · exact .refl s
  · exact s.hubPath_reclaim .refl fun u => u.hubKept_modCond _
  · exact .refl s
  · exact (s.hubKept_startStroke _).path
  · exact .refl s
  · exact .refl s

theorem State.hubKept_condTripHalt (s : State) : s.hubKept s.condTripHalt := by
  unfold State.condTripHalt
  split
  all_goals first
    | exact (s.hubKept_modCond _).trans (State.hubKept_modCond _ _)
    | exact s.hubKept_modCond _
    | exact .refl s

theorem State.hubPath_condTripClear (s : State) : s.hubPath s.condTripClear := by
  unfold State.condTripClear
  (repeat' split)
  all_goals first | exact s.hubPath_returnToPark | exact (s.hubKept_modCond _).path | exact .refl s

/-- A taking of an event other than a crossing moves the hub by its moves. -/
theorem State.hubPath_take {e : Event} (he : ∀ m, e.crossingOf m = false) (s : State) : s.hubPath (s.take e) := by
  cases e with
  | hubEntry m => simpa [Event.crossingOf] using he m
  | hubExit m => simpa [Event.crossingOf] using he m
  | condMapUpdated u => exact s.hubPath_condMapUpdated u
  | dryCountUpdate u => exact ((s.hubKept_dryUpdate .a u).trans (State.hubKept_dryUpdate .b u _)).path
  | indexProfileApply => exact ((s.hubKept_applyAtIndex .a).trans (State.hubKept_applyAtIndex .b _)).path
  | hardHoldWithdraw l => exact (HubMove.withdraw l.arm s).path
  | condTripHalt => exact s.hubKept_condTripHalt.path
  | condTripClear => exact s.hubPath_condTripClear
  | condGrant => exact s.hubPath_condGrant
  | condGrantLost => exact s.hubPath_condGrantLost
  | gainRecompute | hardHoldVent | softHoldCap | hardHoldBarEmpty | tripBarEmpty | mapReplaced | slurryStop =>
    exact (State.hubKept_of_frame (by simp [State.take, State.emptyQueue]) (by simp [State.take, State.emptyQueue])
      (by simp [State.take, State.emptyQueue]) (by simp [State.take, State.emptyQueue])
      (by simp [State.take, State.emptyQueue])).path

/-- An event that is taken in its channel's order: a crossing is its arm's oldest. -/
def State.inOrder (s : State) (e : Event) : Prop :=
  e ∈ s.events ∧ ∀ m, e.crossingOf m = true → s.events.find? (Event.crossingOf m) = some e

theorem filter_erase_event (p : Event → Bool) (e : Event) (l : List Event) :
    (l.erase e).filter p = (l.filter p).erase e := by
  induction l with
  | nil => rfl
  | cons x rest ih =>
    by_cases hx : x = e
    · subst hx
      cases hp : p x with
      | false =>
        rw [List.erase_cons_head, List.filter_cons_of_neg (by simp [hp]), List.erase_of_not_mem]
        exact fun h => by simp [hp] at h
      | true => rw [List.erase_cons_head, List.filter_cons_of_pos hp, List.erase_cons_head]
    · rw [List.erase_cons_tail (by simpa using hx)]
      cases hp : p x with
      | false => rw [List.filter_cons_of_neg (by simp [hp]), List.filter_cons_of_neg (by simp [hp]), ih]
      | true => rw [List.filter_cons_of_pos hp, List.filter_cons_of_pos hp, List.erase_cons_tail (by simpa using hx), ih]

theorem State.crossings_erase (e : Event) (m : Arm) (s : State) :
    (s.modEvents (·.erase e)).crossings m = (s.crossings m).erase e := filter_erase_event _ _ _

theorem State.crossings_erase_other {e : Event} {m : Arm} (he : e.crossingOf m = false) (s : State) :
    (s.modEvents (·.erase e)).crossings m = s.crossings m := by
  rw [State.crossings_erase, List.erase_of_not_mem]
  exact fun h => by simp [State.crossings, he] at h

/-- The oldest crossing of an arm leaves the later ones. -/
theorem State.inOrder.crossings {s : State} {e : Event} {m : Arm} (h : s.inOrder e) (he : e.crossingOf m = true) :
    s.crossings m = e :: (s.modEvents (·.erase e)).crossings m := by
  have head : (s.crossings m).head? = some e := by
    rw [State.crossings, List.head?_filter]
    exact h.2 m he
  obtain ⟨rest, hr⟩ := List.head?_eq_some_iff.1 head
  rw [State.crossings_erase, hr, List.erase_cons_head]

/-- An event taken in its order moves the hub by its moves. -/
theorem State.hubPath_taken {s : State} {e : Event} (h : s.inOrder e) : s.hubPath ((s.modEvents (·.erase e)).take e) := by
  have cases_on : (∃ m, e = .hubEntry m ∨ e = .hubExit m) ∨ ∀ m, e.crossingOf m = false := by
    cases e with
    | hubEntry m => exact .inl ⟨m, .inl rfl⟩
    | hubExit m => exact .inl ⟨m, .inr rfl⟩
    | _ => exact .inr fun _ => rfl
  have other : ∀ m j, j ≠ m → e.crossingOf m = true → e.crossingOf j = false := fun m j hj he => by
    cases e <;> simp [Event.crossingOf] at he ⊢
    · exact fun h => hj (h ▸ he)
    · exact fun h => hj (h ▸ he)
  rcases cases_on with ⟨m, rfl | rfl⟩ | he
  · have own : Event.crossingOf m (.hubEntry m) = true := by simp [Event.crossingOf]
    exact (HubMove.entered m _ s _ (h.crossings own) rfl (fun j hj => State.crossings_erase_other (other m j hj own) s)
      rfl).path
  · have own : Event.crossingOf m (.hubExit m) = true := by simp [Event.crossingOf]
    exact (HubMove.exited m _ s _ (h.crossings own) rfl (fun j hj => State.crossings_erase_other (other m j hj own) s)
      rfl).path
  · have kept : s.hubKept (s.modEvents (·.erase e)) := State.hubKept_modEvents fun m =>
      State.crossings_erase_other (he m) s
    exact kept.path.trans (State.hubPath_take he _)

theorem State.inOrder_oldest {s : State} {e : Event} {rest : List Event} (h : s.events = e :: rest) : s.inOrder e := by
  refine ⟨by simp [h], fun m hm => ?_⟩
  rw [h, List.find?_cons_of_pos hm]

/-! ### Settling -/

theorem State.hubPath_moveArrival (s : State) : s.hubPath s.moveArrival := by
  have ended : ∀ d, s.hubPath (s.strokeEnd d) := fun d => by
    unfold State.strokeEnd
    (repeat' split)
    · exact (s.hubKept_startStroke _).path
    · exact s.hubPath_reclaim (fun u => u.hubKept_startStroke _) fun u => u.hubKept_modCond _
    · exact (s.hubKept_startStroke _).path
  unfold State.moveArrival
  (repeat' split)
  · exact (s.hubKept_modCond _).path
  · exact s.hubPath_enterParked
  · exact ended _
  · exact .refl s
  · exact .refl s

theorem State.hubPath_settled (s : State) : s.hubPath s.settled := by
  refine keeps_settled (P := s.hubPath) (fun t e rest h ht => ht.trans ?_) (fun t ht => ht.trans t.hubPath_moveArrival)
    (.refl s)
  have erased : (t.modEvents fun _ => rest) = t.modEvents (·.erase e) := by
    simp [State.modEvents, h]
  rw [erased]
  exact State.hubPath_taken (State.inOrder_oldest h)

theorem State.hubPath_settledFor (k : Option Kind) (s : State) : s.hubPath (s.settledFor k) := by
  have aside : ∀ m, s.events.filter (Event.crossingOf m) =
      (s.events.filter (!·.isMapUpdated)).filter (Event.crossingOf m) := fun m => by
    rw [List.filter_filter]
    refine List.filter_congr fun e _ => ?_
    cases e <;> simp [Event.crossingOf, Event.isMapUpdated]
  unfold State.settledFor State.settledBeforeMap
  split
  · refine ((State.hubKept_modEvents fun m => (aside m).symm).path.trans (State.hubPath_settled _)).trans
      (State.hubKept_modEvents fun m => ?_).path
    have none : (s.events.filter (·.isMapUpdated)).filter (Event.crossingOf m) = [] := by
      rw [List.filter_filter]
      refine List.filter_eq_nil_iff.2 fun e _ => ?_
      cases e <;> simp [Event.crossingOf, Event.isMapUpdated]
    rw [List.filter_append, none, List.nil_append]
  · exact s.hubPath_settled

theorem State.hubKept_hearFrame (p : Port) (s : State) : s.hubKept (s.hearFrame p) := by
  unfold State.hearFrame
  split
  · exact s.hubKept_modLinks _
  · exact .refl s

end Sys2Proof.Machine

namespace Sys2Proof.Machine
open Sys2Proof

/-! ### Event rows -/

theorem State.takeEvent_cases {ch w : Event → Bool} {e : Event} {s u : State} (h : s.takeEvent ch w = some (e, u)) :
    s.events.find? ch = some e ∧ w e = true ∧ u = s.modEvents (·.erase e) := by
  unfold State.takeEvent at h
  split at h
  · next hf =>
    split at h
    · next hw => cases h; exact ⟨hf, hw, rfl⟩
    · cases h
  · cases h

/-- An event taken in the order of its channel, which for a crossing is its arm's, is taken in its order. -/
theorem State.takeEvent_inOrder {ch w : Event → Bool} {e : Event} {s u : State} (h : s.takeEvent ch w = some (e, u))
    (hc : ∀ m, e.crossingOf m = true → ch = Event.crossingOf m) : s.inOrder e :=
  ⟨List.mem_of_find?_eq_some (State.takeEvent_cases h).1, fun m hm => hc m hm ▸ (State.takeEvent_cases h).1⟩

/-- A row that takes the event `e`, or changes nothing. -/
theorem State.row_cases {ch w : Event → Bool} {e : Event} {s t : State} (hw : ∀ x, w x = true → x = e)
    (hc : ∀ m, e.crossingOf m = true → ch = Event.crossingOf m)
    (h : (match s.takeEvent ch w with
      | some (_, u) => (.next (u.take e) : Host.Outcome State Fault Refusal)
      | none => .next s) = .next t) :
    t = s ∨ ∃ x, s.inOrder x ∧ t = (s.modEvents (·.erase x)).take x := by
  split at h
  · next x u hu =>
    obtain ⟨-, hx, rfl⟩ := State.takeEvent_cases hu
    obtain rfl := hw x hx
    cases h
    exact .inr ⟨x, State.takeEvent_inOrder hu hc, rfl⟩
  · cases h; exact .inl rfl

/-- The row of an event between two blocks takes, in its order, such an event, or changes nothing. -/
theorem exec_event_cases {e : Event} {s t : State} (h : exec e.command s = .next t) :
    t = s ∨ ∃ x, s.inOrder x ∧ t = (s.modEvents (·.erase x)).take x := by
  have wanted : ∀ {y : Event} (x : Event), decide (x = y) = true → x = y := fun _ => of_decide_eq_true
  cases e with
  | hubEntry k =>
    exact State.row_cases (ch := Event.crossingOf k) (e := .hubEntry k) wanted
      (fun m (hm : decide (k = m) = true) => congrArg _ (of_decide_eq_true hm)) h
  | hubExit k =>
    exact State.row_cases (ch := Event.crossingOf k) (e := .hubExit k) wanted
      (fun m (hm : decide (k = m) = true) => congrArg _ (of_decide_eq_true hm)) h
  | condMapUpdated | gainRecompute | dryCountUpdate =>
    simp only [exec, Event.command, execCondMapUpdated, execGainRecompute, execDryCountUpdate] at h
    split at h
    · next hu =>
      obtain ⟨-, -, rfl⟩ := State.takeEvent_cases hu
      cases h
      exact .inr ⟨_, State.takeEvent_inOrder hu fun _ hm => (by cases hm), rfl⟩
    · cases h; exact .inl rfl
  | hardHoldVent l => exact State.row_cases (ch := Event.levelTold l) wanted (fun _ hm => by cases hm) h
  | softHoldCap l => exact State.row_cases (ch := Event.levelTold l) wanted (fun _ hm => by cases hm) h
  | condTripHalt | condTripClear => exact State.row_cases (ch := Event.tripTold) wanted (fun _ hm => by cases hm) h
  | condGrant | condGrantLost => exact State.row_cases (ch := Event.grantTold) wanted (fun _ hm => by cases hm) h
  | indexProfileApply | hardHoldBarEmpty | hardHoldWithdraw | tripBarEmpty | mapReplaced | slurryStop =>
    exact State.row_cases wanted (fun _ hm => by cases hm) h

theorem hubPath_eventRow {e : Event} {s t : State} (h : exec e.command s = .next t) : s.hubPath t := by
  rcases exec_event_cases h with rfl | ⟨x, hx, rfl⟩
  · exact .refl t
  · exact State.hubPath_taken hx

/-! ### The platen and the arms -/

theorem State.hubKept_evaluateWindow (s : State) : s.hubKept s.evaluateWindow := by
  unfold State.evaluateWindow
  simp only
  split
  · exact State.hubKept_modTracker rfl
  · exact (State.hubKept_modTracker rfl).trans (State.hubKept_fileAll _ _)

theorem State.hubKept_trackerChanged (before : TrackerState) (s : State) : s.hubKept (s.trackerChanged before) := by
  unfold State.trackerChanged
  simp only
  (repeat' split)
  · exact .refl s
  · exact (s.hubKept_fileAll _).trans (State.hubKept_tripCause _ _)
  · exact (s.hubKept_fileAll _).trans (State.hubKept_tripCause _ _)
  · exact s.hubKept_fileAll _
  · exact s.hubKept_fileAll _

theorem State.hubKept_closeRevolution (v o : Bool) (s : State) : s.hubKept (s.closeRevolution v o) := by
  have noticed : ∀ old (u : State), u.hubKept (u.closeNotices old) := fun old u =>
    State.hubKept_of_frame (by simp) (by simp) (by simp) (by simp) (by simp)
  have issued : ∀ m (u : State), u.hubKept (u.issueUpdated m) := fun m u =>
    ((u.hubKept_raise fun _ => rfl).trans (State.hubKept_raise (fun _ => rfl) _)).trans
      (State.hubKept_raise (fun _ => rfl) _)
  unfold State.closeRevolution
  simp only
  refine .trans ?_ (State.hubKept_modMap _ _)
  split
  · exact (s.hubKept_modMap _).trans (State.hubKept_modMap _ _)
  · exact ((((s.hubKept_modMap _).trans (State.hubKept_modMap _ _)).trans (noticed _ _)).trans
      (State.hubKept_modMap _ _)).trans (issued _ _)

theorem State.hubKept_indexEvent (k : IndexKind) (s : State) : s.hubKept (s.indexEvent k) := by
  have measured : ∀ p (u : State), u.hubKept (u.measureSpeed p) := fun p u =>
    (State.hubKept_modTracker rfl).trans (State.hubKept_evaluateWindow _)
  unfold State.indexEvent
  refine .trans ?_ (State.hubKept_raise (fun _ => rfl) _)
  refine .trans (.trans ?_ (State.hubKept_modTracker rfl)) (State.hubKept_trackerChanged _ _)
  split
  · exact (s.hubKept_closeRevolution _ _).trans (measured _ _)
  · exact s.hubKept_closeRevolution _ _

theorem State.hubKept_indexEdge (n : Nat) (s : State) : s.hubKept (s.indexEdge n) := by
  unfold State.indexEdge
  split
  · exact ((s.hubKept_modMap _).trans (State.hubKept_modTracker rfl)).trans (State.hubKept_trackerChanged _ _)
  · exact (State.hubKept_modTracker rfl).trans (State.hubKept_indexEvent _ _)

theorem State.hubKept_disturb (s : State) : s.hubKept s.disturb :=
  (s.hubKept_modMap _).trans (State.hubKept_modTracker rfl)

theorem State.hubKept_platenCount (e : PlatenEdge) (s : State) : s.hubKept (s.platenCount e) := by
  have moved : ∀ a : Int → Int, s.hubKept (s.modTracker fun t => { t with angle := a t.angle }) := fun a =>
    State.hubKept_modTracker rfl
  unfold State.platenCount
  split
  · exact .refl s
  · unfold State.forwardCount State.sectorMark
    (repeat' split)
    · exact s.hubKept_indexEvent _
    · exact ((moved (· + 1)).trans (State.hubKept_modTracker rfl)).trans (State.hubKept_modMap _ _)
    · exact moved (· + 1)
  · unfold State.reverseCount State.reverseCrossing
    simp only
    (repeat' split)
    · exact s.hubKept_indexEvent _
    · exact moved (· - 1)
    · exact (((moved (· - 1)).trans (State.hubKept_disturb _)).trans (State.hubKept_modTracker rfl)).trans
        (State.hubKept_file _ _ _)
    · exact moved (· - 1)
  · exact s.hubKept_disturb

theorem State.hubKept_enterStalled (s : State) : s.hubKept s.enterStalled := by
  unfold State.enterStalled
  split
  · exact (s.hubKept_disturb.trans (State.hubKept_modTracker rfl)).trans (State.hubKept_trackerChanged _ _)
  · exact (s.hubKept_disturb.trans (State.hubKept_modTracker rfl)).trans (State.hubKept_trackerChanged _ _)
  · exact .refl s
  · exact .refl s

theorem State.hubKept_stallExpiry (s : State) : s.hubKept s.stallExpiry := by
  unfold State.stallExpiry
  split
  · exact s.hubKept_enterStalled
  · exact .refl s

theorem State.hubPath_armCount (m : Arm) (e : ArmEdge) (s : State) : s.hubPath (s.armCount m e) := by
  have counted : ∀ c : BitVec 32 → BitVec 32,
      s.hubPath ((s.modArm m fun a => { a with count := c a.count }).evaluateInside m) := fun c =>
    (HubMove.armMoved m (fun a => { a with count := c a.count }) s fun _ => rfl).path
  cases e with
  | outward =>
    unfold State.armCount
    simp only
    split
    · exact (counted (· + 1)).trans (State.hubPath_followingCheck _)
    · exact counted (· + 1)
  | inward =>
    unfold State.armCount
    simp only
    split
    · exact (counted (· - 1)).trans (State.hubPath_followingCheck _)
    · exact counted (· - 1)

/-- A crossing that the arbiter takes at once is one raised and taken, when no other of that arm is on its way. -/
theorem State.cross_eq {m : Arm} {s : State} (h : s.events = []) : s.cross m = s.evaluateInside m ∨
    ∃ x, (s.evaluateInside m).events = [x] ∧ s.cross m = ((s.evaluateInside m).modEvents (·.erase x)).take x := by
  by_cases hc : s.footprintInside m = (s.arm m).inside
  · exact .inl (by simp [State.cross, State.evaluateInside, hc])
  · refine .inr ⟨if s.footprintInside m then .hubEntry m else .hubExit m, ?_, ?_⟩
    · simp [State.evaluateInside, hc, h]
    · have none : ∀ e, (s.modArm m fun a => { a with inside := s.footprintInside m }) =
          (((s.modArm m fun a => { a with inside := s.footprintInside m }).raise e).modEvents (·.erase e)) := fun e => by
        simp [State.raise, State.modEvents, State.modArm, State.modTracker, h]
      simp only [State.cross, State.evaluateInside, if_neg hc, ← none]
      split <;> rfl

theorem State.hubPath_homeEdge (m : Arm) {s : State} (h : s.events = []) : s.hubPath (s.homeEdge m) := by
  have loaded : s.hubPath ((s.modArm m fun a =>
      { a with count := BitVec.ofNat 32 (s.homePreset m), referenced := true }).evaluateInside m) :=
    (HubMove.armMoved m (fun a => { a with count := BitVec.ofNat 32 (s.homePreset m), referenced := true }) s
      fun _ => rfl).path
  have edge : ∀ u : State, u.hubPath u.condHomeEdge := fun u => by
    have settled : ∀ v : State, v.hubKept v.startSettle := fun v =>
      State.hubKept_of_frame (by simp) (by simp) (by simp) (by simp) (by simp)
    unfold State.condHomeEdge
    simp only
    split
    · exact (u.hubKept_modCond _).path.trans (State.hubPath_enterParked _)
    · exact (u.hubKept_modCond _).path.trans (settled _).path
  unfold State.homeEdge
  simp only
  (repeat' split)
  · exact loaded
  · refine .trans ?_ (edge _)
    rcases State.cross_eq (m := m) (s := s.modArm m fun a =>
      { a with count := BitVec.ofNat 32 (s.homePreset m), referenced := true }) h with hx | ⟨x, he, hx⟩
    · rw [hx]; exact loaded
    · rw [hx]; exact loaded.trans (State.hubPath_taken (State.inOrder_oldest he))
  · exact loaded.trans (edge _)

/-! ### Slurry and matrix -/

theorem State.hubKept_stopTimeout (k : Line) (s : State) : s.hubKept (s.stopTimeout k) := by
  unfold State.stopTimeout
  split
  · exact State.hubKept_of_frame (by simp) (by simp) (by simp) (by simp) (by simp)
  · exact .refl s

theorem State.hubKept_flowPulse (k : Line) (s : State) : s.hubKept (s.flowPulse k) := by
  unfold State.flowPulse
  simp only
  (repeat' split)
  · exact .refl s
  all_goals exact State.hubKept_of_frame (by simp) (by simp) (by simp) (by simp) (by simp)

theorem State.hubKept_windowEnd (s : State) : s.hubKept s.windowEnd := by
  unfold State.windowEnd
  exact s.hubKept_modSlurry _

theorem State.hubKept_silenceExpiry (l : Lane) (s : State) : s.hubKept (s.silenceExpiry l) := by
  unfold State.silenceExpiry State.goSilent
  split
  · exact .refl s
  · exact (s.hubKept_modLinks _).trans (State.hubKept_onRise _ _ (State.hubKept_addCause _ _ _))

theorem State.hubKept_takeTargets (before s : State) : s.hubKept (s.takeTargets before) := by
  unfold State.takeTargets
  exact (((s.hubKept_onRise _ _ (State.hubKept_addCause _ _ _)).trans
    (State.hubKept_onRise _ _ (State.hubKept_addCause _ _ _))).trans
    (State.hubKept_onRise _ _ (State.hubKept_tripCause _ _))).trans
    (State.hubKept_onRise _ _ (State.hubKept_raise (fun _ => rfl) _))

theorem State.hubKept_modInput (i : InputIndex) (f : InterlockInput → InterlockInput) (s : State) :
    s.hubKept (s.modInput i f) := State.hubKept_modMatrix rfl

theorem State.hubKept_acceptLevel (i : InputIndex) (s : State) : s.hubKept (s.acceptLevel i) :=
  (s.hubKept_modInput _ _).trans (State.hubKept_takeTargets _ _)

theorem State.hubKept_debounceExpiry (i : InputIndex) (s : State) : s.hubKept (s.debounceExpiry i) := by
  unfold State.debounceExpiry
  split
  · exact .refl s
  · exact s.hubKept_acceptLevel i

theorem State.hubKept_pinChange (i : InputIndex) (b : Bool) (s : State) : s.hubKept (s.pinChange i b) := by
  unfold State.pinChange
  simp only
  (repeat' split)
  · exact .refl s
  · exact (s.hubKept_modInput _ _).trans (State.hubKept_acceptLevel _ _)
  · exact s.hubKept_modInput _ _

/-! ### Head pressure -/

theorem State.hubKept_reportSupply (b : Bool) (s : State) : s.hubKept (s.reportSupply b) :=
  (s.hubKept_modPress _).trans (State.hubKept_onRise _ _ (State.hubKept_addCauseBoth _ _))

theorem State.hubKept_reportFault (l : Lane) (b : Bool) (s : State) : s.hubKept (s.reportFault l b) :=
  State.hubKept_onRise _ _ (State.hubKept_addCause _ _ _)

theorem State.hubKept_touchdownDone (l : Lane) (s : State) : s.hubKept (s.touchdownDone l) := by
  unfold State.touchdownDone
  split
  · exact State.hubKept_of_frame (by simp) (by simp) (by simp) (by simp) (by simp)
  · exact .refl s

theorem State.hubKept_releaseDone (l : Lane) (s : State) : s.hubKept (s.releaseDone l) := by
  unfold State.releaseDone
  split
  · exact State.hubKept_of_frame (by simp) (by simp) (by simp) (by simp) (by simp)
  · exact .refl s

theorem State.hubKept_pressureUpdate (adc : Lanes (Six (BitVec 12))) (supply : BitVec 12) (s : State) :
    s.hubKept (s.pressureUpdate adc supply) := by
  have stepped : ∀ low, s.hubKept ((s.updateLane .a low adc.a).updateLane .b low adc.b) := fun low =>
    State.hubKept_of_frame rfl rfl rfl rfl rfl
  have completed := fun low => ((((stepped low).trans (State.hubKept_touchdownDone .a _)).trans
    (State.hubKept_touchdownDone .b _)).trans (State.hubKept_releaseDone .a _)).trans (State.hubKept_releaseDone .b _)
  exact (((completed _).trans (State.hubKept_reportFault .a _ _)).trans (State.hubKept_reportFault .b _ _)).trans
    ((State.hubKept_modPress _ _).trans (State.hubKept_reportSupply _ _))

theorem State.hubKept_supplyTimeExpiry (s : State) : s.hubKept s.supplyTimeExpiry := by
  unfold State.supplyTimeExpiry
  split
  · exact .refl s
  · exact (s.hubKept_modPress _).trans (State.hubKept_reportSupply _ _)

theorem State.hubKept_deviationExpiry (l : Lane) (c : Chan) (s : State) : s.hubKept (s.deviationExpiry l c) := by
  unfold State.deviationExpiry
  split
  · exact .refl s
  · exact (s.hubKept_modPress _).trans (State.hubKept_reportFault _ _ _)

/-! ### The conditioner's motion -/

theorem State.hubPath_condStep (s : State) : s.hubPath s.condStep := by
  unfold State.condStep
  (repeat' split)
  · exact .refl s
  · exact .refl s
  · refine (State.hubKept_of_frame ?_ ?_ ?_ ?_ ?_).path.trans (State.hubPath_followingCheck _) <;> simp [State.stepArm]

theorem State.hubKept_homingStep (b : Bool) (s : State) : s.hubKept (s.homingStep b) := by
  unfold State.homingStep
  split
  · exact s.hubKept_modCond _
  · exact .refl s

theorem State.hubKept_loweringComplete (s : State) : s.hubKept s.loweringComplete := by
  unfold State.loweringComplete
  (repeat' split)
  · exact s.hubKept_modCond _
  · exact s.hubKept_startStroke _
  · exact s.hubKept_startStroke _
  · exact .refl s
  · exact .refl s

theorem State.hubPath_liftComplete (s : State) : s.hubPath s.liftComplete := by
  have lifted : ∀ p, s.hubPath (s.afterLift p) := fun p => by
    unfold State.afterLift
    simp only
    (repeat' split)
    · exact s.hubPath_select
    · exact s.hubPath_sweepStart
    · exact s.hubPath_dealFor _
    · exact s.hubPath_returnToPark
    · exact (s.hubKept_modCond _).path.trans (State.hubPath_returnToPark _)
    · exact (s.hubKept_modCond _).path
  unfold State.liftComplete
  (repeat' split)
  · exact lifted _
  · exact .refl s
  · exact .refl s

theorem State.hubPath_condTimeouts (s : State) : s.hubPath s.settleTimeout ∧ s.hubPath s.liftTimeout ∧
    s.hubPath s.homingTimeout ∧ s.hubPath s.downforceFault := by
  unfold State.settleTimeout State.liftTimeout State.homingTimeout State.downforceFault
  refine ⟨?_, ?_, ?_, ?_⟩ <;> split
  · exact s.hubPath_condFault _
  · exact .refl s
  · exact s.hubPath_condFault _
  · exact .refl s
  · exact s.hubPath_condFault _
  · exact .refl s
  · exact (s.hubKept_modCond _).path.trans (State.hubPath_condFault _ _)
  · exact .refl s

theorem State.hubPath_downforceUpdate (adc : BitVec 12) (b : Bool) (s : State) : s.hubPath (s.downforceUpdate adc b) := by
  have sampled : s.hubPath (s.updateDownforce adc) := (s.hubKept_modCond _).path
  refine sampled.trans ?_
  unfold State.downforceUpdate
  simp only
  (repeat' split)
  · exact State.hubPath_condFault _ _
  · exact (State.hubKept_loweringComplete _).path
  · exact State.hubPath_liftComplete _
  · exact .refl _
  · exact .refl _

/-! ### A millisecond -/

theorem State.hubPath_tick (s : State) : s.hubPath s.tick := by
  have platen : s.hubKept s.tickPlaten := by
    unfold State.tickPlaten
    simp only
    (repeat' split)
    · exact .refl s
    · exact (State.hubKept_modTracker rfl).trans (State.hubKept_stallExpiry _)
    · exact State.hubKept_modTracker rfl
    · exact State.hubKept_modTracker rfl
  have silence : ∀ l (u : State), u.hubKept (u.tickSilence l) := fun l u => by
    unfold State.tickSilence
    simp only
    (repeat' split)
    · exact .refl u
    · exact (u.hubKept_modLinks _).trans (State.hubKept_silenceExpiry l _)
    · exact u.hubKept_modLinks _
  have lines : ∀ u : State, u.hubKept u.tickLines := fun u => by
    have stop : ∀ (b : Bool) k (v : State), v.hubKept (if b then v.stopTimeout k else v) := fun b k v => by
      split
      · exact v.hubKept_stopTimeout k
      · exact .refl v
    exact (u.hubKept_modSlurry _).trans (((stop _ .l1 _).trans (stop _ .l2 _)).trans (stop _ .l3 _))
  have window : ∀ u : State, u.hubKept u.tickWindow := fun u => by
    unfold State.tickWindow
    simp only
    split
    · exact (u.hubKept_modSlurry _).trans (State.hubKept_windowEnd _)
    · exact u.hubKept_modSlurry _
  have inputs : ∀ (is : List InputIndex) (u : State), u.hubKept (is.foldl State.tickInput u) := fun is => by
    induction is with
    | nil => exact .refl
    | cons i rest ih =>
      have input : ∀ u : State, u.hubKept (u.tickInput i) := fun u => by
        unfold State.tickInput
        simp only
        (repeat' split)
        · exact .refl u
        · exact (u.hubKept_modInput _ _).trans (State.hubKept_debounceExpiry i _)
        · exact u.hubKept_modInput _ _
      exact fun u => (input u).trans (ih _)
  have cond : ∀ u : State, u.hubPath u.tickCond := fun u => by
    unfold State.tickCond
    simp only
    (repeat' split)
    · exact (u.hubKept_modCond _).path.trans (State.hubPath_condTimeouts _).1
    · exact (u.hubKept_modCond _).path.trans (State.hubPath_condTimeouts _).2.1
    · exact (u.hubKept_modCond _).path.trans (State.hubPath_condTimeouts _).2.2.1
    · exact (u.hubKept_modCond _).path
  unfold State.tick
  exact ((((platen.trans (silence .a _)).trans (silence .b _)).trans (lines _)).trans (window _)).path.trans
    ((inputs _ _).path.trans (cond _))

/-! ### Requests -/

/-- What a changed setting brings moves the hub, but where the hub's size or a reach is put, by its moves. -/
theorem Item.hubPath_changed (item : Item) (before s : State) (h : item ≠ .hubSize ∧ (∀ l, item ≠ .laneReach l) ∧
    item ≠ .condReach) : s.hubPath (item.changed before s) := by
  have silence : ∀ l (u : State), u.hubKept (u.silenceTimeChanged l) := fun l u => by
    unfold State.silenceTimeChanged
    split
    · exact u.hubKept_silenceExpiry l
    · exact .refl u
  cases item with
  | hubSize => exact absurd rfl h.1
  | laneReach l => exact absurd rfl (h.2.1 l)
  | condReach => exact absurd rfl h.2.2
  | stallLimit =>
    simp only [Item.changed, State.stallLimitChanged]
    (repeat' split)
    · exact s.hubKept_enterStalled.path
    · exact .refl s
    · exact .refl s
  | windowLower | windowUpper => exact s.hubKept_evaluateWindow.path
  | limit | softHold | downforceLimit | maxFlow | recirculation | primeFlow | barMax | outletMax =>
    refine State.hubKept.path (State.hubKept_of_frame ?_ ?_ ?_ ?_ ?_) <;> rfl
  | diskLifeLimit => exact s.hubKept_evaluateSpent.path.trans (State.hubPath_actIfParked _)
  | stopTimeout k =>
    simp only [Item.changed, State.stopTimeoutChanged]
    split
    · exact (State.hubKept_of_frame (by simp) (by simp) (by simp) (by simp) (by simp)).path
    · exact .refl s
  | invertMask | mask => exact (State.hubKept_takeTargets _ _).path
  | linkSilence => exact ((silence .a _).trans (silence .b _)).path
  | _ => exact .refl s

theorem State.hubPath_applySetting (item : Item) (v : Nat) (s : State) : s.hubPath (s.applySetting item v) := by
  unfold State.applySetting
  split
  · exact .refl s
  · by_cases h : item ≠ .hubSize ∧ (∀ l, item ≠ .laneReach l) ∧ item ≠ .condReach
    · refine State.hubPath.trans (State.hubKept.path ?_) (item.hubPath_changed s _ h)
      have same : ∀ m, (Settings.put item v s.settings).tracker.hubSize = s.settings.tracker.hubSize ∧
          (s.modSettings (Settings.put item v)).reach m = s.reach m := fun m => by
        cases item with
        | hubSize => exact absurd rfl h.1
        | laneReach l => exact absurd rfl (h.2.1 l)
        | condReach => exact absurd rfl h.2.2
        | _ => exact ⟨rfl, by cases m <;> rfl⟩
      refine ⟨rfl, rfl, ⟨funext fun m => (same m).2, ?_⟩, rfl, fun h _ => h⟩
      simp only [State.hubRadius, State.modSettings, (same .a).1]
    · have resized : item.changed s (s.modSettings (Settings.put item v)) =
          (s.modSettings (Settings.put item v)).evaluateAllInside := by
        by_contra hne
        refine h ⟨?_, fun l => ?_, ?_⟩ <;> rintro rfl <;> exact hne rfl
      rw [resized]
      exact (HubMove.resized _ s).path

theorem State.hubPath_resume (l : Lane) (s : State) : s.hubPath (s.resume l).1 := by
  have cleared : s.hubKept (s.setCauses l []) := State.hubKept_modMatrix rfl
  have fed : ∀ level (u : State), u.hubKept (u.resumeFeed l level).1 := fun level u => by
    unfold State.resumeFeed State.resumeBar
    simp only
    (repeat' split)
    · exact u.hubKept_modSlurry _
    · exact State.hubKept_of_frame (by simp) (by simp) (by simp) (by simp) (by simp)
    · exact State.hubKept_of_frame (by simp) (by simp) (by simp) (by simp) (by simp)
    · exact .refl u
  exact ((cleared.trans (fed _ _)).trans (State.hubKept_raise (fun _ => rfl) _)).path

theorem State.addCauseUntold_station (l : Lane) (e : CauseEntry) (s : State) :
    (s.addCauseUntold l e).matrix.station = s.matrix.station := by
  unfold State.addCauseUntold State.addCauseWith
  simp only
  split
  · rfl
  · simp [State.setCauses]

theorem State.hubPath_stationRestart {s : State} (h : s.armsInside.length < 2) : s.hubPath s.stationRestart := by
  have rested : s.hubKept s.pressureRestart.slurryRestart :=
    State.hubKept_of_frame (by simp [State.pressureRestart]) (by simp [State.pressureRestart])
      (by simp [State.pressureRestart]) (by simp [State.pressureRestart]) (by simp [State.pressureRestart])
  have derived := (HubMove.restart s.pressureRestart.slurryRestart h).path
  have free : s.pressureRestart.slurryRestart.rederiveHub.hub.intrusion = false := rfl
  have lane : ∀ l (u : State), u.hubKept (u.reevaluateLane l) := fun l u => by
    have untold : ∀ e (v : State), v.hubKept (v.addCauseUntold l e) := fun e v =>
      State.hubKept_of_frame (by simp) (by simp) (by simp) (by simp) (State.addCauseUntold_station l e v)
    exact (State.hubKept_onRise _ _ (untold _ _)).trans (State.hubKept_onRise _ _ (untold _ _))
  have restarted : s.pressureRestart.slurryRestart.rederiveHub.hubKept
      ((s.pressureRestart.slurryRestart.rederiveHub.condRestart.modLinks Links.restarted).modMatrix Matrix.restarted) := by
    refine ⟨?_, ?_, ⟨?_, ?_⟩, ?_, fun _ hi => by rw [free] at hi; cases hi⟩
    · simp [State.condRestart]
    · simp [State.condRestart]
    · funext m; cases m <;> simp [State.reach, State.condRestart]
    · simp [State.hubRadius, State.condRestart]
    · funext m; simp [State.crossings, State.condRestart]
  exact (rested.path.trans derived).trans ((restarted.trans (lane .a _)).trans (lane .b _)).path

theorem State.hubPath_forceRelease (s : State) : s.hubPath (decideHubForceRelease s).state := by
  unfold decideHubForceRelease
  split
  · exact .refl s
  · next m hm =>
    split
    · exact .refl s
    · next hout =>
      refine (HubMove.endGrant s fun k hk => ?_).path.trans (State.hubKept_tellLoss _ _).path
      obtain rfl := Option.some.inj (hm.symm.trans hk)
      simpa using hout

/-- The kinds whose requests leave the hub, the outstanding events and the station as they are. -/
def leavesHub : Kind → Bool
  | .identRead | .statusRead | .noticesRead | .noteSend | .noteTake | .get | .mapRead | .profileStage | .touchdown | .release
  | .gainLoad | .condReset | .lineStart | .lineRestart | .lineStop | .feedSelect | .rateSet | .chordLoad => true
  | _ => false

theorem decideRequest_leavesHub (p : Port) (r : Request) (s : State) (h : leavesHub r.kind = true) :
    s.hubKept (decideRequest p s r).state := by
  cases r with
  | identRead | noticesRead => exact State.hubKept_of_frame rfl rfl rfl rfl rfl
  | statusRead | noteSend | noteTake | get | mapRead =>
    simp only [decideRequest, decideStatusRead, decideNoteSend, decideNoteTake, decideGet, decideMapRead]
    (repeat' split) <;> exact State.hubKept_of_frame rfl rfl rfl rfl rfl
  | profileStage | touchdown | release | gainLoad =>
    simp only [decideRequest, decideProfileStage, decideTouchdown, State.touchdown, decideRelease, decideGainLoad]
    (repeat' split) <;> exact State.hubKept_of_frame rfl rfl rfl rfl rfl
  | lineStart | lineRestart | lineStop | feedSelect | rateSet =>
    simp only [decideRequest, decideLineStart, decideLineRestart, decideLineStartFrom, State.startLine, decideLineStop,
      decideFeedSelect, decideRateSet]
    (repeat' split) <;> exact State.hubKept_of_frame rfl rfl rfl rfl rfl
  | condReset | chordLoad =>
    simp only [decideRequest, decideCondReset, decideChordLoad]
    (repeat' split) <;> exact State.hubKept_of_frame rfl rfl rfl rfl rfl
  | _ => cases h

theorem State.hubPath_request (p : Port) (r : Request) (s : State) : s.hubPath (decideRequest p s r).state := by
  cases hk : leavesHub r.kind with
  | true => exact (decideRequest_leavesHub p r s hk).path
  | false =>
    cases r with
    | set id inst v =>
      simp only [decideRequest, decideSet]
      (repeat' split)
      · exact .refl s
      · exact .refl s
      · exact s.hubPath_applySetting _ _
    | mapRestore es =>
      have restored : s.hubKept (s.mapRestore es) := by
        unfold State.mapRestore
        simp only
        split
        · exact ((s.hubKept_modMap _).trans (State.hubKept_modMap _ _)).trans (State.hubKept_raise (fun _ => rfl) _)
        · exact s.hubKept_modMap _
      simp only [decideRequest, decideMapRestore]
      (repeat' split)
      · exact .refl s
      · exact .refl s
      · exact restored.path
    | padReset =>
      simp only [decideRequest, decidePadReset]
      split
      · exact ((s.hubKept_modMap _).trans (State.hubKept_raise (fun _ => rfl) _)).path
      · exact .refl s
    | hubClaim =>
      simp only [decideRequest, decideHubClaim]
      split
      · exact .refl s
      · exact s.hubPath_claimHub _
    | hubRelease =>
      simp only [decideRequest, decideHubRelease]
      split
      · exact .refl s
      · exact s.hubPath_releaseHub _
    | hubForceRelease => exact s.hubPath_forceRelease
    | condMode =>
      simp only [decideRequest, decideCondMode]
      split
      · exact .refl s
      · next m _ =>
        have put := (s.hubKept_modCond fun c => { c with mode := m, queue := if m = .off then [] else c.queue }).path
        by_cases hf : s.cond.state = .fault
        · rw [if_pos hf]
          exact .refl s
        · rw [if_neg hf]
          by_cases hm : s.cond.mode = m
          · rw [if_pos hm]
            exact put
          · rw [if_neg hm]
            exact put.trans (State.hubPath_modeChanged _)
    | diskReset =>
      simp only [decideRequest, decideDiskReset]
      (repeat' split)
      · exact .refl s
      · exact ((s.hubKept_modCond _).trans (State.hubKept_evaluateSpent _)).path.trans (State.hubPath_actIfParked _)
      · exact .refl s
    | remoteHold =>
      have held : ∀ l h, s.hubKept (s.modMatrix fun m => { m with remoteHold := m.remoteHold.set l h }) := fun _ _ =>
        State.hubKept_modMatrix rfl
      simp only [decideRequest, decideRemoteHold, State.setRemoteHold]
      (repeat' split)
      · exact ((held _ _).trans (State.hubKept_addCause _ _ _)).path
      · exact (held _ _).path
      · exact (held _ _).path
      · exact .refl s
    | remoteTrip =>
      have told : ∀ b, s.hubKept (s.modMatrix fun m => { m with remoteTrip := b }) := fun _ =>
        State.hubKept_modMatrix rfl
      simp only [decideRequest, decideRemoteTrip]
      split
      · exact ((told _).trans (State.hubKept_onRise _ _ (State.hubKept_tripCause _ _))).path
      · exact (told _).path
      · exact .refl s
    | resume =>
      simp only [decideRequest, decideResume]
      (repeat' split)
      · exact .refl s
      · exact .refl s
      · exact .refl s
      · exact s.hubPath_resume _
    | tripClear =>
      simp only [decideRequest, decideTripClear]
      (repeat' split)
      · exact .refl s
      · exact .refl s
      · next hactive =>
        have free : s.hub.intrusion = false := by
          by_contra hi
          refine hactive fun hnil => ?_
          have mem : TripCause.hubIntrusion ∈ s.activeTrips :=
            List.mem_filter.2 ⟨by decide, by simpa [State.tripActive] using hi⟩
          rw [hnil] at mem
          cases mem
        refine HubMove.path (.kept ⟨rfl, rfl, ⟨rfl, rfl⟩, State.crossings_raise (fun _ => rfl) _, fun _ hi => ?_⟩)
        rw [free] at hi
        cases hi
    | stationRestart =>
      simp only [decideRequest, decideStationRestart]
      (repeat' split)
      · exact .refl s
      · exact .refl s
      · exact State.hubPath_stationRestart (by omega)
    | _ => cases hk

/-! ### Commands and steps -/

theorem State.hubKept_modPort (p : Port) (f : PortLink → PortLink) (s : State) : s.hubKept (s.modPort p f) :=
  s.hubKept_modLinks _

/-- Every command moves the hub by its moves. -/
theorem exec_hubPath {c : Instr} {s t : State} (h : exec c s = .next t) : s.hubPath t := by
  have port : PortBlind s.hubPath := fun p f u hu => hu.trans (u.hubKept_modPort p f).path
  have settledFor : ∀ k u, s.hubPath u → s.hubPath (u.settledFor k) := fun k u hu => hu.trans (u.hubPath_settledFor k)
  have heardFor : ∀ p k u, s.hubPath u → s.hubPath (u.heardFor p k) := fun p k u hu =>
    settledFor _ _ (hu.trans (u.hubKept_hearFrame p).path)
  have silence : ∀ l f u, s.hubPath u → s.hubPath (u.modSilence l f) := fun l f u hu =>
    hu.trans (u.hubKept_modLinks _).path
  have request : ∀ p r u, s.hubPath u → s.hubPath (decideRequest p u r).state := fun p r u hu =>
    hu.trans (State.hubPath_request p r u)
  have row : ∀ {f : State → State}, (∀ u, State.hubPath u (f u)) → s.hubPath (f s.settled) := fun hf =>
    s.hubPath_settled.trans (hf _)
  have next : ∀ {u : State}, exec c s = .next t → (exec c s = .next u) → s.hubPath u → s.hubPath t := fun h k hu =>
    Host.Outcome.next.inj (h.symm.trans k) ▸ hu
  have event : ∀ e : Event, exec e.command s = .next t → s.hubPath t := fun e he => hubPath_eventRow he
  cases hq : c.request? with
  | some pr =>
    obtain ⟨p, r⟩ := pr
    rw [Instr.eq_command hq, exec_request] at h
    cases h
    exact keeps_answerRequest port heardFor request p r s (.refl s)
  | none =>
    cases c with
    | hardReset => cases h; exact (HubMove.reset s).path
    | validFrame p tag kind payload crc =>
      cases h; exact keeps_frame port settledFor silence request p _ crc s (.refl s)
    | replySent p => cases h; exact keeps_replySent port settledFor request p s (.refl s)
    | frameError p => cases h; exact (s.hubKept_modPort _ _).path
    | syncByte p => cases h; exact (s.hubKept_modPort _ _).path
    | resetAsserted =>
      cases h
      refine State.hubKept.path (State.hubKept_of_frame ?_ ?_ ?_ ?_ ?_) <;> rfl
    | interByteTimeout p =>
      cases h
      unfold State.interByteTimeout
      split
      · exact (s.hubKept_modPort _ _).path
      · exact .refl s
    | hubEntry m => exact event (.hubEntry m) h
    | hubExit m => exact event (.hubExit m) h
    | condMapUpdated => exact event (.condMapUpdated default) h
    | gainRecompute => exact event (.gainRecompute default) h
    | dryCountUpdate => exact event (.dryCountUpdate default) h
    | indexProfileApply => exact event .indexProfileApply h
    | hardHoldVent l => exact event (.hardHoldVent l) h
    | softHoldCap l => exact event (.softHoldCap l) h
    | hardHoldBarEmpty l => exact event (.hardHoldBarEmpty l) h
    | hardHoldWithdraw l => exact event (.hardHoldWithdraw l) h
    | tripBarEmpty => exact event .tripBarEmpty h
    | condTripHalt => exact event .condTripHalt h
    | condTripClear => exact event .condTripClear h
    | mapReplaced => exact event .mapReplaced h
    | condGrant => exact event .condGrant h
    | condGrantLost => exact event .condGrantLost h
    | slurryStop => exact event .slurryStop h
    | moveArrival => cases h; exact s.hubPath_moveArrival
    | platenEncoderCount e => exact next h rfl (row fun u => (u.hubKept_platenCount e).path)
    | indexEdge n => exact next h rfl (row fun u => (u.hubKept_indexEdge n).path)
    | stallTimerExpiry => exact next h rfl (row fun u => u.hubKept_stallExpiry.path)
    | armEncoderCount m e => exact next h rfl (row fun u => u.hubPath_armCount m e)
    | homeSwitchEdge m => exact next h rfl (s.hubPath_settled.trans (State.hubPath_homeEdge m s.settled_events))
    | silenceTimerExpiry l => exact next h rfl (row fun u => (u.hubKept_silenceExpiry l).path)
    | pressureUpdate adc supply => exact next h rfl (row fun u => (u.hubKept_pressureUpdate adc supply).path)
    | touchdownDone l => exact next h rfl (row fun u => (u.hubKept_touchdownDone l).path)
    | releaseDone l => exact next h rfl (row fun u => (u.hubKept_releaseDone l).path)
    | supplyTimeExpiry => exact next h rfl (row fun u => u.hubKept_supplyTimeExpiry.path)
    | deviationTimeExpiry l c => exact next h rfl (row fun u => (u.hubKept_deviationExpiry l c).path)
    | condStep => exact next h rfl (row State.hubPath_condStep)
    | settleTimeout => exact next h rfl (row fun u => u.hubPath_condTimeouts.1)
    | liftTimeout => exact next h rfl (row fun u => u.hubPath_condTimeouts.2.1)
    | homingTimeout => exact next h rfl (row fun u => u.hubPath_condTimeouts.2.2.1)
    | downforceFault => exact next h rfl (row fun u => u.hubPath_condTimeouts.2.2.2)
    | downforceUpdate adc up => exact next h rfl (row fun u => u.hubPath_downforceUpdate adc up)
    | loweringComplete => exact next h rfl (row fun u => u.hubKept_loweringComplete.path)
    | liftComplete => exact next h rfl (row State.hubPath_liftComplete)
    | flowMeterPulse k => exact next h rfl (row fun u => (u.hubKept_flowPulse k).path)
    | stopTimeoutExpiry k => exact next h rfl (row fun u => (u.hubKept_stopTimeout k).path)
    | flowWindowEnd => exact next h rfl (row fun u => u.hubKept_windowEnd.path)
    | interlockPinChange i b => exact next h rfl (row fun u => (u.hubKept_pinChange i b).path)
    | debounceExpiry i => exact next h rfl (row fun u => (u.hubKept_debounceExpiry i).path)
    | homingStep b => exact next h rfl (row fun u => (u.hubKept_homingStep b).path)
    | _ => cases hq

/-- Every step moves the hub by its moves. -/
theorem step_hubPath {s t : State} (h : step s = .next t) : s.hubPath t := by
  refine keeps_step (P := s.hubPath) (fun u q hu => hu.trans (State.hubKept_of_frame (s := u) (t := { u with pending := q }) rfl rfl rfl rfl rfl).path)
    (fun c u v hu hv => hu.trans (exec_hubPath hv)) (fun u hu => ?_) (.refl s) h
  exact (hu.trans u.hubPath_settled).trans (State.hubPath_tick _)

/-- Settles O52: a step moves the hub by its moves alone, and each move keeps the two laws. -/
theorem hubStaysLawfulAndGuarded : Obligations.HubStaysLawfulAndGuarded :=
  ⟨fun _ _ hs h => (step_hubPath h).keeps (P := fun s => s.hub.lawful) (fun _ _ => HubMove.keeps_lawful) hs,
    fun _ _ hs h => (step_hubPath h).keeps (P := State.hubGuarded) (fun _ _ => HubMove.keeps_guarded) hs⟩

end Sys2Proof.Machine


/-!
Causes and trips taken: what the interlock matrix's shared operations add, and that additions compose.
-/

namespace Sys2Proof.Machine
open Sys2Proof

/-! ### Entries of a cause set -/

theorem addEntry_keeps {e x : CauseEntry} {c : List CauseEntry} (hx : x ∈ c) :
    ∃ y ∈ addEntry e c, y.kind = x.kind ∧ (x.severity = .hard → y.severity = .hard) := by
  induction c with
  | nil => cases hx
  | cons z rest ih =>
    rw [addEntry]
    split
    · rcases List.mem_cons.1 hx with rfl | hx
      · refine ⟨_, List.mem_cons_self, rfl, fun h => ?_⟩
        simp only [h, raiseSeverity]
        cases e.severity <;> rfl
      · exact ⟨x, List.mem_cons_of_mem _ hx, rfl, id⟩
    · rcases List.mem_cons.1 hx with rfl | hx
      · exact ⟨x, List.mem_cons_self, rfl, id⟩
      · obtain ⟨y, hy, same⟩ := ih hx
        exact ⟨y, List.mem_cons_of_mem _ hy, same⟩

theorem mem_addEntry_cases {e y : CauseEntry} {c : List CauseEntry} (hy : y ∈ addEntry e c) :
    (y.kind = e.kind ∧ y.severity = e.severity) ∨ ∃ x ∈ c, x.kind = y.kind ∧ x.severity = y.severity := by
  induction c with
  | nil => obtain rfl := List.mem_singleton.1 hy; exact .inl ⟨rfl, rfl⟩
  | cons z rest ih =>
    rw [addEntry] at hy
    split at hy
    · next hk =>
      rcases List.mem_cons.1 hy with rfl | hy
      · cases hs : e.severity with
        | hard => exact .inl ⟨hk, by simp [raiseSeverity]⟩
        | soft => exact .inr ⟨z, List.mem_cons_self, rfl, by simp [raiseSeverity]⟩
      · exact .inr ⟨y, List.mem_cons_of_mem _ hy, rfl, rfl⟩
    · rcases List.mem_cons.1 hy with rfl | hy
      · exact .inr ⟨y, List.mem_cons_self, rfl, rfl⟩
      · rcases ih hy with h | ⟨x, hx, same⟩
        · exact .inl h
        · exact .inr ⟨x, List.mem_cons_of_mem _ hx, same⟩

/-! ### Causes, trips, notices and events that are added -/

/-- From `s` to `t` the matrix takes causes and trips, with the notices and the events that tell of them; nothing else
changes. -/
structure State.takesCauses (s t : State) : Prop where
  caused : s.onlyCaused t
  filed : s.onlyFiled t
  told : s.levelsTold t
  raised : ∀ e ∈ s.events, e ∈ t.events
  frame : t = { s with matrix := t.matrix, links := t.links, events := t.events }

/-- Which causes and trips are taken depends on the state before only by its matrix. -/
theorem State.onlyCaused.congr {s v t : State} (h : v.onlyCaused t) (hm : v.matrix = s.matrix) : s.onlyCaused t := by
  unfold State.onlyCaused State.causes at h ⊢
  rwa [hm] at h

theorem State.onlyCaused_of_matrix {s t : State} (h : t.matrix = s.matrix) : s.onlyCaused t := by
  refine ⟨by rw [h], fun l e he => ⟨e, ?_, rfl, id⟩, fun l x hx => .inr ⟨x, ?_, rfl, rfl⟩, fun c hc => by rwa [h]⟩
  · rwa [State.causes, h]
  · rwa [State.causes, h] at hx

theorem State.onlyCaused.trans {s t u : State} (h : s.onlyCaused t) (k : t.onlyCaused u) (hg : u.settings = t.settings) :
    s.onlyCaused u := by
  obtain ⟨hframe, hkept, hadded, htrips⟩ := h
  obtain ⟨kframe, kkept, kadded, ktrips⟩ := k
  have adds : ∀ l k, t.addsAt l k = u.addsAt l k := fun l k => by
    unfold State.addsAt
    rw [hg, kframe]
  refine ⟨by rw [kframe, hframe], fun l e he => ?_, fun l x hx => ?_, fun c hc => ktrips c (htrips c hc)⟩
  · obtain ⟨x, hx, kind, hard⟩ := hkept l e he
    obtain ⟨y, hy, kind', hard'⟩ := kkept l x hx
    exact ⟨y, hy, kind'.trans kind, fun h => hard' (hard h)⟩
  · rcases kadded l x hx with hnew | ⟨y, hy, kind, sev⟩
    · exact .inl hnew
    · rcases hadded l y hy with hnew | ⟨e, he, kind', sev'⟩
      · rw [adds, kind, sev] at hnew
        exact .inl hnew
      · exact .inr ⟨e, he, kind'.trans kind, sev'.trans sev⟩

/-- What is told on the way is told at the end, for notices and events only join. -/
theorem State.levelsTold.trans {s t u : State} (h : s.levelsTold t) (k : t.levelsTold u) (hf : t.portsFiled u)
    (he : ∀ e ∈ t.events, e ∈ u.events) : s.levelsTold u := fun l hl => by
  by_cases same : u.holdLevel l = t.holdLevel l
  · obtain ⟨own, main, soft, hard⟩ := h l (same ▸ hl)
    refine ⟨(hf _).2 _ own, (hf _).2 _ main, fun hs => he _ (soft (same ▸ hs)), fun hh => ?_⟩
    obtain ⟨vent, empty, withdraw⟩ := hard (same ▸ hh)
    exact ⟨he _ vent, he _ empty, he _ withdraw⟩
  · exact k l same

theorem State.takesCauses.trans {s t u : State} (h : s.takesCauses t) (k : t.takesCauses u) : s.takesCauses u where
  caused := h.caused.trans k.caused (by rw [k.frame])
  filed := h.filed.trans k.filed
  told := h.told.trans k.told k.filed.2 k.raised
  raised := fun e he => k.raised e (h.raised e he)
  frame := k.frame.trans (congrArg (fun v : State =>
    { v with matrix := u.matrix, links := u.links, events := u.events }) h.frame)

/-- A step that leaves the levels as they are has nothing to tell. -/
theorem State.takesCauses_of_level {s t : State} (caused : s.onlyCaused t) (filed : s.onlyFiled t)
    (level : ∀ l, t.holdLevel l = s.holdLevel l) (raised : ∀ e ∈ s.events, e ∈ t.events)
    (frame : t = { s with matrix := t.matrix, links := t.links, events := t.events }) : s.takesCauses t :=
  ⟨caused, filed, fun l hl => absurd (level l) hl, raised, frame⟩

theorem State.takesCauses.refl (s : State) : s.takesCauses s :=
  State.takesCauses_of_level (State.onlyCaused_of_matrix rfl) (State.onlyFiled_of_links rfl) (fun _ => rfl)
    (fun _ => id) rfl

theorem State.takesCauses_raise (e : Event) (s : State) : s.takesCauses (s.raise e) :=
  State.takesCauses_of_level (State.onlyCaused_of_matrix rfl) (State.onlyFiled_of_links rfl) (fun _ => rfl)
    (fun _ => List.mem_append_left _) rfl

theorem State.takesCauses_file (p : Port) (n : Notice) (s : State) : s.takesCauses (s.file p n) :=
  State.takesCauses_of_level (State.onlyCaused_of_matrix rfl) (s.onlyFiled_file p n) (fun _ => rfl) (fun _ => id) rfl

theorem State.takesCauses_fileAll (n : Notice) (s : State) : s.takesCauses (s.fileAll n) :=
  ((s.takesCauses_file .s n).trans (State.takesCauses_file .a n _)).trans (State.takesCauses_file .b n _)

theorem State.takesCauses_onRise (before after : Bool) {f : State → State} {s : State}
    (h : before = false → after = true → s.takesCauses (f s)) : s.takesCauses (s.onRise before after f) := by
  cases before <;> cases after
  case false.true => exact h rfl rfl
  all_goals exact .refl s

theorem State.tellLevel_events (l : Lane) (v : HoldLevel) (s : State) : (s.tellLevel l v).events = s.events ++
    match v with
    | .none | .soft => [.softHoldCap l]
    | .hard => [.hardHoldVent l, .hardHoldBarEmpty l, .hardHoldWithdraw l] := by
  cases v <;> simp [State.tellLevel]

theorem State.holdEntered_events (l : Lane) (v : HoldLevel) (s : State) :
    (s.holdEntered l v).events = (s.tellLevel l v).events := by
  rw [State.holdEntered, State.tellLevel_events, State.tellLevel_events]
  rfl

/-- A cause is taken with the severity that its kind is added with. -/
theorem State.takesCauses_addCause (l : Lane) (e : CauseEntry) (s : State)
    (h : s.addsAt l e.kind = some e.severity) : s.takesCauses (s.addCause l e) := by
  have frame : s.addCause l e =
      { s with matrix := (s.addCause l e).matrix, links := (s.addCause l e).links, events := (s.addCause l e).events } := by
    unfold State.addCause State.addCauseWith State.holdEntered State.tellLevel
    simp only
    (repeat' split) <;> rfl
  have matrix : (s.addCause l e).matrix = { s.matrix with causes := (s.addCause l e).matrix.causes } := by
    unfold State.addCause State.addCauseWith
    simp only
    split <;> simp [State.setCauses]
  have adds : (s.addCause l e).addsAt l e.kind = s.addsAt l e.kind := by
    unfold State.addsAt
    rw [frame, matrix]
  refine ⟨⟨by rw [matrix], fun j x hx => ?_, fun j x hx => ?_, fun c hc => ?_⟩, ?_, fun j hj => ?_, fun x hx => ?_, frame⟩
  · rw [State.addCause_causes]
    split
    · next hjl => exact addEntry_keeps (hjl ▸ hx)
    · exact ⟨x, hx, rfl, id⟩
  · rw [State.addCause_causes] at hx
    split at hx
    · next hjl =>
      subst hjl
      rcases mem_addEntry_cases hx with ⟨kind, sev⟩ | hold
      · exact .inl (by rw [kind, sev, adds, h])
      · exact .inr hold
    · exact .inr ⟨x, hx, rfl, rfl⟩
  · rwa [matrix]
  · unfold State.addCause State.addCauseWith
    simp only
    split
    · exact State.onlyFiled_of_links rfl
    · refine ((State.onlyFiled_of_links rfl).trans ((State.onlyFiled_file l.port .holdEntered _).trans
        (State.onlyFiled_file .s .holdEntered _))).trans (State.onlyFiled_of_links ?_)
      unfold State.holdEntered
      exact State.tellLevel_links _ _ _
  · by_cases hjl : j = l
    · subst hjl
      unfold State.addCause State.addCauseWith at hj ⊢
      simp only at hj ⊢
      split at hj
      · next same => exact absurd same hj
      · next hne =>
        rw [if_neg hne]
        have level : ∀ v, (State.holdEntered j v (s.setCauses j (addEntry e (s.causes j)))).holdLevel j =
            (s.setCauses j (addEntry e (s.causes j))).holdLevel j := fun v => by
          rw [State.holdLevel, State.holdLevel, State.holdEntered_causes]
        rw [level]
        refine ⟨?_, ?_, fun hs => ?_, fun hh => ?_⟩
        · rw [State.holdEntered_port, State.mem_file, State.mem_file]; simp
        · rw [State.holdEntered_port, State.mem_file, State.mem_file]; simp
        · rw [hs, State.holdEntered_events, State.tellLevel_events]; simp
        · rw [hh, State.holdEntered_events, State.tellLevel_events]; simp
    · exact absurd (State.addCause_other l j e s hjl) hj
  · exact State.event_addCause l e s x hx

theorem State.takesCauses_tripCause (c : TripCause) (s : State) : s.takesCauses (s.tripCause c) := by
  have joined : s.takesCauses
      (s.modMatrix fun m => { m with tripCauses := insertTrip c m.tripCauses, station := .tripped }) := by
    refine State.takesCauses_of_level ⟨rfl, fun l e he => ⟨e, he, rfl, id⟩, fun l x hx => .inr ⟨x, hx, rfl, rfl⟩, ?_⟩
      (State.onlyFiled_of_links rfl) (fun _ => rfl) (fun _ => id) rfl
    intro x hx
    show x ∈ insertTrip c s.matrix.tripCauses
    unfold insertTrip
    split
    · exact hx
    · exact List.mem_append_left _ hx
  unfold State.tripCause
  simp only
  split
  · exact joined
  · have added : ∀ u : State, u.takesCauses (u.addCauseBoth (causeEntry .trip .hard)) := fun u =>
      (u.takesCauses_addCause .a _ rfl).trans (State.takesCauses_addCause .b _ _ rfl)
    exact (((joined.trans (State.takesCauses_fileAll _ _)).trans (added _)).trans
      (State.takesCauses_raise _ _)).trans (State.takesCauses_raise _ _)

/-! ### What a trip files -/

theorem State.mem_addCause_of_ne {x : Notice} (hx : x ≠ .holdEntered) (l : Lane) (e : CauseEntry) (s : State) (p : Port) :
    x ∈ ((s.addCause l e).port p).notices ↔ x ∈ (s.port p).notices := by
  unfold State.addCause State.addCauseWith
  simp only
  split
  · rfl
  · rw [State.holdEntered_port, State.mem_file, State.mem_file]
    simp [hx]
    rfl

/-- A trip files TRIP_ENTERED and HOLD_ENTERED alone. -/
theorem State.mem_tripCause_of_ne {x : Notice} (ht : x ≠ .tripEntered) (hh : x ≠ .holdEntered) (c : TripCause) (s : State)
    (p : Port) : x ∈ ((s.tripCause c).port p).notices ↔ x ∈ (s.port p).notices := by
  unfold State.tripCause
  simp only
  split
  · rfl
  · simp only [State.raise_port, State.addCauseBoth, State.mem_addCause_of_ne hh, State.mem_fileAll]
    simp [ht]

/-- What a trip makes of the state depends on the state before only by its matrix and its events. -/
theorem State.tripsTo.congr {s v t : State} {c : TripCause} (h : v.tripsTo c t) (hm : v.matrix = s.matrix)
    (he : v.events = s.events) : s.tripsTo c t := by
  unfold State.tripsTo State.holdLevel State.causes at h ⊢
  rwa [hm, he] at h

end Sys2Proof.Machine


/-!
The platen's counts and index edges (O17, O18, O21, O22).
-/

namespace Sys2Proof.Machine
open Sys2Proof

/-! ### A change of the tracker's state -/

theorem State.takesCauses_trackerChanged (before : TrackerState) (s : State) :
    s.takesCauses (s.trackerChanged before) := by
  unfold State.trackerChanged
  simp only
  (repeat' split)
  · exact .refl s
  · exact (s.takesCauses_fileAll _).trans (State.takesCauses_tripCause _ _)
  · exact (s.takesCauses_fileAll _).trans (State.takesCauses_tripCause _ _)
  · exact s.takesCauses_fileAll _
  · exact s.takesCauses_fileAll _

/-- A change of state files PLATEN_STATE, and beside the trip's notices nothing else (R33). -/
theorem State.mem_trackerChanged {x : Notice} (ht : x ≠ .tripEntered) (hh : x ≠ .holdEntered) (before : TrackerState)
    (s : State) (p : Port) : x ∈ ((s.trackerChanged before).port p).notices ↔
      (x = .platenState ∧ s.tracker.state ≠ before) ∨ x ∈ (s.port p).notices := by
  have told : x ∈ ((s.fileAll .platenState).port p).notices ↔ x = .platenState ∨ x ∈ (s.port p).notices :=
    State.mem_fileAll _ _ _ _
  unfold State.trackerChanged
  simp only
  by_cases hb : s.tracker.state = before
  · simp [hb]
  · rw [if_neg hb]
    split <;> simp [State.mem_tripCause_of_ne ht hh, told, hb]

/-- The trip cause of a state of the tracker (R157). -/
def TrackerState.trip : TrackerState → Option TripCause
  | .stalled => some .platenStall
  | .lost => some .platenLost
  | .unhomed | .tracking => none

theorem State.trackerChanged_tripsTo {before : TrackerState} {s : State} {c : TripCause}
    (hc : s.tracker.state.trip = some c) (hb : s.tracker.state ≠ before) : s.tripsTo c (s.trackerChanged before) := by
  have told : ∀ d, s.tripsTo d ((s.fileAll .platenState).tripCause d) := fun d =>
    (State.tripCause_tripsTo _ d).congr rfl rfl
  unfold State.trackerChanged
  rw [if_neg hb]
  cases hs : s.tracker.state with
  | stalled => rw [hs] at hc; cases hc; exact told _
  | lost => rw [hs] at hc; cases hc; exact told _
  | unhomed | tracking => rw [hs] at hc; cases hc

/-- A state that is kept, or that trips nothing, leaves the matrix and the outstanding events. -/
theorem State.trackerChanged_untripped {before : TrackerState} {s : State}
    (h : s.tracker.state = before ∨ s.tracker.state.trip = none) :
    (s.trackerChanged before).matrix = s.matrix ∧ (s.trackerChanged before).events = s.events := by
  unfold State.trackerChanged
  simp only
  by_cases hb : s.tracker.state = before
  · simp [hb]
  · have hn := h.resolve_left hb
    rw [if_neg hb]
    cases hs : s.tracker.state with
    | stalled | lost => rw [hs] at hn; cases hn
    | unhomed | tracking => exact ⟨rfl, rfl⟩

/-! ### The close of a revolution -/

/-- A revolution that is suspect is discarded (R51). -/
theorem State.closeRevolution_suspect {v : Bool} (o : Bool) {s : State} (h : s.accrue.closeSuspect v = true) :
    s.closeRevolution v o = { s with map := { s.map.clearTallies with suspect := o } } := by
  unfold State.closeRevolution
  simp only
  rw [if_pos h]
  rfl

theorem State.onlyFiled_closeRevolution (v o : Bool) (s : State) : s.onlyFiled (s.closeRevolution v o) := by
  unfold State.closeRevolution
  simp only
  refine State.onlyFiled.trans ?_ (State.onlyFiled_of_links rfl)
  split
  · exact State.onlyFiled_of_links rfl
  · exact (State.onlyFiled_of_links rfl : s.onlyFiled s.accrue).trans (State.onlyFiled_validClose _)

theorem State.closeRevolution_frame (v o : Bool) (s : State) : s.closeRevolution v o = { s with
    map := (s.closeRevolution v o).map, links := (s.closeRevolution v o).links
    events := (s.closeRevolution v o).events } := by
  unfold State.closeRevolution State.validClose State.issueUpdated State.closeNotices State.onRise State.fileAll
  simp only
  (repeat' split) <;> rfl

/-- Beside the three notices of the map a close files nothing. -/
theorem State.mem_closeRevolution {x : Notice} (hx : x ∉ [Notice.glaze, .glazeUnder, .padSpent]) (v o : Bool) (s : State)
    (p : Port) : x ∈ ((s.closeRevolution v o).port p).notices ↔ x ∈ (s.port p).notices := by
  simp only [List.mem_cons, List.not_mem_nil, or_false, not_or] at hx
  obtain ⟨glaze, under, spent⟩ := hx
  unfold State.closeRevolution
  simp only
  split
  · rfl
  · have closed : ∀ u : State, x ∈ (u.validClose.port p).notices ↔ x ∈ (u.port p).notices := fun u => by
      rw [State.port, State.validClose_links]
      refine (State.mem_closeNotices _ _ p x).trans ?_
      simp [glaze, under, spent]
    exact closed _

/-! ### The measurement -/

/-- The tracker's record once a clean revolution has measured the speed (R34, R35). -/
def Tracker.measured (g : TrackerSettings) (k : IndexKind) (t : Tracker) : Tracker :=
  if t.cleanRevolution k then
    { t with
      period := t.periodTimer
      speed := speedOf t.periodTimer
      inWindow := speedInWindow g (speedOf t.periodTimer) }
  else t

theorem Tracker.measured_frame (g : TrackerSettings) (k : IndexKind) (t : Tracker) : t.measured g k =
    { t with period := (t.measured g k).period, speed := (t.measured g k).speed, inWindow := (t.measured g k).inWindow } := by
  unfold Tracker.measured
  split <;> rfl

/-- The measurement does not bear on the next revolution but for the speed. -/
theorem Tracker.measured_beginNext (g : TrackerSettings) (k : IndexKind) (t : Tracker) :
    (t.measured g k).beginNext k = { t.beginNext k with
      period := (t.measured g k).period, speed := (t.measured g k).speed, inWindow := (t.measured g k).inWindow } := by
  rw [Tracker.measured_frame]
  rfl

theorem State.evaluateWindow_tracker (s : State) : s.evaluateWindow.tracker =
    { s.tracker with inWindow := speedInWindow s.settings.tracker s.tracker.speed } := by
  unfold State.evaluateWindow
  simp only
  split <;> simp

/-- A change of the in-window flag files SPEED_WINDOW to every port, and nothing else is filed (R35). -/
theorem State.mem_evaluateWindow (s : State) (p : Port) (x : Notice) : x ∈ (s.evaluateWindow.port p).notices ↔
    (x = .speedWindow ∧ s.evaluateWindow.tracker.inWindow ≠ s.tracker.inWindow) ∨ x ∈ (s.port p).notices := by
  rw [State.evaluateWindow_tracker]
  unfold State.evaluateWindow
  simp only
  split
  · next h => simp [h]
  · next h =>
    rw [State.mem_fileAll]
    simp [h]

/-- What the map and the measurement make of an index event, before the tracker begins the next revolution. -/
def State.closedAt (k : IndexKind) (s : State) : State :=
  let closed := s.closeRevolution (s.tracker.verdictSuspect k) (s.tracker.stateAfter k).outside
  if s.tracker.cleanRevolution k then closed.measureSpeed s.tracker.periodTimer else closed

theorem State.indexEvent_eq (k : IndexKind) (s : State) : s.indexEvent k =
    (((s.closedAt k).modTracker (·.beginNext k)).trackerChanged s.tracker.state).raise .indexProfileApply := rfl

theorem State.closedAt_tracker (k : IndexKind) (s : State) :
    (s.closedAt k).tracker = s.tracker.measured s.settings.tracker k := by
  unfold State.closedAt Tracker.measured State.measureSpeed
  simp only
  split
  · rw [State.evaluateWindow_tracker, State.modTracker_tracker, State.closeRevolution_tracker, State.modTracker_settings,
      State.closeRevolution_settings]
  · exact State.closeRevolution_tracker _ _ s

theorem State.closedAt_frame (k : IndexKind) (s : State) : s.closedAt k = { s with
    map := (s.closedAt k).map, tracker := (s.closedAt k).tracker, links := (s.closedAt k).links
    events := (s.closedAt k).events } := by
  have measured : ∀ n (u : State), u.measureSpeed n =
      { u with tracker := (u.measureSpeed n).tracker, links := (u.measureSpeed n).links } := fun n u => by
    unfold State.measureSpeed State.evaluateWindow State.fileAll
    simp only
    split <;> rfl
  unfold State.closedAt
  simp only
  split
  · rw [measured, State.closeRevolution_frame]
  · rw [State.closeRevolution_frame]

theorem State.onlyFiled_closedAt (k : IndexKind) (s : State) : s.onlyFiled (s.closedAt k) := by
  unfold State.closedAt
  simp only
  split
  · exact (s.onlyFiled_closeRevolution _ _).trans (State.onlyFiled_measureSpeed _ _)
  · exact s.onlyFiled_closeRevolution _ _

/-- Beside the three notices of the map SPEED_WINDOW is filed, exactly on a change of the in-window flag (R35). -/
theorem State.mem_closedAt {x : Notice} (hx : x ∉ [Notice.glaze, .glazeUnder, .padSpent]) (k : IndexKind) (s : State)
    (p : Port) : x ∈ ((s.closedAt k).port p).notices ↔
      (x = .speedWindow ∧ (s.closedAt k).tracker.inWindow ≠ s.tracker.inWindow) ∨ x ∈ (s.port p).notices := by
  have closed := s.mem_closeRevolution hx (s.tracker.verdictSuspect k) (s.tracker.stateAfter k).outside p
  unfold State.closedAt
  simp only
  split
  · unfold State.measureSpeed
    rw [State.mem_evaluateWindow, State.modTracker_tracker, State.closeRevolution_tracker]
    exact or_congr Iff.rfl closed
  · rw [State.closeRevolution_tracker, closed]
    simp

/-- An index event with a suspect verdict discards what was accrued, and measures the speed where the revolution was clean. -/
theorem State.closedAt_suspect {k : IndexKind} {s : State} (h : s.tracker.verdictSuspect k = true) :
    (s.closedAt k).map = { s.map.clearTallies with suspect := (s.tracker.stateAfter k).outside } ∧
      (s.closedAt k).events = s.events := by
  have suspect : s.accrue.closeSuspect (s.tracker.verdictSuspect k) = true := by simp [State.closeSuspect, h]
  unfold State.closedAt State.measureSpeed
  rw [State.closeRevolution_suspect _ suspect]
  simp only
  split <;> simp

theorem Tracker.enters_lost {t : Tracker} {k : IndexKind} (h : t.stateAfter k = .lost) (hl : t.state ≠ .lost) :
    t.verdictSuspect k = true := by
  by_contra hv
  have run : t.runAfter k = 0 := by rw [Tracker.runAfter, if_neg hv]
  unfold Tracker.stateAfter at h
  rw [run] at h
  cases hs : t.state <;> simp_all

/-! ### The whole index event -/

section
variable (k : IndexKind) (s : State)

theorem State.indexEvent_tracker :
    (s.indexEvent k).tracker = (s.tracker.measured s.settings.tracker k).beginNext k := by
  rw [State.indexEvent_eq, State.raise_tracker, State.trackerChanged_tracker, State.modTracker_tracker,
    State.closedAt_tracker]

theorem State.indexEvent_state : (s.indexEvent k).tracker.state = s.tracker.stateAfter k := by
  rw [State.indexEvent_tracker, Tracker.measured_beginNext]
  rfl

theorem State.indexEvent_map : (s.indexEvent k).map = (s.closedAt k).map := by
  rw [State.indexEvent_eq, State.raise_map, State.trackerChanged_map, State.modTracker_map]

/-- The tracker's record is put, and then a changed state is told. -/
theorem State.indexEvent_takesCauses : ((s.closedAt k).modTracker (·.beginNext k)).takesCauses (s.indexEvent k) :=
  (State.takesCauses_trackerChanged _ _).trans (State.takesCauses_raise _ _)

theorem State.closedAt_matrix : (s.closedAt k).matrix = s.matrix := by
  rw [State.closedAt_frame]

theorem State.onlyFiled_indexEvent : s.onlyFiled (s.indexEvent k) :=
  ((s.onlyFiled_closedAt k).trans (State.onlyFiled_of_links rfl)).trans (s.indexEvent_takesCauses k).filed

theorem State.onlyCaused_indexEvent : s.onlyCaused (s.indexEvent k) :=
  (s.indexEvent_takesCauses k).caused.congr (s.closedAt_matrix k)

theorem State.indexEvent_frame : s.indexEvent k = { s with
    map := (s.indexEvent k).map, tracker := (s.indexEvent k).tracker, matrix := (s.indexEvent k).matrix
    links := (s.indexEvent k).links, events := (s.indexEvent k).events } := by
  have frame := (s.indexEvent_takesCauses k).frame
  rw [State.closedAt_frame] at frame
  have map : (s.indexEvent k).map = _ := congrArg State.map frame
  have tracker : (s.indexEvent k).tracker = _ := congrArg State.tracker frame
  rw [map, tracker]
  exact frame

theorem State.closedAt_beginNext_state : ((s.closedAt k).modTracker (·.beginNext k)).tracker.state =
    s.tracker.stateAfter k := by
  rw [State.modTracker_tracker, State.closedAt_tracker, Tracker.measured_beginNext]
  rfl

/-- An index event files PLATEN_STATE on a change of state, SPEED_WINDOW on one of the window flag, and beside them only the
notices of the map and of a trip. -/
theorem State.mem_indexEvent {x : Notice}
    (hx : x ∉ [Notice.glaze, .glazeUnder, .padSpent, .tripEntered, .holdEntered]) (p : Port) :
    x ∈ ((s.indexEvent k).port p).notices ↔
      (x = .platenState ∧ (s.indexEvent k).tracker.state ≠ s.tracker.state) ∨
        (x = .speedWindow ∧ (s.indexEvent k).tracker.inWindow ≠ s.tracker.inWindow) ∨ x ∈ (s.port p).notices := by
  simp only [List.mem_cons, List.not_mem_nil, or_false, not_or] at hx
  obtain ⟨glaze, under, spent, trip, hold⟩ := hx
  have window : (s.indexEvent k).tracker.inWindow = (s.closedAt k).tracker.inWindow := by
    rw [State.indexEvent_tracker, State.closedAt_tracker]
    rfl
  rw [State.indexEvent_state, window, State.indexEvent_eq, State.raise_port, State.mem_trackerChanged trip hold,
    State.closedAt_beginNext_state]
  exact or_congr Iff.rfl (s.mem_closedAt (by simp [glaze, under, spent]) k p)

/-- A suspect verdict files none of the notices of the map. -/
theorem State.mem_indexEvent_suspect {x : Notice} (hv : s.tracker.verdictSuspect k = true)
    (hx : x ∈ [Notice.glaze, .glazeUnder, .padSpent]) (p : Port) :
    x ∈ ((s.indexEvent k).port p).notices ↔ x ∈ (s.port p).notices := by
  have ne : x ≠ .tripEntered ∧ x ≠ .holdEntered ∧ x ≠ .platenState ∧ x ≠ .speedWindow := by
    refine ⟨?_, ?_, ?_, ?_⟩ <;> rintro rfl <;> simp at hx
  obtain ⟨trip, hold, state, window⟩ := ne
  have suspect : s.accrue.closeSuspect (s.tracker.verdictSuspect k) = true := by simp [State.closeSuspect, hv]
  rw [State.indexEvent_eq, State.raise_port, State.mem_trackerChanged trip hold]
  simp only [state, false_and, false_or]
  show x ∈ ((s.closedAt k).port p).notices ↔ _
  unfold State.closedAt
  rw [State.closeRevolution_suspect _ suspect]
  simp only
  split
  · rw [State.mem_measureSpeed window]
    rfl
  · rfl

/-- Entering LOST is the trip PLATEN_LOST (R29, R157). -/
theorem State.indexEvent_enters_lost (h : (s.indexEvent k).tracker.state = .lost) (hl : s.tracker.state ≠ .lost) :
    (s.indexEvent k).events = (s.indexEvent k).events.dropLast ++ [.indexProfileApply] ∧
      s.tripsTo .platenLost { s.indexEvent k with events := (s.indexEvent k).events.dropLast } := by
  rw [State.indexEvent_state] at h
  have state := s.closedAt_beginNext_state k
  have trips := State.trackerChanged_tripsTo (s := (s.closedAt k).modTracker (·.beginNext k)) (c := .platenLost)
    (before := s.tracker.state) (by rw [state, h]; rfl) (by rw [state, h]; exact hl.symm)
  rw [State.indexEvent_eq]
  simp only [State.raise_events, List.dropLast_concat]
  exact ⟨trivial, trips.congr (s.closedAt_matrix k) (State.closedAt_suspect (Tracker.enters_lost h hl)).2⟩

theorem Tracker.stateAfter_trip (t : Tracker) : t.stateAfter k = .lost ∨ (t.stateAfter k).trip = none := by
  have after : ∀ (c : Prop) [Decidable c] (x : TrackerState), x.trip = none → (if c then TrackerState.lost else x) = .lost ∨
      (if c then TrackerState.lost else x).trip = none := fun c _ x hx => by
    split
    · exact .inl rfl
    · exact .inr hx
  unfold Tracker.stateAfter
  cases t.state with
  | unhomed => exact .inr rfl
  | tracking => exact after _ _ rfl
  | stalled => exact after _ _ rfl
  | lost =>
    cases t.cleanRevolution k
    · exact .inl rfl
    · exact .inr rfl

/-- Outside of an entry of LOST the matrix stays, and the events but for the one that every index event raises. -/
theorem State.indexEvent_untripped (h : (s.indexEvent k).tracker.state ≠ .lost ∨ s.tracker.state = .lost) :
    (s.indexEvent k).matrix = s.matrix ∧ (s.indexEvent k).events = (s.closedAt k).events ++ [.indexProfileApply] := by
  rw [State.indexEvent_state] at h
  have state := s.closedAt_beginNext_state k
  have kept := State.trackerChanged_untripped (s := (s.closedAt k).modTracker (·.beginNext k))
    (before := s.tracker.state) (by
      rw [state]
      rcases s.tracker.stateAfter_trip k with hl | ht
      · exact .inl (hl.trans (h.resolve_left (not_not_intro hl)).symm)
      · exact .inr ht)
  rw [State.indexEvent_eq]
  exact ⟨kept.1.trans (s.closedAt_matrix k), congrArg (· ++ [Event.indexProfileApply]) kept.2⟩

end

/-! ### The obligations -/

theorem State.accrue_eq (s : State) : s.accrue = { s with map := { s.map with
    tally := (List.range 20).map fun k => s.map.tally.getD k 0 + s.laneWork .a k + s.laneWork .b k
    cut := (List.range 20).map fun k => s.map.cut.getD k 0 + s.diskWork k
    dryMarks := ⟨s.map.dryMarks.a + (if s.dryContact .a then 1 else 0),
      s.map.dryMarks.b + (if s.dryContact .b then 1 else 0)⟩
    cutMark := s.map.cutMark || decide (s.cond.state = .dwelling ∨ s.cond.state = .sweeping) } } := by
  have cutting : s.cond.state.cutting = decide (s.cond.state = .dwelling ∨ s.cond.state = .sweeping) :=
    Bool.eq_iff_iff.2 (by simp [CondState.cutting_iff])
  have marks : ∀ b : Bool, b.toNat = if b then 1 else 0 := fun b => by cases b <;> rfl
  rw [← cutting, ← marks, ← marks]
  rfl

theorem State.platenCount_homed {e : PlatenEdge} {s : State} (h : s.tracker.state ≠ .unhomed) :
    s.platenCount e = match e with
      | .forward => s.forwardCount
      | .reverse => s.reverseCount
      | .undirected => s.disturb := by
  unfold State.platenCount
  cases hs : s.tracker.state with
  | unhomed => exact absurd hs h
  | tracking | lost | stalled => cases e <;> rfl

theorem exec_platenEncoderCount {s₀ s : State} (hs : s₀.settled = s) (e : PlatenEdge) :
    exec (.platenEncoderCount e) s₀ = .next (s.platenCount e) := by
  rw [← hs]
  rfl

theorem exec_indexEdge {s₀ s : State} (hs : s₀.settled = s) (elapsed : Nat) :
    exec (.indexEdge elapsed) s₀ = .next (s.indexEdge elapsed) := by
  rw [← hs]
  rfl

/-- Settles O17: a forward count moves the angle, and accrues where it reaches the pointer. -/
theorem forwardCount : Obligations.ForwardCount := by
  intro s₀ s hs hu hangle
  rw [exec_platenEncoderCount hs, State.platenCount_homed hu]
  have short : ¬ s.tracker.angle + 1 = 16389 := by omega
  simp only [State.forwardCount, if_neg short]
  refine ⟨fun hmark hlast => ?_, fun hno => ?_⟩
  · rw [State.sectorMark, if_pos ⟨hmark, hlast⟩, State.accrue_eq]
    rfl
  · rw [State.sectorMark, if_neg]
    · rfl
    · rintro ⟨hmark, hlast⟩
      exact hno.elim (fun h => h hmark) fun h => absurd hlast (by simpa using h)

theorem crossesBoundary_iff (a : Int) : crossesBoundary a = true ↔ 0 ≤ a ∧ a ≤ 15360 ∧ (1024 : Int) ∣ a := by
  rw [crossesBoundary, Bool.and_eq_true, Bool.and_eq_true, decide_eq_true_eq, decide_eq_true_eq, decide_eq_true_eq,
    and_assoc, ← Int.dvd_iff_emod_eq_zero]

/-- A synthetic index event's verdict is suspect, its revolution is not clean, and the third suspect close in a row, or one in
LOST, is followed by LOST (R25, R28 to R30). -/
theorem Tracker.synthetic_close (t : Tracker) (h : t.state ≠ .unhomed) : t.verdictSuspect .synthetic = true ∧
    t.cleanRevolution .synthetic = false ∧ t.runAfter .synthetic = min 3 (t.suspectRun + 1) ∧
    t.stateAfter .synthetic = if t.state = .lost ∨ min 3 (t.suspectRun + 1) = 3 then .lost else .tracking := by
  have verdict : t.verdictSuspect .synthetic = true := by simp [Tracker.verdictSuspect]
  have clean : t.cleanRevolution .synthetic = false := by simp [Tracker.cleanRevolution]
  have run : t.runAfter .synthetic = min 3 (t.suspectRun + 1) := by simp [Tracker.runAfter, verdict, clean]
  refine ⟨verdict, clean, run, ?_⟩
  unfold Tracker.stateAfter
  rw [run, clean]
  cases hs : t.state with
  | unhomed => exact absurd hs h
  | tracking | stalled | lost => simp

theorem TrackerState.outside_iff_lost {t : Tracker} {k : IndexKind} :
    (t.stateAfter k).outside = decide (t.stateAfter k = .lost) := by
  rcases t.stateAfter_trip k with h | h
  · rw [h]; rfl
  · cases hs : t.stateAfter k with
    | unhomed | tracking => rfl
    | stalled | lost => rw [hs] at h; cases h

/-- Settles O18: each count is one branch of the count's rule, and the synthetic index an index event with a suspect verdict. -/
theorem otherPlatenCounts : Obligations.OtherPlatenCounts := by
  refine ⟨fun s₀ s hs => ⟨fun hu e => ?_, fun hu hlow => ⟨fun hno => ?_, fun h0 hlast hdvd hrev => ?_⟩, fun hu => ?_⟩,
    fun e s₀ s hs hu hend => ?_⟩
  · rw [exec_platenEncoderCount hs]
    unfold State.platenCount
    simp only [hu]
  · have short : ¬ s.tracker.angle - 1 = -16384 := by omega
    rw [exec_platenEncoderCount hs, State.platenCount_homed hu]
    simp only [State.reverseCount, if_neg short]
    split
    · next hc =>
      have hrev := hno.resolve_left (not_not_intro ((crossesBoundary_iff _).1 hc))
      rw [State.reverseCrossing, if_pos (by simpa using hrev)]
      rfl
    · rfl
  · have short : ¬ s.tracker.angle - 1 = -16384 := by omega
    rw [exec_platenEncoderCount hs, State.platenCount_homed hu]
    simp only [State.reverseCount, if_neg short]
    rw [if_pos ((crossesBoundary_iff _).2 ⟨h0, hlast, hdvd⟩), State.reverseCrossing, if_neg (by simp [hrev])]
    rfl
  · rw [exec_platenEncoderCount hs, State.platenCount_homed hu]
    rfl
  · obtain ⟨verdict, clean, run, state⟩ := s.tracker.synthetic_close hu
    have row : exec (.platenEncoderCount e) s₀ = .next (s.indexEvent .synthetic) := by
      rw [exec_platenEncoderCount hs, State.platenCount_homed hu]
      rcases hend with ⟨rfl, ha⟩ | ⟨rfl, ha⟩
      · simp only [State.forwardCount]
        rw [if_pos (by omega)]
      · simp only [State.reverseCount]
        rw [if_pos (by omega)]
    obtain ⟨map, events⟩ := State.closedAt_suspect verdict
    have after := s.indexEvent_state .synthetic
    refine ⟨_, row, ?_, ?_, fun p => ?_, fun p n hn => s.mem_indexEvent_suspect .synthetic verdict hn p,
      s.indexEvent_enters_lost .synthetic, fun h => ?_, s.onlyFiled_indexEvent _, s.onlyCaused_indexEvent _,
      s.indexEvent_frame _⟩
    · rw [State.indexEvent_tracker, Tracker.measured, clean, if_neg Bool.false_ne_true, Tracker.beginNext,
        TrackerState.outside_iff_lost, run, state]
    · rw [State.indexEvent_map, map, after, TrackerState.outside_iff_lost]
      rfl
    · rw [s.mem_indexEvent .synthetic (by decide)]
      simp [or_comm]
    · obtain ⟨matrix, raised⟩ := s.indexEvent_untripped .synthetic h
      exact ⟨matrix, by rw [raised, events]⟩

/-- The tracker's record once it has stalled (R31). -/
def Tracker.stalled (t : Tracker) : Tracker :=
  { t with state := .stalled, stallTimer := none, platenSuspect := true, disturbed := true }

/-- `s` with the stall in the records, and nothing told of it yet. -/
def State.stalledRecord (s : State) : State :=
  { s with tracker := s.tracker.stalled, map := { s.map with suspect := true } }

theorem State.enterStalled_eq {s : State} (ht : s.tracker.state = .tracking ∨ s.tracker.state = .lost) :
    s.enterStalled = s.stalledRecord.trackerChanged s.tracker.state := by
  rw [State.enterStalled]
  rcases ht with h | h <;> rw [h] <;> rfl

/-- The stall from TRACKING or LOST (R31, R33, R157). -/
theorem State.enterStalled_stalls {s : State} (ht : s.tracker.state = .tracking ∨ s.tracker.state = .lost) :
    s.stalledRecord.takesCauses s.enterStalled ∧ s.enterStalled.tracker = s.tracker.stalled ∧
      s.enterStalled.map = { s.map with suspect := true } ∧ (∀ p, .platenState ∈ (s.enterStalled.port p).notices) ∧
      s.tripsTo .platenStall s.enterStalled := by
  have entered : s.stalledRecord.tracker.state ≠ s.tracker.state := by
    rcases ht with h | h <;> rw [h] <;> exact nofun
  rw [State.enterStalled_eq ht]
  refine ⟨State.takesCauses_trackerChanged _ _, State.trackerChanged_tracker _ _, State.trackerChanged_map _ _,
    fun p => ?_, ?_⟩
  · exact (State.mem_trackerChanged (by decide) (by decide) _ _ p).2 (.inl ⟨rfl, entered⟩)
  · exact (State.trackerChanged_tripsTo (c := .platenStall) rfl entered).congr rfl rfl

/-- Settles O22: the start index and the stall are a record put, and a changed state told. -/
theorem startIndexAndStall : Obligations.StartIndexAndStall := by
  refine ⟨fun elapsed s₀ s hs hu => ?_, fun s₀ s hs ht hrun => ?_⟩
  · rw [exec_indexEdge hs, State.indexEdge, hu]
    rfl
  · have row : exec .stallTimerExpiry s₀ = .next s.enterStalled := by
      show Host.Outcome.next s₀.settled.stallExpiry = _
      rw [hs, State.stallExpiry, if_pos hrun]
    obtain ⟨takes, tracker, map, told, trips⟩ := State.enterStalled_stalls ht
    refine ⟨_, row, tracker, map, told, trips, (State.onlyFiled_of_links rfl).trans takes.filed,
      takes.caused.congr rfl, ?_⟩
    rw [tracker, map]
    exact takes.frame

/-- An edge short of the clean angle, or in a suspect revolution, has a suspect verdict (R24, R28). -/
theorem Tracker.edge_verdictSuspect_iff (t : Tracker) :
    t.verdictSuspect (indexKindOf t.angle) = true ↔ t.angle < 16380 ∨ t.platenSuspect = true := by
  unfold Tracker.verdictSuspect indexKindOf
  split <;> simp <;> omega

theorem Tracker.edge_cleanRevolution_iff (t : Tracker) :
    t.cleanRevolution (indexKindOf t.angle) = true ↔ 16380 ≤ t.angle ∧ t.disturbed = false := by
  unfold Tracker.cleanRevolution indexKindOf
  split <;> simp <;> omega

theorem speedOf_pos {n : Nat} (h : 0 < n) : speedOf n = min 65535 (600000000 / n) := by
  rw [speedOf, if_neg (by omega)]

/-- Settles O21: the clauses about the record are the rules of the record that an index event begins, and the others are what
an index event files and trips. -/
theorem trackerClose : Obligations.TrackerClose := by
  intro elapsed s₀ s hs hu
  set u := s.modTracker fun t => { t with periodTimer := advancePeriod t.periodTimer elapsed } with hu'
  set k := indexKindOf s.tracker.angle with hk
  have row : exec (.indexEdge elapsed) s₀ = .next (u.indexEvent k) := by
    rw [exec_indexEdge hs, State.indexEdge]
    cases h : s.tracker.state with
    | unhomed => exact absurd h hu
    | tracking | lost | stalled => rfl
  have verdict : s.tracker.verdictSuspect k = true ↔ _ := s.tracker.edge_verdictSuspect_iff
  have clean : s.tracker.cleanRevolution k = true ↔ _ := s.tracker.edge_cleanRevolution_iff
  have record := u.indexEvent_tracker k
  rw [Tracker.measured_beginNext] at record
  have state : (u.indexEvent k).tracker.state = s.tracker.stateAfter k := u.indexEvent_state k
  have run : (u.indexEvent k).tracker.suspectRun = s.tracker.runAfter k := by rw [record]; rfl
  have notices := fun p x hx => u.mem_indexEvent k (x := x) hx p
  refine ⟨_, row, fun hsus hno => ?_, fun hl ha hd => ?_, fun hl hno => ?_, fun ha hp => ?_, fun hst => ?_,
    fun ha hd hpos => ?_, fun hno => ?_, ?_, ?_, ?_, ?_, ?_, ?_, ?_, ?_, fun p => ⟨?_, ?_⟩, u.indexEvent_enters_lost k,
    fun h => (u.indexEvent_untripped k h).1, (State.onlyFiled_of_links rfl).trans (u.onlyFiled_indexEvent k),
    (u.onlyCaused_indexEvent k).congr rfl, u.indexEvent_frame k⟩
  · rw [run, Tracker.runAfter, if_pos (verdict.2 hsus), if_neg]
    exact fun ⟨hl, hc⟩ => hno ⟨hl, clean.1 hc⟩
  · have hc := clean.2 ⟨ha, hd⟩
    rw [run, state, Tracker.runAfter, Tracker.stateAfter, hl, hc]
    simp
  · have hc : s.tracker.cleanRevolution k = false := by
      rw [← Bool.not_eq_true, clean]
      rintro ⟨ha, hd⟩
      exact hno.elim (fun h => absurd ha (by omega)) fun h => by simp [hd] at h
    rw [state, Tracker.stateAfter, hl, hc]
    rfl
  · rw [run, Tracker.runAfter, if_neg]
    rw [verdict]
    rintro (h | h)
    · omega
    · simp [hp] at h
  · rw [run, state, Tracker.stateAfter]
    rcases hst with h | h <;> rw [h]
  · have measured : u.tracker.measured u.settings.tracker k = _ := if_pos (clean.2 ⟨ha, hd⟩)
    have period : u.tracker.periodTimer = min 16777215 (s.tracker.periodTimer + elapsed) := rfl
    rw [record, measured, period]
    refine ⟨rfl, speedOf_pos (by omega), ?_⟩
    rw [speedInWindow, ← Bool.decide_and]
    rfl
  · have kept : u.tracker.measured u.settings.tracker k = u.tracker := by
      refine if_neg fun hc => ?_
      obtain ⟨ha, hd⟩ := clean.1 hc
      exact hno.elim (fun h => absurd ha (by omega)) fun h => by simp [hd] at h
    rw [record, kept]
    exact ⟨rfl, rfl, rfl⟩
  · rw [record]; rfl
  · rw [record]; rfl
  · rw [record]; rfl
  · rw [record]; rfl
  · rw [state, ← TrackerState.outside_iff_lost, record]; rfl
  · rw [record]; rfl
  · rw [record]; rfl
  · rw [record]; rfl
  · rw [notices p _ (by decide)]
    simp
    exact or_comm
  · rw [notices p _ (by decide)]
    simp
    exact or_comm

end Sys2Proof.Machine


/-!
The conditioner's turns: what giving the hub up, claiming it, dealing for a target, a selection and acting on the mode make
of the state (R103, R107, R108, R115).
-/

namespace Sys2Proof.Machine
open Sys2Proof

/-! ### What a turn may change -/

/-- From `s` to `t` the conditioner turns to other work, keeping its mode and its queue, and deals with the arbiter. -/
structure State.condMoved (s t : State) : Prop where
  frame : t = { s with cond := t.cond, hub := t.hub, links := t.links, events := t.events }
  filed : s.onlyFiled t
  mode : t.cond.mode = s.cond.mode
  queue : t.cond.queue = s.cond.queue

theorem State.condMoved.refl (s : State) : s.condMoved s := ⟨rfl, State.onlyFiled_of_links rfl, rfl, rfl⟩

theorem State.condMoved.trans {s t u : State} (h : s.condMoved t) (k : t.condMoved u) : s.condMoved u where
  frame := k.frame.trans (congrArg (fun v : State =>
    { v with cond := u.cond, hub := u.hub, links := u.links, events := u.events }) h.frame)
  filed := h.filed.trans k.filed
  mode := k.mode.trans h.mode
  queue := k.queue.trans h.queue

theorem State.condMoved_modCond {f : Conditioner → Conditioner} {s : State} (mode : (f s.cond).mode = s.cond.mode)
    (queue : (f s.cond).queue = s.cond.queue) : s.condMoved (s.modCond f) :=
  ⟨rfl, State.onlyFiled_of_links rfl, mode, queue⟩

theorem State.condMoved_setTarget (x : Option CondTarget) (s : State) : s.condMoved (s.setTarget x) :=
  State.condMoved_modCond rfl rfl

theorem State.condMoved_condEnter (st : CondState) (s : State) : s.condMoved (s.condEnter st) :=
  State.condMoved_modCond rfl rfl

theorem State.condMoved_startSettle (s : State) : s.condMoved s.startSettle := by
  unfold State.startSettle
  (repeat' split)
  · exact State.condMoved_modCond rfl rfl
  · exact .refl s
  · exact .refl s

theorem State.condMoved_startMove (st : CondState) (s : State) : s.condMoved (s.startMove st) :=
  (s.condMoved_condEnter st).trans (State.condMoved_startSettle _)

theorem State.condMoved_endGrant (s : State) : s.condMoved s.endGrant := by
  unfold State.endGrant
  split
  · exact ⟨rfl, State.onlyFiled_of_links rfl, rfl, rfl⟩
  · next m rest _ =>
    have told : ∀ u : State, u.condMoved (u.tellGrant m) := fun u => by
      cases m with
      | a => exact ⟨rfl, u.onlyFiled_file _ _, rfl, rfl⟩
      | b => exact ⟨rfl, u.onlyFiled_file _ _, rfl, rfl⟩
      | cond => exact ⟨rfl, State.onlyFiled_of_links rfl, rfl, rfl⟩
    have granted : s.condMoved ((s.modHub fun h => { h with waitList := rest }).grantHub m) :=
      ⟨rfl, State.onlyFiled_of_links rfl, rfl, rfl⟩
    exact granted.trans (told _)

/-! ### Giving the hub up and claiming it -/

/-- The end of a grant does not bear on the conditioner's record. -/
theorem State.endGrant_cond_comm (c : Conditioner) (s : State) :
    ({ s with cond := c } : State).endGrant = { s.endGrant with cond := c } := by
  unfold State.endGrant
  cases s.hub.waitList with
  | nil => rfl
  | cons m rest => cases m <;> rfl

theorem filter_ne_of_not_mem {m : Arm} {l : List Arm} (h : m ∉ l) : l.filter (fun x => decide (x ≠ m)) = l :=
  List.filter_eq_self.2 fun x hx => decide_eq_true fun he : x = m => h (he ▸ hx)

/-- Giving up, by what the conditioner has of the hub (R108). -/
theorem State.condGiveUp_eq (s : State) : s.condGiveUp =
    if s.hub.holder = some .cond then (if (s.arm .cond).inside then s.overtaken else s.overtaken.endGrant)
    else { s.overtaken with
      hub := { s.hub with waitList := s.hub.waitList.filter fun x => decide (x ≠ Arm.cond) } } := by
  unfold State.condGiveUp State.releaseHub
  by_cases hh : s.hub.holder = some .cond
  · rw [if_pos hh, if_pos (show s.dropGrant.hub.holder = _ from hh)]
    show (if (s.arm .cond).inside = true then _ else _ : Result × State).2 = _
    cases (s.arm .cond).inside <;> rfl
  · rw [if_neg hh, if_neg (show ¬ s.dropGrant.hub.holder = _ from hh)]
    by_cases hw : Arm.cond ∈ s.hub.waitList
    · rw [if_pos (show _ ∈ s.dropGrant.hub.waitList from hw)]
      rfl
    · rw [if_neg (show ¬ _ ∈ s.dropGrant.hub.waitList from hw), filter_ne_of_not_mem hw]
      rfl

theorem State.condMoved_condGiveUp (s : State) : s.condMoved s.condGiveUp := by
  have overtaken : s.condMoved s.overtaken := ⟨rfl, State.onlyFiled_of_links rfl, rfl, rfl⟩
  rw [State.condGiveUp_eq]
  (repeat' split)
  · exact overtaken
  · exact overtaken.trans (State.condMoved_endGrant _)
  · exact ⟨rfl, State.onlyFiled_of_links rfl, rfl, rfl⟩

theorem State.condGiveUp_cond_comm (c : Conditioner) (s : State) :
    ({ s with cond := c } : State).condGiveUp = { s.condGiveUp with cond := c } := by
  rw [State.condGiveUp_eq, State.condGiveUp_eq]
  show (if s.hub.holder = some .cond then
    (if (s.arm .cond).inside then { s.overtaken with cond := c } else ({ s.overtaken with cond := c } : State).endGrant)
    else _) = _
  rw [State.endGrant_cond_comm]
  split
  · split <;> rfl
  · rfl

/-- The end of a grant leaves no claimant that was not waiting the holder, and no claim that did not wait. -/
theorem Hub.handedOff_excludes {h : Hub} {m : Arm} (hm : m ∉ h.waitList) :
    h.handedOff.holder ≠ some m ∧ m ∉ h.handedOff.waitList := by
  unfold Hub.handedOff
  split
  · next hw => exact ⟨nofun, hw ▸ List.not_mem_nil⟩
  · next k rest hw =>
    rw [hw] at hm
    exact ⟨fun he => hm (Option.some.inj he ▸ List.mem_cons_self), fun hr => hm (List.mem_cons_of_mem _ hr)⟩

/-- What ends with the hub, the ports and the events that giving up leaves has given the hub up. -/
theorem State.gaveUp_of {s t : State} (hl : s.hub.lawful) (hub : t.hub = s.condGiveUp.hub)
    (links : t.links = s.condGiveUp.links) (events : t.events = s.condGiveUp.events) : s.gaveUp t := by
  rw [State.condGiveUp_eq] at hub links events
  by_cases hh : s.hub.holder = some .cond
  · have out := (hl.2.2.1 _ hh).1
    rw [if_pos hh] at hub links events
    by_cases hi : (s.arm .cond).inside = true
    · rw [if_pos hi] at hub links events
      replace hub : t.hub = s.hub := hub
      refine ⟨fun _ h => absurd h (by simp [hi]), fun _ => ⟨links, events, fun h => absurd hh h⟩, hub ▸ out, fun _ => hi,
        fun _ _ => hub, fun h => absurd hh h⟩
    · rw [if_neg hi] at hub links events
      have ended : s.overtaken.endGrant.hub = s.hub.handedOff := s.overtaken.endGrant_eq.hub
      obtain ⟨holder, waits⟩ := Hub.handedOff_excludes out
      refine ⟨fun _ _ => ⟨hub, links, events⟩, fun h => absurd (h.resolve_left (not_not_intro hh)) hi, ?_, fun h => ?_,
        fun _ h => absurd h hi, fun h => absurd hh h⟩
      · rwa [hub, ended]
      · rw [hub, ended] at h
        exact absurd h holder
  · rw [if_neg hh] at hub links events
    replace hub : t.hub = { s.hub with waitList := s.hub.waitList.filter fun x => decide (x ≠ Arm.cond) } := hub
    refine ⟨fun h => absurd h hh, fun _ => ⟨links, events, fun _ => hub⟩, ?_, fun h => absurd ((congrArg Hub.holder hub).symm.trans h) hh,
      fun h => absurd h hh, fun _ h => ?_⟩
    · rw [hub]
      simp
    · rw [hub, filter_ne_of_not_mem h]

/-- The arbiter's answer to the claim of a conditioner that is referenced, and what it leaves (R60, R61). -/
theorem State.condClaim_cases {s : State} (hl : s.hub.lawful) (hr : (s.arm .cond).referenced = true) :
    ((s.dropGrant.claimHub .cond).1.holds = true ↔ s.hub.holder = none ∨ s.hub.holder = some .cond) ∧
      ∀ t : State, t.hub = (s.dropGrant.claimHub .cond).2.hub → t.links = s.links → t.events = s.overtaken.events →
        s.claimed t := by
  obtain ⟨-, -, -, free⟩ := hl
  have holder : s.dropGrant.hub.holder = s.hub.holder := rfl
  have waits : s.dropGrant.hub.waitList = s.hub.waitList := rfl
  unfold State.claimHub
  rw [show (s.dropGrant.arm .cond).referenced = true from hr, holder, waits, if_neg (by decide),
    if_neg (show ¬ s.dropGrant.claimantHard .cond = true from by simp [State.claimantHard, Arm.lane?])]
  by_cases hh : s.hub.holder = some .cond
  · rw [if_pos hh]
    exact ⟨by simp [Result.holds, hh], fun t hub links events => ⟨links, events, fun _ => hub,
      fun h => absurd (hh.symm.trans h) nofun, fun _ h => absurd hh h⟩⟩
  · rw [if_neg hh]
    by_cases hn : s.hub.holder = none
    · rw [if_neg (by simp [free hn]), hn, if_pos Option.isNone_none]
      exact ⟨by simp [Result.holds], fun t hub links events => ⟨links, events, fun h => absurd h hh, fun _ => hub,
        fun h => absurd hn h⟩⟩
    · by_cases hw : Arm.cond ∈ s.hub.waitList
      · rw [if_pos hw]
        refine ⟨by simp [Result.holds, hh, hn], fun t hub links events => ⟨links, events, fun h => absurd h hh,
          fun h => absurd h hn, fun _ _ => ?_⟩⟩
        rw [if_pos hw]
        exact hub
      · rw [if_neg hw, if_neg (by simpa using hn)]
        refine ⟨by simp [Result.holds, hh, hn], fun t hub links events => ⟨links, events, fun h => absurd h hh,
          fun h => absurd h hn, fun _ _ => ?_⟩⟩
        rw [if_neg hw]
        exact hub

theorem State.condMoved_claim (s : State) : s.condMoved (s.dropGrant.claimHub .cond).2 := by
  unfold State.claimHub
  (repeat' split) <;> exact ⟨rfl, State.onlyFiled_of_links rfl, rfl, rfl⟩

/-! ### The settle timer of a turn -/

theorem State.startSettle_cond (s : State) : s.startSettle.cond = { s.cond with
    settleTimer := match s.strokeRadius with
      | some r => if s.cond.stepPos.toInt = r then some 0 else s.cond.settleTimer
      | none => s.cond.settleTimer } := by
  unfold State.startSettle
  cases s.strokeRadius with
  | none => rfl
  | some r =>
    simp only
    split <;> rfl

theorem State.startSettle_strokeRadius (s : State) : s.startSettle.strokeRadius = s.strokeRadius := by
  have timed : ∀ t, (s.modCond fun c => { c with settleTimer := t }).strokeRadius = s.strokeRadius := fun _ => rfl
  unfold State.startSettle
  (repeat' split)
  · exact timed _
  · rfl
  · rfl

/-- A turn to a state stops the timers and starts the settle timer where the steps are at their end (log 40). -/
theorem State.startMove_cond (st : CondState) (s : State) :
    (s.startMove st).cond = { s.cond.enter st with settleTimer := (s.startMove st).settleFrom } := by
  have cond := (s.condEnter st).startSettle_cond
  have radius : (s.startMove st).strokeRadius = (s.condEnter st).strokeRadius := (s.condEnter st).startSettle_strokeRadius
  have step : (s.startMove st).cond.stepPos = s.cond.stepPos :=
    (congrArg Conditioner.stepPos cond).trans rfl
  rw [State.settleFrom, radius, step]
  exact cond

/-- In a state without a stroke the settle timer does not start. -/
theorem State.condEnter_eq_startMove {st : CondState} (h : st ∉ [CondState.moving, .returning, .sweeping]) (s : State) :
    s.condEnter st = s.startMove st := by
  have none : (s.condEnter st).strokeRadius = none := by
    unfold State.strokeRadius
    cases st <;> first | rfl | exact absurd (by simp) h
  rw [State.startMove, State.startSettle, none]

/-- A turn from a state whose record is that of `s` but for the target. -/
theorem State.turned_startMove {s v : State} {x : Option CondTarget} (hv : v.cond = { s.cond with target := x })
    (st : CondState) : (v.startMove st).cond.state = st ∧ (v.startMove st).cond.target = x ∧ s.turned (v.startMove st) := by
  have cond := v.startMove_cond st
  have state : (v.startMove st).cond.state = st := congrArg Conditioner.state cond
  have target : (v.startMove st).cond.target = x := by rw [cond]; exact congrArg Conditioner.target hv
  refine ⟨state, target, ?_⟩
  rw [State.turned, state, target, cond, hv]
  rfl

/-! ### Targets -/

section
variable {s : State} (hl : s.hub.lawful)
include hl

/-- A turn to `st` with the target `x`, the hub given up (R108). -/
theorem State.gaveUp_turn (x : Option CondTarget) (st : CondState) :
    ((s.setTarget x).condGiveUp.startMove st).cond.state = st ∧
      ((s.setTarget x).condGiveUp.startMove st).cond.target = x ∧
      s.turned ((s.setTarget x).condGiveUp.startMove st) ∧ s.gaveUp ((s.setTarget x).condGiveUp.startMove st) := by
  have comm : (s.setTarget x).condGiveUp = { s.condGiveUp with cond := { s.cond with target := x } } :=
    State.condGiveUp_cond_comm _ s
  rw [comm]
  obtain ⟨state, target, turned⟩ := State.turned_startMove (s := s) (x := x)
    (v := { s.condGiveUp with cond := { s.cond with target := x } }) rfl st
  exact ⟨state, target, turned, State.gaveUp_of hl (State.startMove_hub _ _) (State.startMove_links _ _)
    (State.startMove_events _ _)⟩

theorem State.returned_returnToPark : s.returned s.returnToPark := by
  obtain ⟨state, target, turned, gaveUp⟩ := State.gaveUp_turn hl (some .park) .returning
  exact ⟨state, target, turned, gaveUp⟩

theorem State.restsOrReturns_goIdle : s.restsOrReturns s.goIdle := by
  unfold State.goIdle
  refine ⟨fun h => ?_, fun h => ?_⟩
  · rw [if_pos h]
    exact ⟨rfl, rfl, rfl, rfl⟩
  · rw [if_neg h]
    exact State.returned_returnToPark hl

/-- The state that work at a target begins in (R108). -/
def CondTarget.work : CondTarget → CondState
  | .sweepResume => .lowering
  | .band _ | .sweepStart | .park => .moving

omit hl in
theorem State.beginWork_eq {x : CondTarget} (hx : s.cond.target = some x) : s.beginWork = s.startMove x.work := by
  unfold State.beginWork
  rw [hx]
  cases x with
  | sweepResume => exact State.condEnter_eq_startMove (by decide) s
  | band | sweepStart | park => rfl

theorem State.dealt_dealFor (x : CondTarget) : s.dealt x (s.needsHub x) x.work (s.dealFor x) := by
  have needs : (s.setTarget (some x)).needsHub x = s.needsHub x := by cases x <;> rfl
  unfold State.dealFor
  simp only [needs]
  cases hn : s.needsHub x with
  | false =>
    have kept : (s.setTarget (some x)).condGiveUp.cond.target = some x := by simp [State.setTarget]
    rw [if_neg Bool.false_ne_true, State.beginWork_eq kept]
    obtain ⟨state, target, turned, gaveUp⟩ := State.gaveUp_turn hl (some x) x.work
    exact ⟨target, turned, fun _ => ⟨state, gaveUp⟩, nofun⟩
  | true =>
    have cond : ((s.setTarget (some x)).dropGrant.claimHub .cond).2.cond = { s.cond with target := some x } := by
      rw [State.claimHub_cond]
      rfl
    have links : ((s.setTarget (some x)).dropGrant.claimHub .cond).2.links = s.links := by
      rw [State.claimHub_links]
      rfl
    have events : ((s.setTarget (some x)).dropGrant.claimHub .cond).2.events = s.overtaken.events := by
      rw [State.claimHub_events]
      rfl
    have claim : (s.arm .cond).referenced = true →
        (((s.setTarget (some x)).dropGrant.claimHub .cond).1.holds = true ↔
          s.hub.holder = none ∨ s.hub.holder = some .cond) ∧
        ∀ t : State, t.hub = ((s.setTarget (some x)).dropGrant.claimHub .cond).2.hub → t.links = s.links →
          t.events = s.overtaken.events → s.claimed t := State.condClaim_cases (s := s.setTarget (some x)) hl
    generalize hc : (s.setTarget (some x)).dropGrant.claimHub .cond = c at cond links events claim
    have work := State.beginWork_eq (s := c.2) (x := x) (by rw [cond])
    have waits := State.condEnter_eq_startMove (st := .waitHub) (by decide) c.2
    have turn : ∀ st, _ := State.turned_startMove cond
    rw [if_pos rfl]
    cases hh : c.1.holds with
    | true =>
      rw [if_pos rfl, work]
      obtain ⟨state, target, turned⟩ := turn x.work
      refine ⟨target, turned, nofun, fun _ hr => ?_⟩
      obtain ⟨holds, claimed⟩ := claim hr
      rw [if_pos (holds.1 hh)]
      exact ⟨state, claimed _ (State.startMove_hub _ _) ((State.startMove_links _ _).trans links)
        ((State.startMove_events _ _).trans events)⟩
    | false =>
      rw [if_neg Bool.false_ne_true, waits]
      obtain ⟨state, target, turned⟩ := turn .waitHub
      refine ⟨target, turned, nofun, fun _ hr => ?_⟩
      obtain ⟨holds, claimed⟩ := claim hr
      rw [if_neg fun h => by rw [holds.2 h] at hh; cases hh]
      exact ⟨state, claimed _ (State.startMove_hub _ _) ((State.startMove_links _ _).trans links)
        ((State.startMove_events _ _).trans events)⟩

end

/-! ### Selections -/

theorem State.condMoved_returnToPark (s : State) : s.condMoved s.returnToPark :=
  ((s.condMoved_setTarget _).trans (State.condMoved_condGiveUp _)).trans (State.condMoved_startMove _ _)

theorem State.condMoved_goIdle (s : State) : s.condMoved s.goIdle := by
  unfold State.goIdle
  split
  · exact .refl s
  · exact s.condMoved_returnToPark

theorem State.condMoved_dealFor (x : CondTarget) (s : State) : s.condMoved (s.dealFor x) := by
  have work : ∀ u : State, u.condMoved u.beginWork := fun u => by
    unfold State.beginWork
    split
    · exact u.condMoved_condEnter _
    · exact u.condMoved_startMove _
  unfold State.dealFor
  simp only
  refine (s.condMoved_setTarget (some x)).trans ?_
  (repeat' split)
  · exact (State.condMoved_claim _).trans (work _)
  · exact (State.condMoved_claim _).trans (State.condMoved_condEnter _ _)
  · exact (State.condMoved_condGiveUp _).trans (work _)

theorem State.condMoved_select (s : State) : s.condMoved s.select := by
  unfold State.select
  (repeat' split)
  · exact s.condMoved_goIdle
  · exact s.condMoved_dealFor _
  · exact ((s.condMoved_setTarget _).trans (State.condMoved_condGiveUp _)).trans (State.condMoved_condEnter _ _)
  · exact s.condMoved_goIdle

theorem State.condMoved_sweepStart (s : State) : s.condMoved s.sweepStart := by
  unfold State.sweepStart
  split
  · exact s.condMoved_goIdle
  · exact s.condMoved_dealFor _

theorem State.condMoved_actOnMode (s : State) : s.condMoved s.actOnMode := by
  unfold State.actOnMode
  split
  · exact .refl s
  · exact s.condMoved_select
  · exact s.condMoved_sweepStart

theorem Lane.exists_iff {P : Lane → Prop} : (∃ l, P l) ↔ P .a ∨ P .b :=
  ⟨fun ⟨l, h⟩ => by cases l; exacts [.inl h, .inr h], fun h => h.elim (⟨_, ·⟩) (⟨_, ·⟩)⟩

theorem LaneState.down_iff (st : LaneState) : st.down = true ↔ st ≠ .raised := by cases st <;> decide

/-- Under CLEAR a band under a lane that is down is blocked (R103). -/
theorem State.blocked_iff (s : State) (k : Nat) : s.blocked k = true ↔
    s.settings.cond.policy = .clear ∧ ∃ l, (s.lane l).state ≠ .raised ∧ 0 < s.laneChord l k := by
  unfold State.blocked
  cases s.settings.cond.policy with
  | shared => simp
  | clear => simp [State.laneDown, LaneState.down_iff, Lane.exists_iff]

/-- An entry that a selection takes (R107). -/
def State.free (s : State) (e : QueueEntry) : Bool := e.rest.isNone && !s.blocked e.band

theorem State.free_iff (s : State) (e : QueueEntry) : s.free e = true ↔ e.rest = none ∧
    ¬ (s.settings.cond.policy = .clear ∧ ∃ l, (s.lane l).state ≠ .raised ∧ 0 < s.laneChord l e.band) := by
  rw [State.free, Bool.and_eq_true, Option.isNone_iff_eq_none, Bool.not_eq_true', ← Bool.not_eq_true, s.blocked_iff]

theorem State.chosenEntry_eq (s : State) : s.chosenEntry = s.cond.queue.find? s.free := rfl

/-- Settling of a selection: the first free entry, or the wait for a lane, or no work (R103, R107). -/
theorem State.selected_select {s : State} (hl : s.hub.lawful) : s.selected s.select := by
  obtain ⟨frame, filed, mode, queue⟩ := s.condMoved_select
  have notFree : ∀ {e : QueueEntry}, s.free e = false ↔ ¬ (e.rest = none ∧ ¬ (s.settings.cond.policy = .clear ∧
      ∃ l, (s.lane l).state ≠ .raised ∧ 0 < s.laneChord l e.band)) := fun {e} => by
    rw [← Bool.not_eq_true, s.free_iff]
  refine ⟨frame, filed, mode, queue, fun hs => ?_, fun hs => ⟨fun before e after hq hb he => ?_, fun hno hsome => ?_,
    fun hrest => ?_⟩⟩
  · rw [State.select, if_pos hs]
    exact State.restsOrReturns_goIdle hl
  · have chosen : s.chosenEntry = some e := by
      rw [State.chosenEntry_eq, hq]
      rw [List.find?_append, List.find?_eq_none.2 fun x hx => by rw [notFree.2 (hb x hx)]; exact nofun]
      exact List.find?_cons_of_pos ((s.free_iff e).2 he)
    rw [State.select, if_neg (by simp [hs]), chosen]
    exact State.dealt_dealFor hl (.band e.band)
  · have chosen : s.chosenEntry = none := by
      rw [State.chosenEntry_eq, List.find?_eq_none]
      exact fun e he => by rw [notFree.2 (hno e he)]; exact nofun
    have blocked : s.someBlocked = true := by
      obtain ⟨e, he, hr⟩ := hsome
      refine List.any_eq_true.2 ⟨e, he, ?_⟩
      have : s.blocked e.band = true := by
        rw [s.blocked_iff]
        exact not_not.1 fun h => hno e he ⟨hr, h⟩
      rw [hr, this]
      rfl
    rw [State.select, if_neg (by simp [hs]), chosen]
    simp only [blocked, if_true]
    rw [State.condEnter_eq_startMove (by decide)]
    exact State.gaveUp_turn hl none .waitClear
  · have chosen : s.chosenEntry = none := by
      rw [State.chosenEntry_eq, List.find?_eq_none]
      intro e he
      rw [s.free_iff]
      exact fun h => hrest e he h.1
    have blocked : s.someBlocked = false := by
      rw [State.someBlocked, List.any_eq_false]
      intro e he
      simp [hrest e he]
    rw [State.select, if_neg (by simp [hs]), chosen]
    simp only [blocked, Bool.false_eq_true, if_false]
    exact State.restsOrReturns_goIdle hl

theorem State.sweepBegun_sweepStart {s : State} (hl : s.hub.lawful) : s.sweepBegun s.sweepStart := by
  obtain ⟨frame, filed, mode, queue⟩ := s.condMoved_sweepStart
  refine ⟨frame, filed, mode, queue, fun hs => ?_, fun hs => ?_⟩
  · rw [State.sweepStart, if_pos hs]
    exact State.restsOrReturns_goIdle hl
  · rw [State.sweepStart, if_neg (by simp [hs])]
    exact State.dealt_dealFor hl .sweepStart

/-- Acting on the mode, by the mode (R102). -/
theorem State.modeActed_actOnMode {s : State} (hl : s.hub.lawful) : s.modeActed s.actOnMode := by
  unfold State.actOnMode
  refine ⟨fun h => ?_, fun h => ?_, fun h => ?_⟩
  · rw [h]
  · rw [h]
    exact State.selected_select hl
  · rw [h]
    exact State.sweepBegun_sweepStart hl

end Sys2Proof.Machine


/-!
Counts of an arm's scale and home switch edges (O23).
-/

namespace Sys2Proof.Machine
open Sys2Proof

/-! ### The inside flag and its crossing -/

/-- Whether an arm with the record `x` is inside the hub (R37). -/
def State.insideAt (s : State) (m : Arm) (x : ArmTrack) : Bool :=
  x.referenced && decide (x.count.toInt - (s.reach m : Int) < (s.settings.tracker.hubSize * 2000 : Nat))

/-- The crossing that a new value of an arm's inside flag raises (R37). -/
def State.crossing (s : State) (m : Arm) (now : Bool) : List Event :=
  if now = (s.arm m).inside then [] else if now then [.hubEntry m] else [.hubExit m]

theorem State.arm_modArm (m : Arm) (f : ArmTrack → ArmTrack) (s : State) : (s.modArm m f).arm m = f (s.arm m) := by
  cases m <;> rfl

theorem State.modArm_modArm (m : Arm) (f g : ArmTrack → ArmTrack) (s : State) :
    (s.modArm m f).modArm m g = s.modArm m fun a => g (f a) := by
  cases m <;> rfl

theorem State.footprintInside_eq (s : State) (m : Arm) : s.footprintInside m = s.insideAt m (s.arm m) := rfl

theorem State.evaluateInside_eq (m : Arm) (s : State) : s.evaluateInside m =
    { s with events := s.events ++ s.crossing m (s.footprintInside m) }.modArm m
      fun a => { a with inside := s.footprintInside m } := by
  unfold State.evaluateInside State.crossing
  simp only
  split
  · rw [List.append_nil]
  · split <;> rfl

/-- An arm's record is put and its inside flag evaluated again. -/
theorem State.evaluateInside_modArm (m : Arm) (f : ArmTrack → ArmTrack) (s : State)
    (hf : (f (s.arm m)).inside = (s.arm m).inside) : (s.modArm m f).evaluateInside m =
      { s with events := s.events ++ s.crossing m (s.insideAt m (f (s.arm m))) }.modArm m
        fun a => { f a with inside := s.insideAt m (f (s.arm m)) } := by
  have now : (s.modArm m f).footprintInside m = s.insideAt m (f (s.arm m)) := by
    rw [State.footprintInside_eq, State.arm_modArm]
    cases m <;> rfl
  have raised : (s.modArm m f).crossing m (s.insideAt m (f (s.arm m))) = s.crossing m (s.insideAt m (f (s.arm m))) := by
    rw [State.crossing, State.arm_modArm, hf]
    rfl
  rw [State.evaluateInside_eq, now, raised]
  exact State.modArm_modArm m f _ { s with events := s.events ++ s.crossing m (s.insideAt m (f (s.arm m))) }

/-- The same, where the arbiter takes the crossing at once (log 39). -/
theorem State.cross_modArm (m : Arm) (f : ArmTrack → ArmTrack) (s : State)
    (hf : (f (s.arm m)).inside = (s.arm m).inside) : (s.modArm m f).cross m =
      (let now := s.insideAt m (f (s.arm m))
        let loaded := s.modArm m fun a => { f a with inside := now }
        if now = (s.arm m).inside then loaded else if now then loaded.hubEntry m else loaded.hubExit m) := by
  have now : (s.modArm m f).footprintInside m = s.insideAt m (f (s.arm m)) := by
    rw [State.footprintInside_eq, State.arm_modArm]
    cases m <;> rfl
  unfold State.cross
  simp only [now, State.arm_modArm, State.modArm_modArm, hf]

/-! ### A crossing keeps the arbiter's limits -/

theorem State.hubEntry_lawful {m : Arm} {s : State} (hl : s.hub.lawful) : (s.hubEntry m).hub.lawful := by
  by_cases hm : s.hub.holder = some m
  · rwa [State.hubEntry, if_pos hm]
  · rw [(State.hubEntry_intruder hm).1.hub]
    exact Hub.lawful_intruder hl fun _ => hm

theorem State.hubExit_lawful {m : Arm} {s : State} (hl : s.hub.lawful) : (s.hubExit m).hub.lawful := by
  unfold State.hubExit
  (repeat' split)
  · rw [s.endGrant_eq.hub]
    exact Hub.lawful_handedOff hl
  · exact hl
  · exact Hub.lawful_intruder hl nofun

theorem State.hubEntry_kept (m : Arm) (s : State) :
    (s.hubEntry m).cond = s.cond ∧ (s.hubEntry m).settings = s.settings := by
  unfold State.hubEntry State.onRise
  (repeat' split) <;> simp

theorem State.hubExit_kept (m : Arm) (s : State) :
    (s.hubExit m).cond = s.cond ∧ (s.hubExit m).settings = s.settings := by
  unfold State.hubExit
  (repeat' split) <;> simp

theorem State.condGiveUp_lawful {s : State} (hl : s.hub.lawful) : s.condGiveUp.hub.lawful :=
  s.hubPath_condGiveUp.keeps (P := fun u => u.hub.lawful) (fun _ _ => HubMove.keeps_lawful) hl

/-! ### Parking -/

theorem State.enterParked_eq (s : State) : s.enterParked = (s.dropTarget.condEnter .parked).actOnMode := rfl

/-- The record parked without a target, and the hub given up where there was one (R108). -/
theorem State.parked_eq (s : State) : s.dropTarget.condEnter .parked = { s with
    cond := { s.cond.enter .parked with target := none }
    hub := (if s.cond.target.isSome then s.condGiveUp else s).hub
    links := (if s.cond.target.isSome then s.condGiveUp else s).links
    events := (if s.cond.target.isSome then s.condGiveUp else s).events } := by
  unfold State.dropTarget
  cases ht : s.cond.target with
  | none =>
    have target : s.cond.enter .parked = { s.cond.enter .parked with target := none } := by rw [← ht]; rfl
    show ({ s with cond := s.cond.enter .parked } : State) = _
    rw [target]
    rfl
  | some x =>
    have comm : (s.setTarget none).condGiveUp = { s.condGiveUp with cond := { s.cond with target := none } } :=
      State.condGiveUp_cond_comm _ s
    rw [if_pos (by rfl), if_pos (by rfl), comm, s.condMoved_condGiveUp.frame]
    rfl

theorem State.actOnMode_off {s : State} (h : s.cond.mode = .off) : s.actOnMode = s := by
  rw [State.actOnMode, h]

/-- The hub given up as a target is dropped. -/
theorem State.gaveUp_parked {s : State} {c : Conditioner} (hl : s.hub.lawful) (ht : c.target ≠ none) :
    s.gaveUp (({ s with cond := c } : State).dropTarget.condEnter .parked) := by
  have some : c.target.isSome = true := Option.isSome_iff_ne_none.2 ht
  rw [State.parked_eq, if_pos some, State.condGiveUp_cond_comm]
  exact State.gaveUp_of hl rfl rfl rfl

theorem State.onlyFiled_parked (s : State) : s.onlyFiled (s.dropTarget.condEnter .parked) := by
  rw [State.parked_eq]
  split
  · exact s.condMoved_condGiveUp.filed.trans (State.onlyFiled_of_links rfl)
  · exact State.onlyFiled_of_links rfl

/-- Without a target parking leaves the hub, the ports and the events. -/
theorem State.parked_kept {s : State} (ht : s.cond.target = none) :
    (s.dropTarget.condEnter .parked).hub = s.hub ∧ (s.dropTarget.condEnter .parked).links = s.links ∧
      (s.dropTarget.condEnter .parked).events = s.events := by
  rw [State.parked_eq, ht]
  exact ⟨rfl, rfl, rfl⟩

theorem State.parked_lawful {s : State} (hl : s.hub.lawful) : (s.dropTarget.condEnter .parked).hub.lawful := by
  rw [State.parked_eq]
  split
  · exact State.condGiveUp_lawful hl
  · exact hl

theorem State.startSettle_eq (s : State) : s.startSettle = { s with cond := s.startSettle.cond } := by
  unfold State.startSettle
  (repeat' split) <;> rfl

theorem CondState.followed_iff (st : CondState) :
    st.followed = true ↔ st ∉ [CondState.unreferenced, .homing, .fault] := by cases st <;> decide

/-- The following check faults exactly in a state that is followed and on a difference above 200 (R118). -/
theorem State.followingCheck_eq (s : State) : s.followingCheck =
    if s.cond.state ∉ [CondState.unreferenced, .homing, .fault] ∧
        200 < ((s.arm .cond).count.toInt - s.cond.stepPos.toInt).natAbs then s.faulted .following
    else s := by
  simp only [State.followingCheck, CondState.followed_iff]
  rfl

theorem exec_armEncoderCount {s₀ s : State} (hs : s₀.settled = s) (m : Arm) (e : ArmEdge) :
    exec (.armEncoderCount m e) s₀ = .next (s.armCount m e) := by
  rw [← hs]
  rfl

theorem exec_homeSwitchEdge {s₀ s : State} (hs : s₀.settled = s) (m : Arm) :
    exec (.homeSwitchEdge m) s₀ = .next (s.homeEdge m) := by
  rw [← hs]
  rfl

/-- A count of an arm's scale as the statement has it: the record counted, then the conditioner's following check. -/
theorem State.armCount_eq (m : Arm) (e : ArmEdge) (s : State) : s.armCount m e =
    (let count := if e = .outward then (s.arm m).count + 1 else (s.arm m).count - 1
      let inside := s.insideAt m { s.arm m with count := count }
      let counted := { s with events := s.events ++ s.crossing m inside }.modArm m
        fun a => { a with count := count, inside := inside }
      if m = .cond then counted.followingCheck else counted) := by
  have counted : ∀ c : BitVec 32 → BitVec 32,
      (s.modArm m fun a => { a with count := c a.count }).evaluateInside m =
        { s with events := s.events ++ s.crossing m (s.insideAt m { s.arm m with count := c (s.arm m).count }) }.modArm m
          fun a => { a with
            count := c (s.arm m).count, inside := s.insideAt m { s.arm m with count := c (s.arm m).count } } := fun c =>
    State.evaluateInside_modArm m _ s rfl
  cases e with
  | outward =>
    rw [State.armCount]
    simp only [counted (· + 1), if_true]
  | inward =>
    rw [State.armCount]
    simp only [counted (· - 1), reduceCtorEq, if_false]

/-- Settles O23: a count and an edge put the arm's record and its crossing, and the rest is the conditioner's. -/
theorem armCountAndHomeEdge : Obligations.ArmCountAndHomeEdge := by
  refine ⟨fun m e s₀ s hs => ?_, fun m s₀ s hs => ?_⟩
  · intro count inside counted
    rw [exec_armEncoderCount hs, State.armCount_eq]
    show (_ → Host.Outcome.next (if m = .cond then counted.followingCheck else counted) = _) ∧
      (_ → _ → _ → Host.Outcome.next (if m = .cond then counted.followingCheck else counted) = _)
    refine ⟨fun hno => ?_, fun hm hst hdiff => ?_⟩
    · by_cases hm : m = .cond
      · subst hm
        rw [if_pos rfl, State.followingCheck_eq, if_neg]
        rintro ⟨hst, hdiff⟩
        rcases hno with h | h | h
        · exact h rfl
        · exact hst h
        · exact absurd hdiff (Nat.not_lt.2 h)
      · rw [if_neg hm]
    · subst hm
      rw [if_pos rfl, State.followingCheck_eq, if_pos ⟨hst, hdiff⟩]
  · intro inside loaded park
    have evaluated : (s.modArm m fun a =>
        { a with count := BitVec.ofNat 32 (s.homePreset m), referenced := true }).evaluateInside m = loaded :=
      State.evaluateInside_modArm m _ s rfl
    have crossing : (s.modArm m fun a =>
        { a with count := BitVec.ofNat 32 (s.homePreset m), referenced := true }).cross m =
          if inside = (s.arm m).inside then loaded
          else if inside then State.hubEntry m { loaded with events := s.events }
          else State.hubExit m { loaded with events := s.events } := by
      refine (State.cross_modArm m _ s rfl).trans ?_
      by_cases h : inside = (s.arm m).inside
      · have still : loaded = { loaded with events := s.events } := by
          show loaded = { loaded with events := s.events }
          have : loaded.events = s.events := by
            show s.events ++ (if inside = (s.arm m).inside then [] else _) = _
            rw [if_pos h, List.append_nil]
          rw [← this]
        rw [if_pos h, still]
        exact if_pos h
      · rw [if_neg h]
        exact if_neg h
    rw [exec_homeSwitchEdge hs, State.homeEdge]
    simp only [evaluated, crossing]
    refine ⟨fun hm => ?_, fun hm hst => ?_, fun hm hst => ?_⟩
    · rw [if_pos hm]
    · rw [if_neg (not_not_intro hm), if_neg hst, State.condHomeEdge]
      rw [if_neg (show ¬ loaded.cond.state = .homing from hst), State.startSettle_eq, State.startSettle_cond]
      have radius : (loaded.modCond fun c => { c with stepPos := BitVec.ofNat 32 loaded.settings.cond.parkRadius }).strokeRadius =
          s.strokeRadius := rfl
      rw [radius]
      cases s.strokeRadius <;> rfl
    · rw [if_neg (not_not_intro hm), if_pos hst]
      generalize hc : (if inside = (s.arm m).inside then loaded
          else if inside then State.hubEntry m { loaded with events := s.events }
          else State.hubExit m { loaded with events := s.events }) = crossed
      obtain ⟨cond, settings⟩ : crossed.cond = s.cond ∧ crossed.settings = s.settings := by
        rw [← hc]
        (repeat' split)
        · exact ⟨rfl, rfl⟩
        · exact State.hubEntry_kept m _
        · exact State.hubExit_kept m _
      have lawful : s.hub.lawful → crossed.hub.lawful := fun hl => by
        rw [← hc]
        (repeat' split)
        · exact hl
        · exact State.hubEntry_lawful hl
        · exact State.hubExit_lawful hl
      have edge : crossed.condHomeEdge = (crossed.modCond fun c => { c with stepPos := park }).enterParked := by
        rw [State.condHomeEdge, if_pos (cond ▸ hst), settings]
      rw [edge, State.enterParked_eq]
      set v := crossed.modCond fun c => { c with stepPos := park } with hv
      have record : v.cond = { s.cond with stepPos := park } := by rw [← cond]; rfl
      have target : v.cond.target = s.cond.target := (congrArg Conditioner.target record).trans rfl
      have parked := v.parked_eq
      have acted := (v.dropTarget.condEnter .parked).condMoved_actOnMode
      have mode : (v.dropTarget.condEnter .parked).cond.mode = s.cond.mode := by
        rw [parked]
        show v.cond.mode = _
        rw [record]
      have off : s.cond.mode = .off → (v.dropTarget.condEnter .parked).actOnMode = v.dropTarget.condEnter .parked := fun h =>
        State.actOnMode_off (mode.trans h)
      have frame : v.dropTarget.condEnter .parked = { crossed with
          cond := { s.cond.enter .parked with stepPos := park, target := none }
          hub := (v.dropTarget.condEnter .parked).hub, links := (v.dropTarget.condEnter .parked).links
          events := (v.dropTarget.condEnter .parked).events } := by
        rw [parked, record]
        rfl
      refine ⟨_, _, rfl, frame, fun ht => v.parked_kept (target.trans ht),
        ((State.onlyFiled_of_links rfl).trans v.onlyFiled_parked).trans acted.filed,
        fun hl => ⟨fun ht => ?_, State.modeActed_actOnMode (State.parked_lawful (lawful hl))⟩, off, ?_⟩
      · exact State.gaveUp_parked (c := v.cond) (lawful hl) (fun h => ht (target.symm.trans h))
      · exact acted.frame.trans (congrArg (fun u : State => { u with
          cond := (v.dropTarget.condEnter .parked).actOnMode.cond
          hub := (v.dropTarget.condEnter .parked).actOnMode.hub
          links := (v.dropTarget.condEnter .parked).actOnMode.links
          events := (v.dropTarget.condEnter .parked).actOnMode.events }) frame)

end Sys2Proof.Machine


/-!
What a recompute and a line's stop make of lines and bars (R130, R131, R139).
-/

namespace Sys2Proof.Machine
open Sys2Proof

/-! ### The recompute -/

theorem State.recompute_line (s : State) (k : Line) :
    s.recompute.line k = recomputeLine s.settings.slurry s.slurry k := recomputeSlurry_line _ _ _

theorem State.recompute_bar (s : State) (l : Lane) : s.recompute.bar l = recomputeBar s.settings.slurry s.slurry l :=
  recomputeSlurry_bar _ _ _

theorem recomputeLine_kept (g : SlurrySettings) (q : Slurry) (k : Line) :
    recomputeLine g q k = { q.lines.get k with
      demand := (recomputeLine g q k).demand, servedLow := (recomputeLine g q k).servedLow
      setpoint := (recomputeLine g q k).setpoint, duty := (recomputeLine g q k).duty
      lastPulse := (recomputeLine g q k).lastPulse } ∧
    ((recomputeLine g q k).lastPulse = (q.lines.get k).lastPulse ∨
      ((recomputeLine g q k).duty = 0 ∧ (recomputeLine g q k).lastPulse = 0)) := by
  refine ⟨rfl, ?_⟩
  by_cases h : (recomputeLine g q k).duty = 0
  · exact .inr ⟨h, if_pos h⟩
  · exact .inl (if_neg h)

theorem State.lineKept_recompute (s : State) (k : Line) : s.lineKept s.recompute k := by
  unfold State.lineKept
  rw [State.recompute_line]
  exact recomputeLine_kept _ _ _

theorem State.barKept_recompute (s : State) (l : Lane) : s.barKept s.recompute l := by
  unfold State.barKept
  rw [State.recompute_bar]
  exact ⟨rfl, rfl, rfl⟩

theorem State.rateKept_recompute (s : State) (l : Lane) : s.rateKept s.recompute l := by
  unfold State.rateKept
  rw [State.recompute_bar]
  exact ⟨rfl, rfl⟩

/-! ### A line that stops -/

/-- The record of a line that has stopped flowing (R130). -/
def SupplyLine.halted (x : SupplyLine) : SupplyLine :=
  { x with state := .stopped, duty := 0, prime := if x.state = .priming then 0 else x.prime }

/-- The bar of `l` once it has moved off line `k` (R131). -/
def State.movedBar (k : Line) (l : Lane) (s : State) : Bar :=
  if (s.bar l).feed = some k then
    { s.bar l with feed := s.fallbackFor l k, fallback := (s.fallbackFor l k).isSome }
  else s.bar l

theorem State.moveBar_frame (k : Line) (l : Lane) (s : State) : s.moveBar k l = { s with
    slurry := { s.slurry with bars := s.slurry.bars.set l (s.movedBar k l) }, links := (s.moveBar k l).links } := by
  unfold State.moveBar State.movedBar
  split
  · cases s.fallbackFor l k <;> rfl
  · rw [State.bar, Lanes.set_get_self]

theorem State.onlyFiled_moveBar (k : Line) (l : Lane) (s : State) : s.onlyFiled (s.moveBar k l) := by
  unfold State.moveBar
  (repeat' split)
  · exact (State.onlyFiled_of_links rfl : s.onlyFiled (s.setFeed _ _ _)).trans (State.onlyFiled_file _ _ _)
  · exact (State.onlyFiled_of_links rfl : s.onlyFiled (s.setFeed _ _ _)).trans (State.onlyFiled_file _ _ _)
  · exact State.onlyFiled_of_links rfl

/-- A bar that moves is told to its lane's port (R131). -/
theorem State.mem_moveBar {k : Line} {l : Lane} {s : State} (h : (s.bar l).feed = some k) :
    (if (s.fallbackFor l k).isSome then Notice.feedFallback else .feedLost) ∈ ((s.moveBar k l).port l.port).notices := by
  rw [State.moveBar, if_pos h]
  cases s.fallbackFor l k with
  | none => exact (State.mem_file _ _ _ _ _).2 (.inl ⟨rfl, rfl⟩)
  | some f => exact (State.mem_file _ _ _ _ _).2 (.inl ⟨rfl, rfl⟩)

/-- The line has stopped and no bar has moved. -/
def State.haltLine (k : Line) (s : State) : State := s.modLine k SupplyLine.halted

theorem State.lineStops_eq (k : Line) (s : State) :
    s.lineStops k = ((((s.haltLine k).moveBar k .a).moveBar k .b).file .s .lineStopped).recompute := rfl

/-- The second bar moves as if the first had not. -/
theorem State.moveBar_movedBar (k : Line) (s : State) : (s.moveBar k .a).movedBar k .b = s.movedBar k .b ∧
    (s.moveBar k .a).bar .b = s.bar .b ∧ (s.moveBar k .a).fallbackFor .b k = s.fallbackFor .b k := by
  rw [State.moveBar_frame]
  exact ⟨rfl, rfl, rfl⟩

/-- The slurry unit's record between the moves of a stop and its recompute. -/
def State.haltedSlurry (k : Line) (s : State) : Slurry :=
  { s.slurry with
    lines := s.slurry.lines.set k (s.line k).halted
    bars := ⟨(s.haltLine k).movedBar k .a, (s.haltLine k).movedBar k .b⟩ }

theorem State.lineStops_frame (k : Line) (s : State) : s.lineStops k = { s with
    slurry := recomputeSlurry s.settings.slurry (s.haltedSlurry k), links := (s.lineStops k).links } := by
  have second := ((s.haltLine k).moveBar_movedBar k).1
  have moved : ((s.haltLine k).moveBar k .a).moveBar k .b = { s with
      slurry := s.haltedSlurry k, links := (((s.haltLine k).moveBar k .a).moveBar k .b).links } := by
    rw [State.moveBar_frame k .b, second, State.moveBar_frame k .a]
    rfl
  rw [State.lineStops_eq, moved]
  rfl

theorem State.onlyFiled_lineStops (k : Line) (s : State) : s.onlyFiled (s.lineStops k) := by
  have halted : s.onlyFiled (s.haltLine k) := State.onlyFiled_of_links rfl
  have moved := (halted.trans (State.onlyFiled_moveBar k .a _)).trans (State.onlyFiled_moveBar k .b _)
  exact (moved.trans (State.onlyFiled_file _ _ _)).trans (State.onlyFiled_of_links rfl)

theorem State.mem_lineStops (k : Line) (s : State) : .lineStopped ∈ ((s.lineStops k).port .s).notices := by
  rw [State.lineStops_eq]
  exact (State.mem_file _ _ _ _ _).2 (.inl ⟨rfl, rfl⟩)

theorem State.lineStops_line (k j : Line) (s : State) :
    (s.lineStops k).line j = recomputeLine s.settings.slurry (s.haltedSlurry k) j := by
  rw [State.lineStops_frame]
  exact recomputeSlurry_line _ _ _

theorem State.haltedSlurry_line (k j : Line) (s : State) :
    (s.haltedSlurry k).lines.get j = if j = k then (s.line k).halted else s.line j := Lines.get_set _ _ _ _

theorem State.lineStops_bar (k : Line) (l : Lane) (s : State) : (s.lineStops k).bar l =
    { (s.haltLine k).movedBar k l with outlets := ((s.lineStops k).bar l).outlets } := by
  have bar : (s.haltedSlurry k).bars.get l = (s.haltLine k).movedBar k l := by cases l <;> rfl
  rw [State.lineStops_frame, ← bar]
  show (recomputeSlurry s.settings.slurry (s.haltedSlurry k)).bars.get l = { (s.haltedSlurry k).bars.get l with
    outlets := ((recomputeSlurry s.settings.slurry (s.haltedSlurry k)).bars.get l).outlets }
  rw [recomputeSlurry_bar]
  rfl

theorem State.lineStops_flowsTrue (k : Line) (s : State) : (s.lineStops k).slurry.flowsTrue s.settings.slurry := by
  rw [State.lineStops_frame]
  exact recomputeSlurry_flowsTrue _ _

/-- Another line keeps all but its flows. -/
theorem State.lineStops_other {k j : Line} (h : j ≠ k) (s : State) : s.lineKept (s.lineStops k) j := by
  have line : (s.haltedSlurry k).lines.get j = s.line j := by rw [State.haltedSlurry_line, if_neg h]
  unfold State.lineKept
  rw [State.lineStops_line, ← line]
  exact recomputeLine_kept _ _ _

/-- The line itself is STOPPED without duty. -/
theorem State.lineStops_self (k : Line) (s : State) :
    State.lineKept (s.modLine k fun y =>
      { y with state := .stopped, prime := if y.state = .priming then 0 else y.prime }) (s.lineStops k) k ∧
    ((s.lineStops k).line k).state = .stopped ∧ ((s.lineStops k).line k).duty = 0 := by
  have line : (s.haltedSlurry k).lines.get k = (s.line k).halted := by rw [State.haltedSlurry_line, if_pos rfl]
  have record : (s.modLine k fun y =>
      { y with state := .stopped, prime := if y.state = .priming then 0 else y.prime }).line k =
        { s.line k with state := .stopped, prime := if (s.line k).state = .priming then 0 else (s.line k).prime } :=
    Lines.get_set_self _ _ _
  have state : (recomputeLine s.settings.slurry (s.haltedSlurry k) k).state = .stopped := by
    rw [recomputeLine_state, line]
    rfl
  have duty : (recomputeLine s.settings.slurry (s.haltedSlurry k) k).duty = 0 := by
    have stopped : ((s.haltedSlurry k).lines.get k).state = .stopped := by rw [line]; rfl
    simp [recomputeLine, stopped, pumpSetpoint, pumpDuty]
  obtain ⟨kept, timer⟩ := recomputeLine_kept s.settings.slurry (s.haltedSlurry k) k
  rw [State.lineStops_line]
  refine ⟨?_, state, duty⟩
  unfold State.lineKept
  rw [State.lineStops_line, record]
  rw [line] at kept timer
  exact ⟨kept, timer⟩

/-- The fallback of a bar, once its line has stopped. -/
theorem State.haltLine_fallbackFor {k f : Line} (l : Lane) (s : State) : (s.haltLine k).fallbackFor l k = some f ↔
    s.settings.slurry.fallback.get k = some f ∧ (s.bar l).fallback = false ∧ f ≠ k ∧ (s.line f).state = .ready := by
  have line : ((s.haltLine k).line f).state = .ready ↔ f ≠ k ∧ (s.line f).state = .ready := by
    show ((s.slurry.lines.set k (s.line k).halted).get f).state = .ready ↔ _
    rw [Lines.get_set]
    by_cases h : f = k
    · rw [if_pos h]
      simp [h, SupplyLine.halted]
    · rw [if_neg h]
      exact ⟨fun hr => ⟨h, hr⟩, And.right⟩
  unfold State.fallbackFor
  show (match s.settings.slurry.fallback.get k with
    | some f => if !(s.bar l).fallback && decide (((s.haltLine k).line f).state = .ready) then some f else none
    | none => none) = some f ↔ _
  cases hg : s.settings.slurry.fallback.get k with
  | none => simp
  | some g =>
    simp only [Option.some.injEq]
    by_cases hgf : g = f
    · subst hgf
      cases (s.bar l).fallback <;> simp [line]
    · simp [hgf]

/-- The bars' moves when one line stops (R131). -/
theorem State.barsMoved_lineStops (k : Line) (s : State) : s.barsMoved k (s.lineStops k) := by
  intro l
  have bar := s.lineStops_bar k l
  have told : (s.bar l).feed = some k → (if ((s.haltLine k).fallbackFor l k).isSome then Notice.feedFallback else .feedLost) ∈
      ((s.lineStops k).port l.port).notices := fun h => by
    have joins : ∀ u : State, u.onlyFiled ((u.file .s .lineStopped).recompute) := fun u =>
      (u.onlyFiled_file _ _).trans (State.onlyFiled_of_links rfl)
    rw [State.lineStops_eq]
    cases l with
    | a => exact ((State.onlyFiled_moveBar k .b _).trans (joins _)).2 _ |>.2 _ (State.mem_moveBar h)
    | b =>
      obtain ⟨-, same, fallback⟩ := (s.haltLine k).moveBar_movedBar k
      have mem := State.mem_moveBar (k := k) (l := .b) (s := (s.haltLine k).moveBar k .a) (by rw [same]; exact h)
      rw [fallback] at mem
      exact ((joins _).2 _).2 _ mem
  have off : (s.bar l).feed ≠ some k → (s.haltLine k).movedBar k l = s.bar l := fun h => if_neg h
  have on : (s.bar l).feed = some k → (s.haltLine k).movedBar k l = { s.bar l with
      feed := (s.haltLine k).fallbackFor l k, fallback := ((s.haltLine k).fallbackFor l k).isSome } := fun h => if_pos h
  refine ⟨?_, fun h => ?_, fun f h hb hf hne hr => ?_, fun h hno => ?_⟩
  · rw [bar]
    by_cases h : (s.bar l).feed = some k
    · rw [on h]
      exact ⟨rfl, rfl, rfl⟩
    · rw [off h]
      exact ⟨rfl, rfl, rfl⟩
  · rw [bar, off h]
    exact ⟨rfl, rfl⟩
  · have falls := (s.haltLine_fallbackFor l).2 ⟨hf, hb, hne, hr⟩
    have mem := told h
    rw [falls] at mem
    rw [bar, on h, falls]
    exact ⟨rfl, rfl, mem⟩
  · have falls : (s.haltLine k).fallbackFor l k = none := by
      by_contra hsome
      obtain ⟨f, hf⟩ := Option.ne_none_iff_exists'.1 hsome
      obtain ⟨fall, flag, -, ready⟩ := (s.haltLine_fallbackFor l).1 hf
      rcases hno with h | h | ⟨g, hg, hr⟩
      · rw [h] at flag
        cases flag
      · rw [h] at fall
        cases fall
      · obtain rfl : f = g := Option.some.inj (fall.symm.trans hg)
        exact hr ready
    have mem := told h
    rw [falls] at mem
    rw [bar, on h, falls]
    exact ⟨rfl, rfl, mem⟩

theorem SupplyLine.timed_iff (x : SupplyLine) :
    x.timed = true ↔ (x.state = .priming ∨ x.state = .ready) ∧ 0 < x.duty := by
  simp [SupplyLine.timed]

end Sys2Proof.Machine


/-!
What a SET brings beside its value, by block (O12).
-/

namespace Sys2Proof.Machine
open Sys2Proof

/-! ### Tracker and arms -/

theorem speedInWindow_eq (g : TrackerSettings) (n : Nat) :
    speedInWindow g n = decide (g.windowLower ≤ n ∧ n ≤ g.windowUpper) := (Bool.decide_and _ _).symm

theorem State.evaluateWindow_frame (s : State) : s.evaluateWindow =
    { s with tracker := s.evaluateWindow.tracker, links := s.evaluateWindow.links } := by
  unfold State.evaluateWindow State.fileAll
  simp only
  split <;> rfl

/-- The window evaluated again files SPEED_WINDOW to every port exactly on a change (R35). -/
theorem State.evaluateWindow_links (s : State) : s.onlyFiled s.evaluateWindow ∧
    (speedInWindow s.settings.tracker s.tracker.speed = s.tracker.inWindow → s.evaluateWindow.links = s.links) := by
  unfold State.evaluateWindow
  simp only
  split
  · exact ⟨State.onlyFiled_of_links rfl, fun _ => rfl⟩
  · next h =>
    refine ⟨(State.onlyFiled_of_links rfl : s.onlyFiled (s.modTracker _)).trans (State.onlyFiled_fileAll _ _),
      fun he => absurd he h⟩

theorem State.evaluateAllInside_arm (s : State) (m : Arm) :
    s.evaluateAllInside.arm m = { s.arm m with inside := s.footprintInside m } := by
  have foot : ∀ (k j : Arm) (u : State), j ≠ k → (u.evaluateInside k).footprintInside j = u.footprintInside j :=
    fun k j u h => by
      have arm : (u.evaluateInside k).arm j = u.arm j := by rw [State.evaluateInside_arm, if_neg h]
      have reach : (u.evaluateInside k).reach j = u.reach j := by
        cases j <;> simp [State.reach]
      rw [State.footprintInside, arm, reach, State.footprintInside, State.hubRadius, State.hubRadius,
        State.evaluateInside_settings]
  unfold State.evaluateAllInside
  cases m with
  | a => rw [State.evaluateInside_arm, if_neg (by decide), State.evaluateInside_arm, if_neg (by decide),
      State.evaluateInside_arm, if_pos rfl]
  | b => rw [State.evaluateInside_arm, if_neg (by decide), State.evaluateInside_arm, if_pos rfl,
      State.evaluateInside_arm, if_neg (by decide), foot _ _ _ (by decide)]
  | cond => rw [State.evaluateInside_arm, if_pos rfl, State.evaluateInside_arm, if_neg (by decide),
      State.evaluateInside_arm, if_neg (by decide), foot _ _ _ (by decide), foot _ _ _ (by decide)]

/-- Every crossing of the evaluation, in the order of the arms (R38). -/
theorem State.evaluateAllInside_frame (s : State) : s.evaluateAllInside = { s with
    tracker := { s.tracker with arms := s.evaluateAllInside.tracker.arms }
    events := s.events ++ s.crossing .a (s.footprintInside .a) ++ s.crossing .b (s.footprintInside .b) ++
      s.crossing .cond (s.footprintInside .cond) } := by
  unfold State.evaluateAllInside
  rw [State.evaluateInside_eq .cond, State.evaluateInside_eq .b, State.evaluateInside_eq .a]
  rfl

/-! ### Head pressure -/

/-- A lane's record with its drive targets derived again (R74). -/
def State.driven (s : State) (l : Lane) (x : LanePressure) : LanePressure :=
  { x with channels := x.channels.map fun c =>
      { c with drive := driveTarget x.state (s.holdLevel l) (s.settings.press.softHold.get l) c.effective } }

theorem State.deriveDrive_eq (l : Lane) (s : State) : s.deriveDrive l = s.modLane l (s.driven l) := rfl

theorem State.driven_channel (s : State) (l : Lane) (x : LanePressure) (z : Chan) : (s.driven l x).channels.get z =
    { x.channels.get z with
      drive := driveTarget x.state (s.holdLevel l) (s.settings.press.softHold.get l) (x.channels.get z).effective } :=
  Six.get_map _ _ _

theorem State.drives_driven (s : State) (l : Lane) (x : LanePressure) : s.drives l (s.driven l x) := by
  intro c
  rw [State.driven_channel]
  refine ⟨fun h => ?_, fun h => ⟨fun hn => ?_, fun hs => ?_⟩⟩
  · show driveTarget x.state _ _ _ = 0
    rcases h with h | h <;> rw [show x.state = _ from h] <;> rfl
  · show driveTarget x.state _ _ _ = _
    rw [hn]
    rcases h with h | h <;> rw [show x.state = _ from h] <;> rfl
  · show driveTarget x.state _ _ _ = _
    rw [hs]
    rcases h with h | h <;> rw [show x.state = _ from h] <;> rfl

/-- A lane's record with its effective targets derived again (R81). -/
def State.targeted (s : State) (l : Lane) (x : LanePressure) : LanePressure :=
  { x with
    channels := x.channels.zip (fun c e => { c with effective := e })
      (effectiveTargets x.gain x.active (s.settings.press.limit.get l))
    compClamped := compensationClamped x.gain x.active (s.settings.press.limit.get l) }

theorem State.targeted_channel (s : State) (l : Lane) (x : LanePressure) (z : Chan) : (s.targeted l x).channels.get z =
    { x.channels.get z with
      effective := (effectiveTargets x.gain x.active (s.settings.press.limit.get l)).get z } :=
  Six.get_zip _ _ _ _

/-- A lane's record with a channel's profiles lowered to a limit, and one with its command cut to it (R95). -/
def LanePressure.lowered (c : Chan) (cap : Nat) (x : LanePressure) : LanePressure :=
  { x with staged := x.staged.set c (min (x.staged.get c) cap), active := x.active.set c (min (x.active.get c) cap) }

def LanePressure.cut (c : Chan) (cap : Nat) (x : LanePressure) : LanePressure :=
  if cap < (x.channels.get c).command then
    { x with channels := x.channels.set c { x.channels.get c with command := cap, remainder := 0 } }
  else x

theorem State.modLane_modLane (l : Lane) (f g : LanePressure → LanePressure) (s : State) :
    (s.modLane l f).modLane l g = s.modLane l fun x => g (f x) := by cases l <;> rfl

theorem State.limitChanged_eq (l : Lane) (c : Chan) (s : State) :
    s.limitChanged l c = s.modLane l fun x =>
      (s.driven l (s.targeted l (x.lowered c ((s.settings.press.limit.get l).get c)))).cut c
        ((s.settings.press.limit.get l).get c) := by
  have targets : ∀ u : State, u.deriveTargets l = u.modLane l fun x => u.driven l (u.targeted l x) := fun u =>
    u.modLane_modLane l (u.targeted l) (u.driven l)
  unfold State.limitChanged
  simp only [targets, State.modLane_modLane]
  rfl

theorem compensationClamped_iff (gain : Nat) (active limit : Six Nat) : compensationClamped gain active limit = true ↔
    ∃ z, z ≠ Chan.ring ∧ limit.get z < (active.get z * (1024 + gain) + 512) / 1024 := by
  simp only [compensationClamped, Bool.or_eq_true, uncapped]
  constructor
  · rintro ((((h | h) | h) | h) | h)
    · exact ⟨.z1, by decide, of_decide_eq_true h⟩
    · exact ⟨.z2, by decide, of_decide_eq_true h⟩
    · exact ⟨.z3, by decide, of_decide_eq_true h⟩
    · exact ⟨.z4, by decide, of_decide_eq_true h⟩
    · exact ⟨.z5, by decide, of_decide_eq_true h⟩
  · rintro ⟨z, hz, h⟩
    cases z with
    | z1 => exact .inl (.inl (.inl (.inl (decide_eq_true h))))
    | z2 => exact .inl (.inl (.inl (.inr (decide_eq_true h))))
    | z3 => exact .inl (.inl (.inr (decide_eq_true h)))
    | z4 => exact .inl (.inr (decide_eq_true h))
    | z5 => exact .inr (decide_eq_true h)
    | ring => exact absurd rfl hz

theorem LanePressure.cut_frame (c : Chan) (cap : Nat) (x : LanePressure) :
    x.cut c cap = { x with channels := (x.cut c cap).channels } := by
  unfold LanePressure.cut
  split <;> rfl

/-- A cut touches only the channel's command and remainder. -/
theorem LanePressure.cut_channel (c z : Chan) (cap : Nat) (x : LanePressure) : (x.cut c cap).channels.get z =
    if z = c ∧ cap < (x.channels.get c).command then { x.channels.get c with command := cap, remainder := 0 }
    else x.channels.get z := by
  unfold LanePressure.cut
  by_cases h : cap < (x.channels.get c).command
  · rw [if_pos h]
    simp only [Six.get_set, h, and_true]
  · rw [if_neg h, if_neg fun hz => h hz.2]

/-- The record of a lane with a limit lowered (R95). -/
theorem State.drives_cut {s : State} {l : Lane} {x : LanePressure} (c : Chan) (cap : Nat) (h : s.drives l x) :
    s.drives l (x.cut c cap) := by
  intro z
  have state : (x.cut c cap).state = x.state := by rw [LanePressure.cut_frame]
  have channel : ((x.cut c cap).channels.get z).drive = (x.channels.get z).drive ∧
      ((x.cut c cap).channels.get z).effective = (x.channels.get z).effective := by
    rw [LanePressure.cut_channel]
    split
    · next hz => rw [hz.1]; exact ⟨rfl, rfl⟩
    · exact ⟨rfl, rfl⟩
  rw [state, channel.1, channel.2]
  exact h z

/-! ### Causes told by an effect -/

/-- From `s` to `t` the matrix takes causes, and notices and events are added that tell of them. -/
structure State.tells (s t : State) : Prop where
  caused : s.onlyCaused t
  filed : s.portsFiled t
  told : s.levelsTold t
  raised : ∀ e ∈ s.events, e ∈ t.events
  settings : t.settings = s.settings

theorem State.takesCauses.tells {s t : State} (h : s.takesCauses t) : s.tells t :=
  ⟨h.caused, h.filed.2, h.told, h.raised, by rw [h.frame]⟩

theorem State.tells.trans {s t u : State} (h : s.tells t) (k : t.tells u) : s.tells u where
  caused := h.caused.trans k.caused k.settings
  filed := fun p => ⟨by rw [(k.filed p).1, (h.filed p).1], fun n hn => (k.filed p).2 n ((h.filed p).2 n hn)⟩
  told := h.told.trans k.told k.filed k.raised
  raised := fun e he => k.raised e (h.raised e he)
  settings := k.settings.trans h.settings

/-- What leaves the matrix, the events and the settings, and files at most notices, tells nothing. -/
theorem State.tells_of_matrix {s t : State} (matrix : t.matrix = s.matrix) (filed : s.portsFiled t)
    (events : t.events = s.events) (settings : t.settings = s.settings) : s.tells t :=
  ⟨State.onlyCaused_of_matrix matrix, filed,
    fun l hl => absurd (by rw [State.holdLevel, State.causes, matrix]; rfl) hl, fun e he => by rwa [events], settings⟩

theorem State.tells.refl (s : State) : s.tells s :=
  State.tells_of_matrix rfl (State.onlyFiled_of_links rfl).2 rfl rfl

theorem levelOf_ne_none {c : List CauseEntry} {e : CauseEntry} (h : e ∈ c) : levelOf c ≠ .none := by
  unfold levelOf
  cases c with
  | nil => cases h
  | cons x rest =>
    rw [List.isEmpty_cons]
    split <;> simp

/-! ### A link that goes silent -/

theorem State.modSilence_silence (l j : Lane) (f : Silence → Silence) (s : State) :
    (s.modSilence l f).links.silence.get j = if j = l then f (s.links.silence.get l) else s.links.silence.get j :=
  Lanes.get_set _ _ _ _

theorem State.tells_modSilence (l : Lane) (f : Silence → Silence) (s : State) : s.tells (s.modSilence l f) :=
  State.tells_of_matrix rfl (fun _ => ⟨rfl, fun _ => id⟩) rfl rfl

theorem State.laneDown_iff (s : State) (l : Lane) : s.laneDown l = decide ((s.lane l).state ≠ .raised) :=
  Bool.eq_iff_iff.2 (by simp [State.laneDown, LaneState.down_iff])

/-- What a link's silence makes of the state: the flag, and LINK_SILENT at a lane that is down (R177). -/
structure State.silenced (s : State) (l : Lane) (t : State) : Prop where
  tells : s.tells t
  frame : t = { s with matrix := t.matrix, links := t.links, events := t.events }
  matrix : t.matrix = { s.matrix with causes := t.matrix.causes }
  other : ∀ j, j ≠ l → t.links.silence.get j = s.links.silence.get j ∧ t.causes j = s.causes j
  silence : t.links.silence.get l =
    { timer := s.settings.linkSilence, silent := true, cause := decide ((s.lane l).state ≠ .raised) }
  down : (s.lane l).state ≠ .raised →
    (∃ e ∈ t.causes l, e.kind = .linkSilent ∧ e.severity = .hard) ∧ t.holdLevel l = .hard
  up : (s.lane l).state = .raised → t.causes l = s.causes l ∧ t.matrix = s.matrix ∧ t.events = s.events ∧
    t.links.ports = s.links.ports

theorem State.silenced_goSilent (l : Lane) (s : State) : s.silenced l (s.goSilent l) := by
  have down := s.laneDown_iff l
  unfold State.goSilent
  rw [down]
  set u := s.modSilence l fun _ =>
    { timer := s.settings.linkSilence, silent := true, cause := decide ((s.lane l).state ≠ .raised) } with hu
  have silence : ∀ j, u.links.silence.get j = if j = l then
      { timer := s.settings.linkSilence, silent := true, cause := decide ((s.lane l).state ≠ .raised) }
      else s.links.silence.get j := fun j => State.modSilence_silence _ _ _ _
  have put : s.tells u := State.tells_modSilence _ _ _
  by_cases hd : (s.lane l).state = .raised
  · have still : u.onRise false (decide ((s.lane l).state ≠ .raised)) (·.addCause l (causeEntry .linkSilent .hard)) = u := by
      simp [State.onRise, hd]
    rw [still]
    exact ⟨put, rfl, rfl, fun j hj => ⟨by rw [silence, if_neg hj], rfl⟩, by rw [silence, if_pos rfl],
      fun h => absurd hd h, fun _ => ⟨rfl, rfl, rfl, rfl⟩⟩
  · have rises : u.onRise false (decide ((s.lane l).state ≠ .raised)) (·.addCause l (causeEntry .linkSilent .hard)) =
        u.addCause l (causeEntry .linkSilent .hard) := by
      simp [State.onRise, hd]
    rw [rises]
    have takes := u.takesCauses_addCause l (causeEntry .linkSilent .hard) rfl
    have causes : ∀ j, (u.addCause l (causeEntry .linkSilent .hard)).causes j =
        if j = l then addEntry (causeEntry .linkSilent .hard) (s.causes l) else s.causes j := fun j =>
      State.addCause_causes l j _ u
    obtain ⟨station, trips⟩ := State.addCause_station l (causeEntry .linkSilent .hard) u
    refine ⟨put.trans takes.tells, takes.frame, ?_, fun j hj => ⟨?_, by rw [causes, if_neg hj]⟩, ?_, fun _ => ⟨?_, ?_⟩,
      fun h => absurd h hd⟩
    · have matrix := takes.caused.1
      rw [station, trips] at matrix
      exact matrix
    · rw [takes.filed.1, silence, if_neg hj]
    · rw [takes.filed.1, silence, if_pos rfl]
    · obtain ⟨e, he, kind, hard⟩ := mem_addEntry (causeEntry .linkSilent .hard) (s.causes l)
      exact ⟨e, by rwa [causes, if_pos rfl], kind, hard rfl⟩
    · exact State.addCause_hard l _ u rfl

/-! ### Targets taken -/

/-- A target becomes active from `before` to `s` (R150). -/
def State.rises (before s : State) (x : Target) : Prop := before.targetActive x = false ∧ s.targetActive x = true

theorem State.onRise_of {b a : Bool} {f : State → State} {s : State} (hb : b = false) (ha : a = true) :
    s.onRise b a f = f s := by
  rw [hb, ha]
  rfl

theorem State.onRise_of_not {b a : Bool} {f : State → State} {s : State} (h : ¬ (b = false ∧ a = true)) :
    s.onRise b a f = s := by
  unfold State.onRise
  rw [if_neg]
  simpa using h

/-- What taking targets makes of the state (R150, R152, R157). -/
structure State.targetsTaken (before s t : State) : Prop where
  takes : s.takesCauses t
  held : ∀ l : Lane, before.rises s l.holdTarget →
    (∃ e ∈ t.causes l, e.kind = .input ∧ (s.settings.matrix.severity.get l = .hard → e.severity = .hard)) ∧
      t.holdLevel l ≠ .none
  untripped : ¬ before.rises s .stationTrip → ∀ l : Lane, t.causes l =
    if s.targetActive l.holdTarget = true ∧ before.targetActive l.holdTarget = false then
      addEntry (causeEntry .input (s.settings.matrix.severity.get l)) (s.causes l)
    else s.causes l
  tripped : before.rises s .stationTrip → t.matrix.station = .tripped ∧ .input ∈ t.matrix.tripCauses ∧
    (s.matrix.station = .normal → ∀ l, t.holdLevel l = .hard)
  stopped : before.rises s .slurryStop → .slurryStop ∈ t.events
  still : (∀ x, ¬ before.rises s x) → t = s

theorem State.targetsTaken_takeTargets (before s : State) : before.targetsTaken s (s.takeTargets before) := by
  let entry := fun l : Lane => causeEntry .input (s.settings.matrix.severity.get l)
  let hold := fun (l : Lane) (u : State) =>
    u.onRise (before.targetActive l.holdTarget) (s.targetActive l.holdTarget) (·.addCause l (entry l))
  let trip := fun u : State => u.onRise (before.targetActive .stationTrip) (s.targetActive .stationTrip) (·.tripCause .input)
  let stop := fun u : State => u.onRise (before.targetActive .slurryStop) (s.targetActive .slurryStop) (·.raise .slurryStop)
  show before.targetsTaken s (stop (trip (hold .b (hold .a s))))
  have takesHold : ∀ l (u : State), u.settings = s.settings → u.takesCauses (hold l u) := fun l u hu =>
    State.takesCauses_onRise _ _ fun _ _ => u.takesCauses_addCause l _ (by
      show some (u.settings.matrix.severity.get l) = _
      rw [hu]
      rfl)
  have takesA := takesHold .a s rfl
  have takesB := takesHold .b (hold .a s) (by rw [takesA.frame])
  have takesTrip : ∀ u : State, u.takesCauses (trip u) := fun u =>
    State.takesCauses_onRise _ _ fun _ _ => u.takesCauses_tripCause _
  have takesStop : ∀ u : State, u.takesCauses (stop u) := fun u =>
    State.takesCauses_onRise _ _ fun _ _ => u.takesCauses_raise _
  have causes : ∀ l j (u : State), (hold l u).causes j =
      if s.targetActive l.holdTarget = true ∧ before.targetActive l.holdTarget = false then
        (if j = l then addEntry (entry l) (u.causes l) else u.causes j)
      else u.causes j := fun l j u => by
    by_cases h : s.targetActive l.holdTarget = true ∧ before.targetActive l.holdTarget = false
    · rw [if_pos h]
      show (u.onRise _ _ _).causes j = _
      rw [State.onRise_of h.2 h.1, State.addCause_causes]
    · rw [if_neg h]
      show (u.onRise _ _ _).causes j = _
      rw [State.onRise_of_not fun hx => h ⟨hx.2, hx.1⟩]
  have both : ∀ j, (hold .b (hold .a s)).causes j =
      if s.targetActive j.holdTarget = true ∧ before.targetActive j.holdTarget = false then
        addEntry (entry j) (s.causes j) else s.causes j := fun j => by
    rw [causes, causes, causes]
    cases j <;> simp
  have station : ∀ l (u : State), (hold l u).matrix.station = u.matrix.station := fun l u => by
    show (u.onRise _ _ _).matrix.station = _
    unfold State.onRise
    split
    · exact (State.addCause_station _ _ _).1
    · rfl
  have later := (takesTrip (hold .b (hold .a s))).trans (takesStop _)
  refine ⟨(takesA.trans takesB).trans later, fun l hl => ?_, fun hno l => ?_, fun htrip => ?_, fun hstop => ?_, fun hno => ?_⟩
  · obtain ⟨e, he, kind, hard⟩ := mem_addEntry (entry l) (s.causes l)
    have mem : e ∈ (hold .b (hold .a s)).causes l := by rwa [both, if_pos ⟨hl.2, hl.1⟩]
    obtain ⟨x, hx, xkind, xhard⟩ := later.caused.2.1 l e mem
    exact ⟨⟨x, hx, xkind.trans kind, fun h => xhard (hard h)⟩, levelOf_ne_none hx⟩
  · have quiet : trip (hold .b (hold .a s)) = hold .b (hold .a s) := State.onRise_of_not hno
    have stopCauses : ∀ u : State, (stop u).causes l = u.causes l := fun u => by
      show (u.onRise _ _ _).causes l = _
      unfold State.onRise
      split <;> rfl
    rw [stopCauses, quiet, both]
  · have tripped : trip (hold .b (hold .a s)) = (hold .b (hold .a s)).tripCause .input := State.onRise_of htrip.1 htrip.2
    have stopMatrix : ∀ u : State, (stop u).matrix = u.matrix := fun u => by
      show (u.onRise _ _ _).matrix = _
      unfold State.onRise
      split <;> rfl
    obtain ⟨stationTo, joins, normal, -⟩ := State.tripCause_tripsTo (hold .b (hold .a s)) .input
    have matrix : (stop (trip (hold .b (hold .a s)))).matrix = ((hold .b (hold .a s)).tripCause .input).matrix := by
      rw [stopMatrix, tripped]
    refine ⟨by rw [matrix]; exact stationTo, by rw [matrix]; exact (joins _).2 (.inl rfl), fun hn l => ?_⟩
    rw [State.holdLevel, State.causes, matrix]
    exact ((normal (by rw [station, station]; exact hn)).2.2.2 l).1
  · have stopped : ∀ u : State, stop u = u.raise .slurryStop := fun u => State.onRise_of hstop.1 hstop.2
    rw [stopped]
    simp
  · have quietHold : ∀ l u, hold l u = u := fun l u => State.onRise_of_not (hno _)
    have quietTrip : ∀ u, trip u = u := fun u => State.onRise_of_not (hno _)
    have quietStop : ∀ u, stop u = u := fun u => State.onRise_of_not (hno _)
    rw [quietStop, quietTrip, quietHold, quietHold]

end Sys2Proof.Machine


/-!
The obligation about SET (O12).
-/

namespace Sys2Proof.Machine
open Sys2Proof

/-- An accepted SET of a new value replies the value, with the change taken (R180). -/
theorem exec_set_changed {id inst v : Nat} {item : Item} {s₀ s : State} (hs : s₀.heard .s = s)
    (hcode : Item.ofCode id inst = some item) (hrange : item.inRange v = true)
    (hcons : (s.settings.put item v).consistent = true) (hquiet : item.quiet s = true)
    (hnew : item.value s.settings ≠ v) : exec (.set .s id inst v) s₀ =
      .next (replied .s .set .ok (beBytes 1 id ++ beBytes 1 inst ++ beBytes 4 v)
        (item.changed s { s with settings := s.settings.put item v })) := by
  have row := exec_request_heard .s (.set id inst v) s₀ s hs rfl rfl rfl
  have accepted : s.setRefusal item v = none := by simp [State.setRefusal, hrange, hcons, hquiet]
  rw [decideRequest, decideSet, hcode] at row
  simp only [accepted, State.applySetting, if_neg hnew] at row
  exact row

/-- The settings whose change brings nothing beside the value. -/
def Item.alone : Item → Bool
  | .glazeWarn | .glazeLimit | .condStart | .condStop | .cutGain | .heightGain | .padLife | .homePreset _ => true
  | .rampRate _ | .supplyMin | .supplyTime | .tolerance | .deviationTime | .policy | .parkRadius | .sweepSpeed => true
  | .sweepInner | .sweepOuter | .downforce | .dwellLimit | .primeCount _ | .fallback _ | .pulsesPerLitre _ => true
  | .outletFirst _ _ | .outletCount _ _ | .debounceTime | .severity _ | .dryLimit | .polarity _ => true
  | _ => false

theorem Item.changed_alone {item : Item} (h : item.alone = true) (before s : State) : item.changed before s = s := by
  cases item with
  | glazeWarn | glazeLimit | condStart | condStop | cutGain | heightGain | padLife | homePreset | rampRate | supplyMin
  | supplyTime | tolerance | deviationTime | policy | parkRadius | sweepSpeed | sweepInner | sweepOuter | downforce
  | dwellLimit | primeCount | fallback | pulsesPerLitre | outletFirst | outletCount | debounceTime | severity | dryLimit
  | polarity => rfl
  | _ => cases h

/-! ### The effects, from the state with the value put -/

section
variable (s : State) (g : Settings)

/-- `s` with the settings `g`. -/
def State.withSettings : State := { s with settings := g }

theorem State.stallLimitChanged_running :
    ((∀ n, s.tracker.stallTimer = some n → n < g.tracker.stallLimit) →
      (s.withSettings g).stallLimitChanged = s.withSettings g) ∧
    (∀ n, s.tracker.stallTimer = some n → g.tracker.stallLimit ≤ n →
      (s.withSettings g).stallLimitChanged = (s.withSettings g).enterStalled) := by
  unfold State.stallLimitChanged
  show (_ → (match s.tracker.stallTimer with
      | some t => if g.tracker.stallLimit ≤ t then (s.withSettings g).enterStalled else s.withSettings g
      | none => s.withSettings g) = _) ∧ ∀ n, _ → _ → (match s.tracker.stallTimer with
      | some t => if g.tracker.stallLimit ≤ t then (s.withSettings g).enterStalled else s.withSettings g
      | none => s.withSettings g) = _
  refine ⟨fun h => ?_, fun n hn hle => ?_⟩
  · cases ht : s.tracker.stallTimer with
    | none => rfl
    | some n => exact if_neg (Nat.not_le.2 (h n ht))
  · rw [hn]
    exact if_pos hle

theorem State.window_reEvaluated :
    let now := decide (g.tracker.windowLower ≤ s.tracker.speed ∧ s.tracker.speed ≤ g.tracker.windowUpper)
    let u := (s.withSettings g).evaluateWindow
    u.tracker = { s.tracker with inWindow := now } ∧
      u = { s.withSettings g with tracker := u.tracker, links := u.links } ∧
      (now = s.tracker.inWindow → u.links = s.links) ∧ s.onlyFiled u ∧
      (now ≠ s.tracker.inWindow → ∀ p n, n ∈ (u.port p).notices ↔ n = .speedWindow ∨ n ∈ (s.port p).notices) := by
  intro now u
  have tracker : u.tracker = { s.tracker with inWindow := now } := by
    rw [State.evaluateWindow_tracker, speedInWindow_eq]
    rfl
  obtain ⟨filed, kept⟩ := (s.withSettings g).evaluateWindow_links
  refine ⟨tracker, State.evaluateWindow_frame _, fun h => kept ?_, filed, fun h p n => ?_⟩
  · rw [speedInWindow_eq]
    exact h
  · refine (State.mem_evaluateWindow _ p n).trans ?_
    have changes : (s.withSettings g).evaluateWindow.tracker.inWindow ≠ (s.withSettings g).tracker.inWindow := by
      show u.tracker.inWindow ≠ s.tracker.inWindow
      rw [tracker]
      exact h
    simp only [changes, ne_eq, not_false_eq_true, and_true]
    rfl

theorem State.flows_recomputed :
    (s.withSettings g).recompute = { s.withSettings g with slurry := (s.withSettings g).recompute.slurry } ∧
      (s.withSettings g).recompute.slurry.flowsTrue g.slurry ∧
      (∀ x, s.barKept (s.withSettings g).recompute x ∧ ((s.withSettings g).recompute.bar x).weights = (s.bar x).weights) ∧
      (∀ k, s.lineKept (s.withSettings g).recompute k) ∧
      (s.withSettings g).recompute.slurry.windowMs = s.slurry.windowMs ∧
      ∀ x, ((s.withSettings g).recompute.bar x).rate = (s.bar x).rate :=
  ⟨rfl, State.recompute_flowsTrue _,
    fun x => ⟨(s.withSettings g).barKept_recompute x, ((s.withSettings g).rateKept_recompute x).2⟩,
    (s.withSettings g).lineKept_recompute, rfl, fun x => ((s.withSettings g).rateKept_recompute x).1⟩

theorem State.barMax_lowered (l : Lane) :
    let u := (s.withSettings g).barMaxChanged l
    u = { s.withSettings g with slurry := u.slurry } ∧ u.slurry.flowsTrue g.slurry ∧
      (∀ x, s.barKept u x ∧ (u.bar x).weights = (s.bar x).weights) ∧
      (u.bar l).rate = min (s.bar l).rate (g.slurry.barMax.get l) ∧ (∀ x, x ≠ l → (u.bar x).rate = (s.bar x).rate) ∧
      (∀ k, s.lineKept u k) ∧ u.slurry.windowMs = s.slurry.windowMs := by
  intro u
  set v := (s.withSettings g).modBar l fun b => { b with rate := min b.rate (g.slurry.barMax.get l) } with hv
  have recomputed : u = v.recompute := rfl
  have bar : ∀ x, v.bar x =
      if x = l then { s.bar l with rate := min (s.bar l).rate (g.slurry.barMax.get l) } else s.bar x := fun x =>
    (s.withSettings g).modBar_bar l x _
  have kept : ∀ x, (v.bar x).feed = (s.bar x).feed ∧ (v.bar x).fallback = (s.bar x).fallback ∧
      (v.bar x).resume = (s.bar x).resume ∧ (v.bar x).weights = (s.bar x).weights := fun x => by
    rw [bar]
    by_cases h : x = l
    · rw [if_pos h, h]
      exact ⟨rfl, rfl, rfl, rfl⟩
    · rw [if_neg h]
      exact ⟨rfl, rfl, rfl, rfl⟩
  rw [recomputed]
  refine ⟨rfl, State.recompute_flowsTrue v, fun x => ?_, ?_, fun x hx => ?_, v.lineKept_recompute, rfl⟩
  · obtain ⟨feed, fallback, resume⟩ := v.barKept_recompute x
    obtain ⟨feed', fallback', resume', weights⟩ := kept x
    exact ⟨⟨feed.trans feed', fallback.trans fallback', resume.trans resume'⟩, (v.rateKept_recompute x).2.trans weights⟩
  · rw [(v.rateKept_recompute l).1, bar, if_pos rfl]
  · rw [(v.rateKept_recompute x).1, bar, if_neg hx]

theorem State.stopTimeout_lowered (k : Line) :
    let u := (s.withSettings g).stopTimeoutChanged k
    let runs := ((s.line k).state = .priming ∨ (s.line k).state = .ready) ∧ 0 < (s.line k).duty
    (runs → g.slurry.stopTimeout.get k ≤ (s.line k).lastPulse → u = (s.withSettings g).lineStops k) ∧
      (¬ runs ∨ (s.line k).lastPulse < g.slurry.stopTimeout.get k → u = s.withSettings g) := by
  have timed := (s.line k).timed_iff
  unfold State.stopTimeoutChanged
  refine ⟨fun hr hle => if_pos ⟨timed.2 hr, hle⟩, fun h => if_neg ?_⟩
  rintro ⟨ht, hle⟩
  exact h.elim (fun hn => hn (timed.1 ht)) fun hlt => absurd hle (Nat.not_le.2 hlt)

/-- The disk judged again (R120). -/
def State.diskJudged : State :=
  { s.withSettings g with cond := { s.cond with spent := decide (g.cond.diskLifeLimit ≤ s.cond.diskLife) } }

theorem State.evaluateSpent_eq : (s.withSettings g).evaluateSpent =
    if s.cond.spent = false ∧ g.cond.diskLifeLimit ≤ s.cond.diskLife then (s.diskJudged g).file .s .diskSpent
    else s.diskJudged g := by
  show (s.diskJudged g).onRise s.cond.spent (decide (g.cond.diskLifeLimit ≤ s.cond.diskLife)) (·.file .s .diskSpent) = _
  unfold State.onRise
  cases s.cond.spent <;> simp

theorem State.diskLifeLimit_changed :
    let u := (s.withSettings g).evaluateSpent.actIfParked
    (s.cond.spent = false → g.cond.diskLifeLimit ≤ s.cond.diskLife → .diskSpent ∈ (u.port .s).notices) ∧
      (g.cond.diskLifeLimit ≤ s.cond.diskLife ∨ s.cond.mode = .off ∨ s.cond.state ≠ .parked →
        u = { s.diskJudged g with links := u.links } ∧ s.onlyFiled u) ∧
      (s.cond.diskLife < g.cond.diskLifeLimit → s.cond.state = .parked → s.hub.lawful → (s.diskJudged g).modeActed u) := by
  intro u
  have judged := s.evaluateSpent_eq g
  have rests : g.cond.diskLifeLimit ≤ s.cond.diskLife ∨ s.cond.mode = .off ∨ s.cond.state ≠ .parked →
      u = (s.withSettings g).evaluateSpent := fun h => by
    show (s.withSettings g).evaluateSpent.actIfParked = _
    have cond : (s.withSettings g).evaluateSpent.cond = (s.diskJudged g).cond := by
      rw [judged]
      split <;> rfl
    unfold State.actIfParked
    split
    · next hp =>
      obtain ⟨parked, spent⟩ := hp
      rw [cond] at parked spent
      have fresh : ¬ g.cond.diskLifeLimit ≤ s.cond.diskLife := of_decide_eq_false spent
      rcases h with h | h | h
      · exact absurd h fresh
      · exact State.actOnMode_off (cond ▸ h)
      · exact absurd parked h
    · rfl
  refine ⟨fun hs hle => ?_, fun h => ?_, fun hlt hp hl => ?_⟩
  · rw [rests (.inl hle), judged, if_pos ⟨hs, hle⟩]
    exact (State.mem_file _ _ _ _ _).2 (.inl ⟨rfl, rfl⟩)
  · rw [rests h, judged]
    split
    · exact ⟨rfl, (State.onlyFiled_of_links rfl : s.onlyFiled (s.diskJudged g)).trans (State.onlyFiled_file _ _ _)⟩
    · exact ⟨rfl, State.onlyFiled_of_links rfl⟩
  · have unspent : (s.withSettings g).evaluateSpent = s.diskJudged g := by
      rw [judged, if_neg fun h => absurd h.2 (Nat.not_le.2 hlt)]
    have acts : u = (s.diskJudged g).actOnMode := by
      show (s.withSettings g).evaluateSpent.actIfParked = _
      rw [unspent]
      exact if_pos ⟨hp, decide_eq_false (Nat.not_le.2 hlt)⟩
    rw [acts]
    exact State.modeActed_actOnMode hl

theorem State.linkSilence_lowered (l : Lane) :
    let u := s.silenceTimeChanged l
    ((s.links.silence.get l).silent = true ∨ (s.links.silence.get l).timer < s.settings.linkSilence → u = s) ∧
      ((s.links.silence.get l).silent = false → s.settings.linkSilence ≤ (s.links.silence.get l).timer → s.silenced l u) := by
  unfold State.silenceTimeChanged State.silenceExpiry
  refine ⟨fun h => ?_, fun hs hle => ?_⟩
  · split
    · next hle => exact if_pos (h.resolve_right fun hlt => absurd hle (Nat.not_le.2 hlt))
    · rfl
  · rw [if_pos hle, if_neg (by simp [hs])]
    exact s.silenced_goSilent l

theorem State.limit_lowered (l : Lane) (c : Chan) :
    let x := s.lane l
    let p := s.withSettings g
    let v := (g.press.limit.get l).get c
    let u := p.limitChanged l c
    let y := u.lane l
    u = p.modLane l (fun _ => y) ∧ y.staged = x.staged.set c (min (x.staged.get c) v) ∧
      y.active = x.active.set c (min (x.active.get c) v) ∧
      y.channels.map (·.effective) = effectiveTargets x.gain y.active (g.press.limit.get l) ∧
      (y.compClamped = true ↔
        ∃ z, z ≠ .ring ∧ (g.press.limit.get l).get z < (y.active.get z * (1024 + x.gain) + 512) / 1024) ∧
      p.drives l y ∧
      (∀ z, y.channels.get z = { x.channels.get z with
          effective := (y.channels.get z).effective, drive := (y.channels.get z).drive
          command := (y.channels.get z).command, remainder := (y.channels.get z).remainder } ∧
        (z ≠ c ∨ (x.channels.get z).command ≤ v → (y.channels.get z).command = (x.channels.get z).command ∧
          (y.channels.get z).remainder = (x.channels.get z).remainder)) ∧
      (v < (x.channels.get c).command → (y.channels.get c).command = v ∧ (y.channels.get c).remainder = 0) ∧
      y = { x with
        staged := y.staged, active := y.active, channels := y.channels, compClamped := y.compClamped } := by
  intro x p v u y
  -- the record before the command is cut
  set z := p.driven l (p.targeted l (x.lowered c v)) with hz
  have moved : u = p.modLane l fun w => (p.driven l (p.targeted l (w.lowered c v))).cut c v := p.limitChanged_eq l c
  have record : y = z.cut c v := by
    show u.lane l = _
    rw [moved, State.modLane_lane_self]
    rfl
  have channel : ∀ i, z.channels.get i = { x.channels.get i with
      effective := (effectiveTargets x.gain z.active (g.press.limit.get l)).get i
      drive := (z.channels.get i).drive } := fun i => by
    rw [hz, State.driven_channel, State.targeted_channel]
    rfl
  have cut := fun i => z.cut_channel c i v
  have frame := z.cut_frame c v
  have command : (z.channels.get c).command = (x.channels.get c).command := by rw [channel]
  refine ⟨?_, ?_, ?_, ?_, ?_, ?_, fun i => ⟨?_, fun h => ?_⟩, fun h => ?_, ?_⟩
  · have whole : u = p.modLane l fun _ => z.cut c v := by
      rw [moved]
      rfl
    rw [record]
    exact whole
  · rw [record, frame]
    rfl
  · rw [record, frame]
    rfl
  · rw [record]
    refine Six.ext_get fun i => ?_
    rw [Six.get_map, cut, frame]
    split
    · next h =>
      rw [h.1, channel c]
    · rw [channel]
  · rw [record, frame]
    exact compensationClamped_iff _ _ _
  · rw [record]
    exact State.drives_cut c v (p.drives_driven l _)
  · rw [record, cut]
    split
    · next h => rw [h.1, channel c]
    · rw [channel]
  · rw [record, cut, if_neg fun hc => ?_, channel]
    · exact ⟨rfl, rfl⟩
    · obtain ⟨rfl, hlt⟩ := hc
      rw [command] at hlt
      exact h.elim (fun h => h rfl) fun h => absurd hlt (Nat.not_lt.2 h)
  · rw [record, cut, if_pos ⟨rfl, command ▸ h⟩]
    exact ⟨rfl, rfl⟩
  · rw [record, frame]
    rfl

theorem State.softHold_changed (l : Lane) :
    let p := s.withSettings g
    let u := p.deriveDrive l
    u = p.modLane l (fun _ => u.lane l) ∧ u.lane l = { s.lane l with channels := (u.lane l).channels } ∧
      p.drives l (u.lane l) ∧ ∀ z, (u.lane l).channels.get z =
        { (s.lane l).channels.get z with drive := ((u.lane l).channels.get z).drive } := by
  intro p u
  have record : u.lane l = p.driven l (s.lane l) := State.modLane_lane_self _ _ _
  rw [record]
  refine ⟨rfl, rfl, p.drives_driven l _, fun z => ?_⟩
  rw [State.driven_channel]

/-- What a link's new silence time leaves, whether or not the link goes silent. -/
theorem State.silenceTimeChanged_keeps (l : Lane) :
    let u := s.silenceTimeChanged l
    s.tells u ∧ u = { s with matrix := u.matrix, links := u.links, events := u.events } ∧
      u.matrix = { s.matrix with causes := u.matrix.causes } ∧
      ∀ j, j ≠ l → u.links.silence.get j = s.links.silence.get j ∧ u.causes j = s.causes j := by
  intro u
  obtain ⟨still, silenced⟩ := s.linkSilence_lowered l
  by_cases h : (s.links.silence.get l).silent = true ∨ (s.links.silence.get l).timer < s.settings.linkSilence
  · have same : u = s := still h
    rw [same]
    exact ⟨.refl s, rfl, rfl, fun _ _ => ⟨rfl, rfl⟩⟩
  · obtain ⟨hs, hle⟩ := not_or.1 h
    have effect : s.silenced l u := silenced (Bool.not_eq_true _ ▸ hs) (Nat.not_lt.1 hle)
    exact ⟨effect.tells, effect.frame, effect.matrix, effect.other⟩

/-- What a link's new silence time makes of its lane, from a state `s` that has the lane as `v` finds it. -/
theorem State.silenceTimeChanged_lane {v : State} {l : Lane} (silence : v.links.silence.get l = s.links.silence.get l)
    (causes : v.causes l = s.causes l) (lane : v.lane l = s.lane l) (settings : v.settings = g) :
    let u := v.silenceTimeChanged l
    ((s.links.silence.get l).silent = true ∨ (s.links.silence.get l).timer < g.linkSilence →
      u.links.silence.get l = s.links.silence.get l ∧ u.causes l = s.causes l) ∧
    ((s.links.silence.get l).silent = false → g.linkSilence ≤ (s.links.silence.get l).timer →
      u.links.silence.get l = { timer := g.linkSilence, silent := true, cause := decide ((s.lane l).state ≠ .raised) } ∧
        ((s.lane l).state ≠ .raised →
          (∃ e ∈ u.causes l, e.kind = .linkSilent ∧ e.severity = .hard) ∧ u.holdLevel l = .hard) ∧
        ((s.lane l).state = .raised → u.causes l = s.causes l)) := by
  intro u
  obtain ⟨still, silenced⟩ := v.linkSilence_lowered l
  rw [silence, settings] at still silenced
  refine ⟨fun h => ?_, fun hs hle => ?_⟩
  · have same : u = v := still h
    rw [same]
    exact ⟨silence, causes⟩
  · have effect : v.silenced l u := silenced hs hle
    have put := effect.silence
    rw [lane, settings] at put
    exact ⟨put, fun h => effect.down (lane ▸ h), fun h => (effect.up (lane ▸ h)).1.trans causes⟩

end

end Sys2Proof.Machine


namespace Sys2Proof.Machine
open Sys2Proof

/-- Settles O12, item by item, each by the effect of its block's operation on the state with the value put. -/
theorem setTakesEffect : Obligations.SetTakesEffect := by
  intro id inst v item s₀ s hs hcode hrange hcons hquiet hnew
  refine ⟨_, exec_set_changed hs hcode hrange hcons hquiet hnew, ?_⟩
  intro put alone sameLines sameBars
  refine ⟨fun h => item.changed_alone h s put, ?_, ?_, ?_, ?_, ?_, ?_, ?_, ?_, ?_, ?_, ?_, ?_, ?_⟩
  · rintro rfl
    obtain ⟨short, stalls⟩ := s.stallLimitChanged_running put.settings
    refine ⟨short, fun n hn hle ht => ?_⟩
    have stalled : Item.changed s put .stallLimit = put.enterStalled := stalls n hn hle
    obtain ⟨takes, tracker, map, told, trips⟩ := State.enterStalled_stalls (s := put) ht
    rw [stalled]
    refine ⟨tracker, map, told, trips, (State.onlyFiled_of_links rfl).trans takes.filed, takes.caused.congr rfl, ?_⟩
    rw [tracker, map]
    exact takes.frame
  · rintro (rfl | rfl)
    · exact s.window_reEvaluated put.settings
    · exact s.window_reEvaluated put.settings
  · intro h now crossing
    have resized : Item.changed s put item = put.evaluateAllInside := by
      rcases h with rfl | ⟨l, rfl⟩ | rfl <;> rfl
    rw [resized]
    have frame := put.evaluateAllInside_frame
    have events := congrArg State.events frame
    exact ⟨put.evaluateAllInside_arm, events, frame.trans (by rw [events])⟩
  · rintro l c rfl
    have limits : put.settings.press.limit.get l = (s.settings.press.limit.get l).set c v := Lanes.get_set_self _ _ _
    have effect := s.limit_lowered put.settings l c
    simp only [limits, Six.get_set_self] at effect
    exact effect
  · rintro l rfl
    exact s.softHold_changed put.settings l
  · rintro rfl
    rfl
  · rintro rfl
    exact s.diskLifeLimit_changed put.settings
  · rintro ⟨k, rfl | rfl | rfl⟩
    · exact s.flows_recomputed put.settings
    · exact s.flows_recomputed put.settings
    · exact s.flows_recomputed put.settings
  · rintro k rfl
    have value : put.settings.slurry.stopTimeout.get k = v := Lines.get_set_self _ _ _
    obtain ⟨stops, still⟩ := s.stopTimeout_lowered put.settings k
    rw [value] at stops still
    refine ⟨fun hr hle => ?_, still⟩
    have stopped : Item.changed s put (.stopTimeout k) = put.lineStops k := stops hr hle
    obtain ⟨kept, -, duty⟩ := put.lineStops_self k
    rw [stopped]
    refine ⟨?_, duty, kept, put.mem_lineStops k, put.lineStops_flowsTrue k, put.barsMoved_lineStops k,
      put.onlyFiled_lineStops k, ?_, fun j hj => put.lineStops_other hj⟩
    · rw [State.lineStops_frame]
    · rw [State.lineStops_frame]
      rfl
  · rintro l rfl
    have value : put.settings.slurry.barMax.get l = v := Lanes.get_set_self _ _ _
    have effect := s.barMax_lowered put.settings l
    simp only [value] at effect
    exact effect
  · rintro l o rfl
    have value : (put.settings.slurry.outletMax.get l).get o = v := by
      show ((s.settings.slurry.outletMax.set l ((s.settings.slurry.outletMax.get l).set o v)).get l).get o = v
      rw [Lanes.get_set_self, Three.get_set_self]
    show put.outletMaxChanged l o = _
    unfold State.outletMaxChanged valveDuty
    rw [value]
  · intro h rises
    have taken : Item.changed s put item = put.takeTargets s := by
      rcases h with rfl | ⟨x, rfl⟩ <;> rfl
    have severity : put.settings.matrix.severity = s.settings.matrix.severity := by
      rcases h with rfl | ⟨x, rfl⟩ <;> rfl
    obtain ⟨takes, held, untripped, tripped, stopped, still⟩ := s.targetsTaken_takeTargets put
    rw [severity] at held untripped
    rw [taken]
    refine ⟨takes.frame, takes.filed, takes.caused.congr rfl, takes.told, held, fun l hno => ⟨fun hl => ?_, fun hl hnil => ?_⟩,
      tripped, stopped, still⟩
    · rw [untripped hno, if_neg fun hr => hl ⟨hr.2, hr.1⟩]
      rfl
    · rw [untripped hno, if_pos ⟨hl.2, hl.1⟩]
      show addEntry _ (s.causes l) = _
      rw [hnil]
      rfl
  · rintro rfl
    obtain ⟨tellsA, frameA, matrixA, otherA⟩ := put.silenceTimeChanged_keeps .a
    obtain ⟨tellsB, frameB, matrixB, otherB⟩ := (put.silenceTimeChanged .a).silenceTimeChanged_keeps .b
    have tells := tellsA.trans tellsB
    show let u := (put.silenceTimeChanged .a).silenceTimeChanged .b
      u = _ ∧ _
    refine ⟨?_, ?_, tells.filed, tells.caused.congr rfl, tells.told, fun l => ?_⟩
    · exact frameB.trans (congrArg (fun w : State => { w with
        matrix := ((put.silenceTimeChanged .a).silenceTimeChanged .b).matrix
        links := ((put.silenceTimeChanged .a).silenceTimeChanged .b).links
        events := ((put.silenceTimeChanged .a).silenceTimeChanged .b).events }) frameA)
    · exact matrixB.trans (congrArg (fun m : Matrix => { m with
        causes := ((put.silenceTimeChanged .a).silenceTimeChanged .b).matrix.causes }) matrixA)
    · cases l with
      | a =>
        obtain ⟨silence, causes⟩ := otherB .a (by decide)
        have effect := s.silenceTimeChanged_lane put.settings (v := put) (l := .a) rfl rfl rfl rfl
        obtain ⟨still, silenced⟩ := effect
        have level : ((put.silenceTimeChanged .a).silenceTimeChanged .b).holdLevel .a =
            (put.silenceTimeChanged .a).holdLevel .a := congrArg levelOf causes
        refine ⟨fun h => ?_, fun hs hle => ?_⟩
        · obtain ⟨kept, same⟩ := still h
          exact ⟨silence.trans kept, causes.trans same⟩
        · obtain ⟨flag, down, up⟩ := silenced hs hle
          refine ⟨silence.trans flag, fun hd => ?_, fun hr => causes.trans (up hr)⟩
          obtain ⟨mem, hard⟩ := down hd
          rw [← causes] at mem
          exact ⟨mem, level.trans hard⟩
      | b =>
        obtain ⟨silence, causes⟩ := otherA .b (by decide)
        exact s.silenceTimeChanged_lane put.settings silence causes (by rw [frameA]; rfl) (by rw [frameA])

end Sys2Proof.Machine


/-!
A millisecond's passing for the platen's timers and for the links' silence timers (R31, R34, R177).
-/

namespace Sys2Proof.Machine
open Sys2Proof

/-! ### What a millisecond tells -/

/-- `s` with other interlock inputs. -/
def State.withInputs (x : List InterlockInput) (s : State) : State := { s with matrix := { s.matrix with inputs := x } }

/-- From `s` to `t` the inputs' levels and timers may move, and beside that the matrix only takes causes and trips. -/
def State.passes (s t : State) : Prop := (s.withInputs t.matrix.inputs).tells t

theorem State.tells.withInputs {s t : State} (h : s.tells t) (x : List InterlockInput) :
    (s.withInputs x).tells (t.withInputs x) := by
  obtain ⟨⟨matrix, kept, added, trips⟩, filed, told, raised, settings⟩ := h
  refine ⟨⟨?_, kept, added, trips⟩, filed, told, raised, settings⟩
  show { t.matrix with inputs := x } = _
  rw [matrix]
  rfl

theorem State.tells.passes {s t : State} (h : s.tells t) : s.passes t := by
  have inputs : t.matrix.inputs = s.matrix.inputs := by rw [h.caused.1]
  unfold State.passes
  rw [inputs]
  exact h

theorem State.passes.trans {s t u : State} (h : s.passes t) (k : t.passes u) : s.passes u :=
  (State.tells.withInputs h u.matrix.inputs).trans k

theorem State.passes.keepsCause {s t : State} (h : s.passes t) {l : Lane} {e : CauseEntry} (he : e ∈ s.causes l) :
    ∃ x ∈ t.causes l, x.kind = e.kind ∧ (e.severity = .hard → x.severity = .hard) := h.caused.2.1 l e he

theorem State.passes.keepsTrip {s t : State} (h : s.passes t) {c : TripCause} (hc : c ∈ s.matrix.tripCauses) :
    c ∈ t.matrix.tripCauses := h.caused.2.2.2 c hc

/-! ### The platen's timers -/

/-- The tracker with its timers a millisecond on. -/
def Tracker.timed (t : Tracker) : Tracker :=
  { t with periodTimer := min 16777215 (t.periodTimer + 1000), stallTimer := t.stallTimer.map (· + 1) }

def State.platenTimed (s : State) : State := { s with tracker := s.tracker.timed }

theorem State.tickPlaten_unhomed {s : State} (h : s.tracker.state = .unhomed) : s.tickPlaten = s := by
  rw [State.tickPlaten, h]

theorem State.tickPlaten_homed {s : State} (h : s.tracker.state ≠ .unhomed) : s.tickPlaten =
    match s.platenTimed.tracker.stallTimer with
    | some t => if s.settings.tracker.stallLimit ≤ t then s.platenTimed.stallExpiry else s.platenTimed
    | none => s.platenTimed := by
  rw [State.tickPlaten]
  cases hs : s.tracker.state with
  | unhomed => exact absurd hs h
  | tracking => rfl
  | lost => rfl
  | stalled => rfl

/-- Short of the stall limit the timers alone move. -/
theorem State.tickPlaten_short {s : State} (h : s.tracker.state ≠ .unhomed)
    (short : ∀ n, s.tracker.stallTimer = some n → n + 1 < s.settings.tracker.stallLimit) :
    s.tickPlaten = s.platenTimed := by
  have timer : s.platenTimed.tracker.stallTimer = s.tracker.stallTimer.map (· + 1) := rfl
  rw [State.tickPlaten_homed h, timer]
  cases hn : s.tracker.stallTimer with
  | none => rfl
  | some n => exact if_neg (Nat.not_le.2 (short n hn))

/-- At the stall limit the stall is entered, if it may be. -/
theorem State.tickPlaten_due {s : State} {n : Nat} (h : s.tracker.state ≠ .unhomed)
    (run : s.tracker.stallTimer = some n) (due : s.settings.tracker.stallLimit ≤ n + 1) :
    s.tickPlaten = s.platenTimed.enterStalled := by
  have timer : s.platenTimed.tracker.stallTimer = some (n + 1) := by
    show s.tracker.stallTimer.map (· + 1) = _
    rw [run]
    rfl
  rw [State.tickPlaten_homed h, timer]
  show (if _ then s.platenTimed.stallExpiry else _) = _
  rw [if_pos due, State.stallExpiry, timer]
  rfl

theorem State.tickPlaten_cases (s : State) : s.tickPlaten = s ∨ s.tickPlaten = s.platenTimed ∨
    s.tickPlaten = s.platenTimed.enterStalled := by
  by_cases h : s.tracker.state = .unhomed
  · exact .inl (State.tickPlaten_unhomed h)
  · by_cases due : ∃ n, s.tracker.stallTimer = some n ∧ s.settings.tracker.stallLimit ≤ n + 1
    · obtain ⟨n, run, due⟩ := due
      exact .inr (.inr (State.tickPlaten_due h run due))
    · exact .inr (.inl (State.tickPlaten_short h fun n run => Nat.not_le.1 fun hn => due ⟨n, run, hn⟩))

theorem State.tells_platenTimed (s : State) : s.tells s.platenTimed :=
  State.tells_of_matrix rfl (fun _ => ⟨rfl, fun _ => id⟩) rfl rfl

/-- The stall tells, files and touches no more than the record and the causes. -/
theorem State.enterStalled_tells (s : State) : s.tells s.enterStalled ∧ s.onlyFiled s.enterStalled ∧
    s.enterStalled = { s with
      map := s.enterStalled.map, tracker := s.enterStalled.tracker, matrix := s.enterStalled.matrix
      links := s.enterStalled.links, events := s.enterStalled.events } := by
  by_cases ht : s.tracker.state = .tracking ∨ s.tracker.state = .lost
  · obtain ⟨takes, -⟩ := State.enterStalled_stalls ht
    have record : s.tells s.stalledRecord := State.tells_of_matrix rfl (fun _ => ⟨rfl, fun _ => id⟩) rfl rfl
    refine ⟨record.trans takes.tells, (State.onlyFiled_of_links rfl).trans takes.filed, ?_⟩
    rw [takes.frame]
    rfl
  · have still : s.enterStalled = s := by
      unfold State.enterStalled
      split
      · next h => exact absurd (.inl h) ht
      · next h => exact absurd (.inr h) ht
      · rfl
      · rfl
    rw [still]
    exact ⟨.refl s, State.onlyFiled_of_links rfl, rfl⟩

theorem State.tickPlaten_tells (s : State) : s.tells s.tickPlaten ∧ s.onlyFiled s.tickPlaten ∧
    s.tickPlaten = { s with
      map := s.tickPlaten.map, tracker := s.tickPlaten.tracker, matrix := s.tickPlaten.matrix
      links := s.tickPlaten.links, events := s.tickPlaten.events } := by
  rcases s.tickPlaten_cases with h | h | h <;> rw [h]
  · exact ⟨.refl s, State.onlyFiled_of_links rfl, rfl⟩
  · exact ⟨s.tells_platenTimed, State.onlyFiled_of_links rfl, rfl⟩
  · obtain ⟨tells, filed, frame⟩ := s.platenTimed.enterStalled_tells
    refine ⟨s.tells_platenTimed.trans tells, (State.onlyFiled_of_links rfl).trans filed, ?_⟩
    rw [frame]
    rfl

/-- The platen's timers do not touch the arms. -/
theorem State.tickPlaten_arms (s : State) : s.tickPlaten.tracker.arms = s.tracker.arms := by
  rcases s.tickPlaten_cases with h | h | h <;> rw [h]
  · rfl
  · unfold State.enterStalled
    split
    · rw [State.trackerChanged_tracker]
      rfl
    · rw [State.trackerChanged_tracker]
      rfl
    · rfl
    · rfl

/-- The stall from TRACKING or LOST, with the timers of that millisecond. -/
theorem State.tickPlaten_stalls {s : State} {n : Nat} (h : s.tracker.state ≠ .unhomed)
    (run : s.tracker.stallTimer = some n) (due : s.settings.tracker.stallLimit ≤ n + 1)
    (hs : s.tracker.state ≠ .stalled) :
    s.tickPlaten.tracker = s.tracker.timed.stalled ∧ s.tickPlaten.map = { s.map with suspect := true } ∧
      s.tickPlaten.matrix.station = .tripped ∧ .platenStall ∈ s.tickPlaten.matrix.tripCauses := by
  have runs : s.platenTimed.tracker.state = .tracking ∨ s.platenTimed.tracker.state = .lost := by
    show s.tracker.state = .tracking ∨ s.tracker.state = .lost
    cases hx : s.tracker.state <;> simp_all
  obtain ⟨-, tracker, map, -, station, trips, -⟩ := State.enterStalled_stalls runs
  rw [State.tickPlaten_due h run due]
  exact ⟨tracker, map, station, (trips _).2 (.inl rfl)⟩

/-- Where no stall is due nothing is told. -/
theorem State.tickPlaten_quiet {s : State} (h : s.tracker.state = .unhomed ∨
    ¬ ∃ n, s.tracker.stallTimer = some n ∧ s.settings.tracker.stallLimit ≤ n + 1) :
    s.tickPlaten.matrix = s.matrix ∧ s.tickPlaten.events = s.events ∧ s.tickPlaten.links = s.links := by
  by_cases hu : s.tracker.state = .unhomed
  · rw [State.tickPlaten_unhomed hu]
    exact ⟨rfl, rfl, rfl⟩
  · have short := h.resolve_left hu
    rw [State.tickPlaten_short hu fun n run => Nat.not_le.1 fun hn => short ⟨n, run, hn⟩]
    exact ⟨rfl, rfl, rfl⟩

/-! ### A link's silence timer -/

theorem State.tickSilence_silent {s : State} {l : Lane} (h : (s.links.silence.get l).silent = true) :
    s.tickSilence l = s := if_pos h

/-- The link's timer a millisecond on. -/
def State.silenceTimed (l : Lane) (s : State) : State := s.modSilence l fun x => { x with timer := x.timer + 1 }

theorem State.silenceTimed_silence (l : Lane) (s : State) :
    (s.silenceTimed l).links.silence.get l =
      { s.links.silence.get l with timer := (s.links.silence.get l).timer + 1 } := by
  rw [State.silenceTimed, State.modSilence_silence, if_pos rfl]

theorem State.tickSilence_running {s : State} {l : Lane} (h : (s.links.silence.get l).silent = false) :
    s.tickSilence l = if s.settings.linkSilence ≤ (s.links.silence.get l).timer + 1 then (s.silenceTimed l).goSilent l
      else s.silenceTimed l := by
  have silence := s.silenceTimed_silence l
  have expires : (s.silenceTimed l).silenceExpiry l = (s.silenceTimed l).goSilent l := by
    rw [State.silenceExpiry, silence, h]
    rfl
  have timer : ((s.silenceTimed l).links.silence.get l).timer = (s.links.silence.get l).timer + 1 := by rw [silence]
  rw [State.tickSilence, h, ← expires, ← timer]
  rfl

/-- What a millisecond makes of a link's silence timer, and of the state with it (R177). -/
structure State.silenceTicked (s : State) (l : Lane) (t : State) : Prop where
  tells : s.tells t
  frame : t = { s with matrix := t.matrix, links := t.links, events := t.events }
  station : t.matrix.station = s.matrix.station
  other : ∀ j, j ≠ l → t.links.silence.get j = s.links.silence.get j
  silent : (s.links.silence.get l).silent = true → t = s
  short : (s.links.silence.get l).silent = false → (s.links.silence.get l).timer + 1 < s.settings.linkSilence →
    t = s.silenceTimed l
  due : (s.links.silence.get l).silent = false → s.settings.linkSilence ≤ (s.links.silence.get l).timer + 1 →
    t.links.silence.get l =
        { timer := s.settings.linkSilence, silent := true, cause := decide ((s.lane l).state ≠ .raised) } ∧
      ((s.lane l).state ≠ .raised → ∃ e ∈ t.causes l, e.kind = .linkSilent ∧ e.severity = .hard)

theorem State.silenceTicked_tickSilence (l : Lane) (s : State) : s.silenceTicked l (s.tickSilence l) := by
  have timed : s.tells (s.silenceTimed l) := State.tells_modSilence _ _ _
  have timedOther : ∀ j, j ≠ l → (s.silenceTimed l).links.silence.get j = s.links.silence.get j := fun j hj => by
    rw [State.silenceTimed, State.modSilence_silence, if_neg hj]
  cases hs : (s.links.silence.get l).silent with
  | true =>
    rw [State.tickSilence_silent hs]
    exact ⟨.refl s, rfl, rfl, fun _ _ => rfl, fun _ => rfl, fun h => by simp_all, fun h => by simp_all⟩
  | false =>
    rw [State.tickSilence_running hs]
    by_cases due : s.settings.linkSilence ≤ (s.links.silence.get l).timer + 1
    · rw [if_pos due]
      have gone := (s.silenceTimed l).silenced_goSilent l
      refine ⟨timed.trans gone.tells, ?_, ?_, fun j hj => ((gone.other j hj).1).trans (timedOther j hj),
        fun h => by simp_all, fun _ h => absurd due (Nat.not_le.2 h), fun _ _ => ⟨gone.silence, fun h => (gone.down h).1⟩⟩
      · rw [gone.frame]
        rfl
      · rw [gone.matrix]
        rfl
    · rw [if_neg due]
      exact ⟨timed, rfl, rfl, timedOther, fun h => by simp_all, fun _ _ => rfl, fun _ h => absurd h due⟩

/-- A link that is silent, or short of the link silence time, has only its timer moved. -/
theorem State.silenceTicked.quiet {s t : State} {l : Lane} (h : s.silenceTicked l t)
    (hq : (s.links.silence.get l).silent = true ∨ (s.links.silence.get l).timer + 1 < s.settings.linkSilence) :
    t = { s with links := { s.links with silence := t.links.silence } } := by
  cases hs : (s.links.silence.get l).silent with
  | true => rw [h.silent hs]
  | false =>
    rw [h.short hs (hq.resolve_left (by simp [hs]))]
    rfl

end Sys2Proof.Machine


/-!
A millisecond's passing for the supply lines and their window (R130 to R132).
-/

namespace Sys2Proof.Machine
open Sys2Proof

/-! ### Lines that stop together -/

/-- From `s` to `t` lines of `D` stop: the window and the other lines' states are kept, and a bar keeps its rate and, on
another line, its feed. -/
structure State.linesStopped (D : Line → Prop) (s t : State) : Prop where
  frame : t = { s with slurry := t.slurry, links := t.links }
  filed : s.onlyFiled t
  windowMs : t.slurry.windowMs = s.slurry.windowMs
  counted : ∀ k, (t.line k).measured = (s.line k).measured ∧ (t.line k).window = (s.line k).window
  other : ∀ k, ¬ D k → (t.line k).state = (s.line k).state ∧ (t.line k).prime = (s.line k).prime
  rate : ∀ l, s.rateKept t l
  feed : ∀ l k, ¬ D k → (s.bar l).feed = some k → (t.bar l).feed = some k

variable {D : Line → Prop}

theorem State.linesStopped.refl (s : State) : State.linesStopped D s s :=
  ⟨rfl, State.onlyFiled_of_links rfl, rfl, fun _ => ⟨rfl, rfl⟩, fun _ _ => ⟨rfl, rfl⟩, fun _ => ⟨rfl, rfl⟩, fun _ _ _ => id⟩

theorem State.linesStopped.trans {s t u : State} (h : State.linesStopped D s t) (k : State.linesStopped D t u) :
    State.linesStopped D s u where
  frame := k.frame.trans (congrArg (fun v : State => { v with slurry := u.slurry, links := u.links }) h.frame)
  filed := h.filed.trans k.filed
  windowMs := k.windowMs.trans h.windowMs
  counted := fun j => ⟨(k.counted j).1.trans (h.counted j).1, (k.counted j).2.trans (h.counted j).2⟩
  other := fun j hj => ⟨(k.other j hj).1.trans (h.other j hj).1, (k.other j hj).2.trans (h.other j hj).2⟩
  rate := fun l => ⟨(k.rate l).1.trans (h.rate l).1, (k.rate l).2.trans (h.rate l).2⟩
  feed := fun l j hj hf => k.feed l j hj (h.feed l j hj hf)

theorem State.linesStopped_lineStops {k : Line} (hk : D k) (s : State) : State.linesStopped D s (s.lineStops k) := by
  have moved := s.barsMoved_lineStops k
  refine ⟨by rw [State.lineStops_frame], s.onlyFiled_lineStops k, by rw [State.lineStops_frame]; rfl, fun j => ?_,
    fun j hj => ?_, fun l => ⟨(moved l).1.2.1, (moved l).1.2.2⟩, fun l j hj hf => ?_⟩
  · by_cases hjk : j = k
    · subst hjk
      rw [State.lineStops_line, (recomputeLine_kept s.settings.slurry (s.haltedSlurry j) j).1, State.haltedSlurry_line,
        if_pos rfl]
      exact ⟨rfl, rfl⟩
    · rw [(State.lineStops_other hjk s).1]
      exact ⟨rfl, rfl⟩
  · have hjk : j ≠ k := fun h => hj (h ▸ hk)
    rw [(State.lineStops_other hjk s).1]
    exact ⟨rfl, rfl⟩
  · have off : (s.bar l).feed ≠ some k := fun h => hj (by
      obtain rfl : j = k := Option.some.inj (hf.symm.trans h)
      exact hk)
    rw [((moved l).2.1 off).1, hf]

/-- A line that does not stop is asked for no less flow. -/
theorem State.linesStopped.demand_le {s t : State} {k : Line} (h : State.linesStopped D s t) (hk : ¬ D k)
    (hs : s.slurry.flowsTrue s.settings.slurry) (ht : t.slurry.flowsTrue s.settings.slurry) :
    (s.line k).demand ≤ (t.line k).demand := by
  have outlets : ∀ l, (t.bar l).outlets.map (·.demand) = (s.bar l).outlets.map (·.demand) := fun l =>
    Three.ext_get fun o => by
      obtain ⟨rate, weights⟩ := h.rate l
      have before := (hs.1 l o).1
      have after := (ht.1 l o).1
      rw [Three.get_map, Three.get_map]
      show ((t.slurry.bars.get l).outlets.get o).demand = ((s.slurry.bars.get l).outlets.get o).demand
      rw [before, after]
      show (if (t.bar l).weights.inner + (t.bar l).weights.middle + (t.bar l).weights.outer = 0 then 0 else
        (t.bar l).rate * (t.bar l).weights.get o /
          ((t.bar l).weights.inner + (t.bar l).weights.middle + (t.bar l).weights.outer)) = _
      rw [rate, weights]
      rfl
  have bar : ∀ l, (s.bar l).demandOn k ≤ (t.bar l).demandOn k := fun l => by
    unfold Bar.demandOn
    by_cases hf : (s.bar l).feed = some k
    · rw [if_pos hf, if_pos (h.feed l k hk hf), outlets]
    · rw [if_neg hf]
      exact Nat.zero_le _
  have before : (s.line k).demand = (s.bar .a).demandOn k + (s.bar .b).demandOn k := (hs.2 k).1
  have after : (t.line k).demand = (t.bar .a).demandOn k + (t.bar .b).demandOn k := (ht.2 k).1
  rw [before, after]
  exact Nat.add_le_add (bar .a) (bar .b)

/-- So its pump runs no slower. -/
theorem State.linesStopped.duty_le {s t : State} {k : Line} (h : State.linesStopped D s t) (hk : ¬ D k)
    (hs : s.slurry.flowsTrue s.settings.slurry) (ht : t.slurry.flowsTrue s.settings.slurry) :
    (s.line k).duty ≤ (t.line k).duty := by
  have demand := h.demand_le hk hs ht
  have state := (h.other k hk).1
  obtain ⟨-, -, sOff, sPriming, sReady, sDuty⟩ := hs.2 k
  obtain ⟨-, -, -, tPriming, tReady, tDuty⟩ := ht.2 k
  change (s.line k).state = _ ∨ (s.line k).state = _ → _ at sOff
  change (s.line k).state = _ → _ at sPriming sReady
  change (t.line k).state = _ → _ at tPriming tReady
  rw [state] at tPriming tReady
  have setpoint : (s.line k).setpoint ≤ (t.line k).setpoint := by
    cases hstate : (s.line k).state with
    | off => exact (Nat.le_of_eq (sOff (.inl hstate))).trans (Nat.zero_le _)
    | stopped => exact (Nat.le_of_eq (sOff (.inr hstate))).trans (Nat.zero_le _)
    | priming => exact Nat.le_of_eq ((sPriming hstate).trans (tPriming hstate).symm)
    | ready =>
      have before := sReady hstate
      have after := tReady hstate
      change (s.line k).setpoint = max _ (min (s.line k).demand _) at before
      change (t.line k).setpoint = max _ (min (t.line k).demand _) at after
      rw [before, after]
      exact max_le_max le_rfl (min_le_min demand le_rfl)
  exact sDuty.trans_le ((Nat.div_le_div_right (Nat.mul_le_mul_right 4095 setpoint)).trans_eq tDuty.symm)

/-! ### The timers advance together -/

/-- The last-pulse timers that run are a millisecond on. -/
def State.linesTimed (s : State) : State := s.modSlurry fun q => { q with lines := q.lines.map SupplyLine.advance }

theorem SupplyLine.advance_eq (x : SupplyLine) :
    x.advance = { x with lastPulse := if x.timed then x.lastPulse + 1 else x.lastPulse } := by
  unfold SupplyLine.advance
  split <;> rfl

theorem State.linesTimed_line (s : State) (k : Line) : s.linesTimed.line k =
    { s.line k with lastPulse := if (s.line k).timed then (s.line k).lastPulse + 1 else (s.line k).lastPulse } :=
  (Lines.get_map _ _ _).trans (SupplyLine.advance_eq _)

/-- A line expires in this millisecond. -/
def State.expires (s : State) (k : Line) : Prop :=
  (((s.line k).state = .priming ∨ (s.line k).state = .ready) ∧ 0 < (s.line k).duty) ∧
    s.settings.slurry.stopTimeout.get k ≤ (s.line k).lastPulse + 1

theorem State.linesTimed_due (s : State) (k : Line) : s.linesTimed.lineDue k = true ↔ s.expires k := by
  unfold State.expires State.lineDue
  rw [← SupplyLine.timed_iff, Bool.and_eq_true, decide_eq_true_iff, State.linesTimed_line]
  refine and_congr_right fun ht => ?_
  have timed : (s.line k).timed = true := ht
  rw [if_pos timed]
  rfl

/-- The flows say nothing of a line's timer and counts. -/
theorem Slurry.flowsTrue.congr {g : SlurrySettings} {q r : Slurry} (h : q.flowsTrue g) (bars : r.bars = q.bars)
    (lines : ∀ k, ∃ p m w, r.lines.get k = { q.lines.get k with lastPulse := p, measured := m, window := w }) :
    r.flowsTrue g := by
  refine ⟨fun l o => ?_, fun k => ?_⟩
  · have flow := h.1 l o
    have demand : ∀ k, (r.lines.get k).demand = (q.lines.get k).demand := fun k => by
      obtain ⟨p, m, w, line⟩ := lines k
      rw [line]
    simp only [bars, demand]
    exact flow
  · have flow := h.2 k
    obtain ⟨p, m, w, line⟩ := lines k
    simp only [bars, line]
    exact flow

theorem State.linesTimed_flowsTrue {s : State} (h : s.slurry.flowsTrue s.settings.slurry) :
    s.linesTimed.slurry.flowsTrue s.settings.slurry :=
  h.congr rfl fun k => ⟨_, _, _, s.linesTimed_line k⟩

/-! ### The lines that are due stop -/

/-- Line `k` stops, if it was due in `v`. -/
def State.stopDue (v : State) (k : Line) (u : State) : State := if v.lineDue k then u.stopTimeout k else u

theorem State.tickLines_eq (s : State) : s.tickLines =
    s.linesTimed.stopDue .l3 (s.linesTimed.stopDue .l2 (s.linesTimed.stopDue .l1 s.linesTimed)) := rfl

theorem State.stopDue_of_not {v : State} {k : Line} (h : ¬ v.lineDue k = true) (u : State) : v.stopDue k u = u := if_neg h

theorem State.stopDue_self {v : State} {k : Line} (h : v.lineDue k = true) : v.stopDue k v = v.lineStops k := by
  have timed : (v.line k).timed = true := (Bool.and_eq_true _ _ ▸ h).1
  rw [State.stopDue, if_pos h, State.stopTimeout, if_pos timed]

/-- What holds of the timed state, and through each stop of a line that expires, holds at the end. -/
theorem State.tickLines_induct {P : State → Prop} {s : State} (timed : P s.linesTimed)
    (stops : ∀ k u, s.expires k → P u → P (u.lineStops k)) : P s.tickLines := by
  have stop : ∀ k u, P u → P (s.linesTimed.stopDue k u) := fun k u hu => by
    unfold State.stopDue State.stopTimeout
    split
    · next due =>
      split
      · exact stops k u ((s.linesTimed_due k).1 due) hu
      · exact hu
    · exact hu
  exact stop _ _ (stop _ _ (stop _ _ timed))

theorem State.linesStopped_tickLines (s : State) : State.linesStopped s.expires s.linesTimed s.tickLines :=
  State.tickLines_induct (.refl _) fun _ u hk hu => hu.trans (u.linesStopped_lineStops hk)

theorem State.tickLines_none {s : State} (h : ∀ k, ¬ s.expires k) : s.tickLines = s.linesTimed := by
  have not_due : ∀ k u, s.linesTimed.stopDue k u = u := fun k => State.stopDue_of_not (mt (s.linesTimed_due k).1 (h k))
  rw [State.tickLines_eq, not_due, not_due, not_due]

theorem State.tickLines_one {s : State} {k : Line} (hk : s.expires k) (h : ∀ j, j ≠ k → ¬ s.expires j) :
    s.tickLines = s.linesTimed.lineStops k := by
  have not_due : ∀ j, j ≠ k → ∀ u, s.linesTimed.stopDue j u = u := fun j hj =>
    State.stopDue_of_not (mt (s.linesTimed_due j).1 (h j hj))
  have due := State.stopDue_self ((s.linesTimed_due k).2 hk)
  rw [State.tickLines_eq]
  cases k with
  | l1 => rw [due, not_due .l2 nofun, not_due .l3 nofun]
  | l2 => rw [not_due .l1 nofun, due, not_due .l3 nofun]
  | l3 => rw [not_due .l1 nofun, not_due .l2 nofun, due]

/-- The settings are those of `s`, and every flow is as they derive it. -/
def State.flowing (s u : State) : Prop := u.settings = s.settings ∧ u.slurry.flowsTrue s.settings.slurry

theorem State.flowing_lineStops {s u : State} (h : u.settings = s.settings) (k : Line) : s.flowing (u.lineStops k) := by
  have flows := u.lineStops_flowsTrue k
  rw [h] at flows
  exact ⟨by rw [State.lineStops_frame]; exact h, flows⟩

theorem State.flowing_stopDue {s u : State} (h : s.flowing u) (v : State) (k : Line) : s.flowing (v.stopDue k u) := by
  unfold State.stopDue State.stopTimeout
  split
  · split
    · exact State.flowing_lineStops h.1 k
    · exact h
  · exact h

/-- Where a line has stopped, every flow is as the rules derive it. -/
theorem State.tickLines_flowsTrue {s : State} {k : Line} (hk : s.expires k) :
    s.tickLines.slurry.flowsTrue s.settings.slurry := by
  have first : ∀ j, s.linesTimed.stopDue j s.linesTimed = s.linesTimed ∨
      s.flowing (s.linesTimed.stopDue j s.linesTimed) := fun j => by
    by_cases due : s.linesTimed.lineDue j = true
    · rw [State.stopDue_self due]
      exact .inr (State.flowing_lineStops (u := s.linesTimed) rfl j)
    · exact .inl (State.stopDue_of_not due _)
  have keeps : ∀ j u, (u = s.linesTimed ∨ s.flowing u) →
      s.linesTimed.stopDue j u = s.linesTimed ∨ s.flowing (s.linesTimed.stopDue j u) := fun j u hu => by
    rcases hu with rfl | flows
    · exact first j
    · exact .inr (State.flowing_stopDue flows _ j)
  have makes : ∀ u, (u = s.linesTimed ∨ s.flowing u) → s.flowing (s.linesTimed.stopDue k u) := fun u hu => by
    rcases hu with rfl | flows
    · rw [State.stopDue_self ((s.linesTimed_due k).2 hk)]
      exact State.flowing_lineStops (u := s.linesTimed) rfl k
    · exact State.flowing_stopDue flows _ k
  rw [State.tickLines_eq]
  cases k with
  | l1 => exact (State.flowing_stopDue (State.flowing_stopDue (makes _ (.inl rfl)) _ .l2) _ .l3).2
  | l2 => exact (State.flowing_stopDue (makes _ (first .l1)) _ .l3).2
  | l3 => exact (makes _ (keeps .l2 _ (first .l1))).2

/-- A line that does not expire has its timer as the millisecond left it, where at most one line stops; but a timer may be
held. -/
theorem State.tickLines_timer {s : State} {k : Line} (hk : ¬ s.expires k)
    (one : ∀ i j, s.expires i → s.expires j → i = j) :
    (s.tickLines.line k).lastPulse = (s.linesTimed.line k).lastPulse ∨
      ((s.tickLines.line k).duty = 0 ∧ (s.tickLines.line k).lastPulse = 0) := by
  by_cases some : ∃ j, s.expires j
  · obtain ⟨j, hj⟩ := some
    rw [State.tickLines_one hj fun i hi h => hi (one i j h hj)]
    exact (State.lineStops_other (fun h : k = j => hk (h ▸ hj)) s.linesTimed).2
  · rw [State.tickLines_none fun j hj => some ⟨j, hj⟩]
    exact .inl rfl

/-- However many lines stop, the timer of one that does not is as the millisecond left it, where flows and timers were as
the rules derive them. -/
theorem State.tickLines_timer_true {s : State} {k : Line} (hk : ¬ s.expires k)
    (flows : s.slurry.flowsTrue s.settings.slurry) (held : s.slurry.timersHeld) :
    (s.tickLines.line k).lastPulse = (s.linesTimed.line k).lastPulse := by
  have idle : (s.line k).duty = 0 → (s.linesTimed.line k).lastPulse = 0 := fun h => by
    have still : (s.line k).timed = false := by simp [SupplyLine.timed, h]
    rw [State.linesTimed_line, still]
    exact held k h
  have timed := State.linesTimed_flowsTrue flows
  refine (State.tickLines_induct (P := fun u => State.linesStopped s.expires s.linesTimed u ∧
    (u.line k).lastPulse = (s.linesTimed.line k).lastPulse) ⟨.refl _, rfl⟩ fun j u hj hu => ?_).2
  obtain ⟨stopped, timer⟩ := hu
  have next := stopped.trans (u.linesStopped_lineStops hj)
  refine ⟨next, ?_⟩
  rcases (State.lineStops_other (fun h : k = j => hk (h ▸ hj)) u).2 with same | ⟨duty, zero⟩
  · exact same.trans timer
  · have settings : u.settings = s.settings := by rw [stopped.frame]; rfl
    have after := u.lineStops_flowsTrue j
    rw [settings] at after
    have before := next.duty_le hk timed after
    rw [duty, State.linesTimed_line] at before
    rw [zero, idle (Nat.le_zero.1 before)]

/-! ### The window -/

theorem State.tickWindow_frame (s : State) : s.tickWindow = { s with slurry := s.tickWindow.slurry } := by
  unfold State.tickWindow
  simp only
  split <;> rfl

theorem State.tickWindow_slurry (s : State) :
    s.tickWindow.slurry.bars = s.slurry.bars ∧
    s.tickWindow.slurry.windowMs = (if 1000 ≤ s.slurry.windowMs + 1 then 0 else s.slurry.windowMs + 1) ∧
    ∀ k, s.tickWindow.line k = { s.line k with
      measured := if 1000 ≤ s.slurry.windowMs + 1 then
        (s.line k).window * 60000 / s.settings.slurry.pulsesPerLitre.get k else (s.line k).measured
      window := if 1000 ≤ s.slurry.windowMs + 1 then 0 else (s.line k).window } := by
  have ends : s.tickWindow = if 1000 ≤ s.slurry.windowMs + 1 then
      (s.modSlurry fun q => { q with windowMs := q.windowMs + 1 }).windowEnd
      else s.modSlurry fun q => { q with windowMs := q.windowMs + 1 } := rfl
  rw [ends]
  by_cases h : 1000 ≤ s.slurry.windowMs + 1
  · simp only [if_pos h]
    exact ⟨rfl, rfl, fun k => by cases k <;> rfl⟩
  · simp only [if_neg h]
    exact ⟨rfl, rfl, fun k => rfl⟩

theorem State.tickWindow_flowsTrue {g : SlurrySettings} {s : State} (h : s.slurry.flowsTrue g) :
    s.tickWindow.slurry.flowsTrue g := by
  obtain ⟨bars, -, lines⟩ := s.tickWindow_slurry
  exact h.congr bars fun k => ⟨_, _, _, lines k⟩

end Sys2Proof.Machine


/-!
A millisecond's passing for the interlock inputs and for the conditioner's timers (R118, R149).
-/

namespace Sys2Proof.Machine
open Sys2Proof

/-! ### An input's debounce timer -/

theorem State.takeTargets_station {s : State} (before : State) (h : s.matrix.station = .tripped) :
    (s.takeTargets before).matrix.station = .tripped := by
  have rises : ∀ (b a : Bool) (f : State → State) (u : State), u.matrix.station = .tripped →
      (f u).matrix.station = .tripped → (u.onRise b a f).matrix.station = .tripped := fun b a f u hu hf => by
    unfold State.onRise
    split
    · exact hf
    · exact hu
  have cause : ∀ l e (u : State), u.matrix.station = .tripped → (u.addCause l e).matrix.station = .tripped :=
    fun l e u hu => (u.addCause_station l e).1.trans hu
  have holdA := rises (before.targetActive .holdA) (s.targetActive .holdA)
    (·.addCause .a (causeEntry .input (s.settings.matrix.severity.get .a))) s h (cause _ _ _ h)
  have holdB := rises (before.targetActive .holdB) (s.targetActive .holdB)
    (·.addCause .b (causeEntry .input (s.settings.matrix.severity.get .b))) _ holdA (cause _ _ _ holdA)
  have trip := rises (before.targetActive .stationTrip) (s.targetActive .stationTrip) (·.tripCause .input) _ holdB
    (State.tripCause_tripsTo _ _).1
  exact rises (before.targetActive .slurryStop) (s.targetActive .slurryStop) (·.raise .slurryStop) _ trip trip

/-- An input after a millisecond (R149). -/
def InterlockInput.ticked (x : InterlockInput) : InterlockInput :=
  if x.pin = x.accepted then x
  else if x.timer + 1 < x.limit then { x with timer := x.timer + 1 }
  else { x with accepted := x.pin, timer := 0 }

/-- The input stays short of its debounce time in this millisecond. -/
def InterlockInput.short (x : InterlockInput) : Prop := x.pin = x.accepted ∨ x.timer + 1 < x.limit

/-- An input whose pin differs is one of the matrix. -/
theorem Matrix.input_differs {m : Matrix} {i : InputIndex} (h : (m.input i).pin ≠ (m.input i).accepted) :
    i.val < m.inputs.length := by
  by_contra hi
  exact h (by rw [Matrix.input, List.getD_eq_default _ _ (Nat.not_lt.1 hi)]; rfl)

theorem State.modInput_input {s : State} {i : InputIndex} (hi : i.val < s.matrix.inputs.length) (j : InputIndex)
    (f : InterlockInput → InterlockInput) :
    (s.modInput i f).matrix.input j = if j = i then f (s.matrix.input i) else s.matrix.input j := by
  show (s.matrix.inputs.set i.val (f (s.matrix.input i))).getD j.val _ = _
  by_cases h : j = i
  · subst h
    rw [if_pos rfl, List.getD_eq_getElem?_getD, List.getElem?_set_self hi]
    rfl
  · rw [if_neg h, List.getD_eq_getElem?_getD, List.getElem?_set_ne fun he => h (Fin.ext he.symm)]
    exact (List.getD_eq_getElem?_getD ..).symm

/-- What a millisecond makes of the inputs of `is`, and of the state with them. -/
structure State.inputsTicked (s : State) (is : List InputIndex) (t : State) : Prop where
  passes : s.passes t
  filed : s.onlyFiled t
  frame : t = { s with matrix := t.matrix, links := t.links, events := t.events }
  tripped : s.matrix.station = .tripped → t.matrix.station = .tripped
  input : ∀ j, t.matrix.input j = if j ∈ is then (s.matrix.input j).ticked else s.matrix.input j
  quiet : (∀ i ∈ is, (s.matrix.input i).short) → t = s.withInputs t.matrix.inputs

theorem State.inputsTicked_of_inputs {s : State} {is : List InputIndex} (x : List InterlockInput)
    (input : ∀ j, (s.withInputs x).matrix.input j = if j ∈ is then (s.matrix.input j).ticked else s.matrix.input j) :
    s.inputsTicked is (s.withInputs x) :=
  ⟨.refl (s.withInputs x), State.onlyFiled_of_links rfl, rfl, id, input, fun _ => rfl⟩

theorem State.tickInput_differs {s : State} {i : InputIndex} (h : (s.matrix.input i).pin ≠ (s.matrix.input i).accepted) :
    s.tickInput i = if (s.matrix.input i).limit ≤ (s.matrix.input i).timer + 1 then
      (s.modInput i fun x => { x with timer := x.timer + 1 }).acceptLevel i
      else s.modInput i fun x => { x with timer := x.timer + 1 } := by
  have input := State.modInput_input (Matrix.input_differs h) i fun x => { x with timer := x.timer + 1 }
  rw [if_pos rfl] at input
  unfold State.tickInput State.debounceExpiry
  simp only [if_neg h, input]

theorem State.inputsTicked_tickInput (i : InputIndex) (s : State) : s.inputsTicked [i] (s.tickInput i) := by
  by_cases h : (s.matrix.input i).pin = (s.matrix.input i).accepted
  · have still : s.tickInput i = s := if_pos h
    rw [still]
    refine State.inputsTicked_of_inputs s.matrix.inputs fun j => ?_
    split
    · next hj =>
      obtain rfl := List.mem_singleton.1 hj
      exact (if_pos h).symm
    · rfl
  · have counted := State.modInput_input (Matrix.input_differs h)
    rw [State.tickInput_differs h]
    by_cases due : (s.matrix.input i).limit ≤ (s.matrix.input i).timer + 1
    · rw [if_pos due]
      set timed := s.modInput i fun x => { x with timer := x.timer + 1 } with htimed
      set v := timed.modInput i fun x => { x with accepted := x.pin, timer := 0 } with hv
      have present : i.val < timed.matrix.inputs.length := by
        show i.val < (s.matrix.inputs.set _ _).length
        rw [List.length_set]
        exact Matrix.input_differs h
      have taken := State.targetsTaken_takeTargets timed v
      have inputs : (v.takeTargets timed).matrix.inputs = v.matrix.inputs := by rw [taken.takes.caused.1]
      refine ⟨State.passes.trans (s := s) (t := v) (.refl v) taken.takes.tells.passes,
        (State.onlyFiled_of_links rfl).trans taken.takes.filed, ?_, State.takeTargets_station (s := v) timed,
        fun j => ?_, fun short => ?_⟩
      · exact taken.takes.frame
      · have same : (timed.acceptLevel i).matrix.input j = v.matrix.input j := congrArg (List.getD · j.val _) inputs
        rw [same, hv, State.modInput_input present, counted, counted]
        by_cases hj : j = i
        · subst hj
          rw [if_pos rfl, if_pos rfl, if_pos (List.mem_singleton_self _), InterlockInput.ticked, if_neg h,
            if_neg (Nat.not_lt.2 due)]
        · rw [if_neg hj, if_neg hj, if_neg (mt List.mem_singleton.1 hj)]
      · exact absurd due (Nat.not_le.2 ((short i (List.mem_singleton_self _)).resolve_left h))
    · rw [if_neg due]
      refine State.inputsTicked_of_inputs _ fun j => ?_
      refine (counted j fun x => { x with timer := x.timer + 1 }).trans ?_
      by_cases hj : j = i
      · subst hj
        rw [if_pos rfl, if_pos (List.mem_singleton_self _), InterlockInput.ticked, if_neg h, if_pos (Nat.not_le.1 due)]
      · rw [if_neg hj, if_neg (mt List.mem_singleton.1 hj)]

/-- Inputs tick one after the other, each once. -/
theorem State.inputsTicked_foldl {is : List InputIndex} (h : is.Nodup) (s : State) :
    s.inputsTicked is (is.foldl State.tickInput s) := by
  induction is generalizing s with
  | nil => exact State.inputsTicked_of_inputs s.matrix.inputs fun j => (if_neg List.not_mem_nil).symm
  | cons i rest ih =>
    obtain ⟨fresh, distinct⟩ := List.nodup_cons.1 h
    have one := s.inputsTicked_tickInput i
    have more := ih distinct (s.tickInput i)
    have other : ∀ j ∈ rest, (s.tickInput i).matrix.input j = s.matrix.input j := fun j hj => by
      have hji : j ∉ [i] := fun hi => fresh ((List.mem_singleton.1 hi : j = i) ▸ hj)
      rw [one.input, if_neg hji]
    refine ⟨one.passes.trans more.passes, one.filed.trans more.filed, ?_, fun ht => more.tripped (one.tripped ht),
      fun j => ?_, fun short => ?_⟩
    · exact more.frame.trans (congrArg (fun v : State => { v with
        matrix := ((i :: rest).foldl State.tickInput s).matrix, links := ((i :: rest).foldl State.tickInput s).links
        events := ((i :: rest).foldl State.tickInput s).events }) one.frame)
    · show ((rest.foldl State.tickInput (s.tickInput i)).matrix.input j) = _
      rw [more.input]
      by_cases hj : j ∈ rest
      · rw [if_pos hj, other j hj, if_pos (List.mem_cons_of_mem _ hj)]
      · rw [if_neg hj, one.input]
        simp [hj]
    · have first := one.quiet fun j hj => short j (List.mem_singleton.1 hj ▸ List.mem_cons_self)
      have later := more.quiet fun j hj => by
        rw [other j hj]
        exact short j (List.mem_cons_of_mem _ hj)
      exact later.trans ((congrArg (State.withInputs ((i :: rest).foldl State.tickInput s).matrix.inputs) first).trans rfl)

/-! ### The conditioner's timers -/

/-- The settle, lift and homing timers a millisecond on. -/
def Conditioner.timed (c : Conditioner) : Conditioner :=
  { c with
    settleTimer := c.settleTimer.map (· + 1), liftTimer := c.liftTimer.map (· + 1)
    homingTimer := c.homingTimer.map (· + 1) }

/-- A timer that runs reaches its limit in this millisecond. -/
def timerDue (limit : Nat) (timer : Option Nat) : Prop := ∃ n, timer = some n ∧ limit ≤ n + 1

theorem reached_iff (limit : Nat) (timer : Option Nat) : reached limit (timer.map (· + 1)) = true ↔ timerDue limit timer := by
  unfold timerDue
  cases timer with
  | none => simp [reached]
  | some n => simp [reached]

/-- The conditioner's timers a millisecond on. -/
def State.condTimed (s : State) : State := { s with cond := s.cond.timed }

theorem State.tickCond_eq (s : State) : s.tickCond =
    if reached 500 (s.cond.settleTimer.map (· + 1)) then s.condTimed.settleTimeout
    else if reached 2000 (s.cond.liftTimer.map (· + 1)) then s.condTimed.liftTimeout
    else if reached 60000 (s.cond.homingTimer.map (· + 1)) then s.condTimed.homingTimeout
    else s.condTimed := rfl

theorem State.tickCond_quiet {s : State} (settle : ¬ timerDue 500 s.cond.settleTimer) (lift : ¬ timerDue 2000 s.cond.liftTimer)
    (homing : ¬ timerDue 60000 s.cond.homingTimer) : s.tickCond = s.condTimed := by
  rw [State.tickCond_eq, if_neg (mt (reached_iff _ _).1 settle), if_neg (mt (reached_iff _ _).1 lift),
    if_neg (mt (reached_iff _ _).1 homing)]

theorem State.tickCond_settle {s : State} {r : Nat} (stroke : s.strokeRadius = some r)
    (far : 50 < ((s.arm .cond).count.toInt - r).natAbs) (run : timerDue 500 s.cond.settleTimer) :
    s.tickCond = s.condTimed.condFault .settle := by
  obtain ⟨n, hn, -⟩ := id run
  have runs : s.condTimed.cond.settleTimer.isSome = true := by
    show (s.cond.settleTimer.map (· + 1)).isSome = true
    rw [hn]
    rfl
  have stroked : s.condTimed.strokeRadius = some r := stroke
  have away : s.condTimed.arrivalDue = false := by
    unfold State.arrivalDue
    rw [stroked]
    exact decide_eq_false (Nat.not_le.2 far)
  rw [State.tickCond_eq, if_pos ((reached_iff _ _).2 run), State.settleTimeout, if_pos ⟨by rw [stroked]; rfl, runs, away⟩]

theorem State.tickCond_lift {s : State} (state : s.cond.state = .lifting) (settle : s.cond.settleTimer = none)
    (run : timerDue 2000 s.cond.liftTimer) : s.tickCond = s.condTimed.condFault .lift := by
  obtain ⟨n, hn, -⟩ := id run
  have runs : s.condTimed.cond.liftTimer.isSome = true := by
    show (s.cond.liftTimer.map (· + 1)).isSome = true
    rw [hn]
    rfl
  have unsettled : ¬ timerDue 500 s.cond.settleTimer := by
    rintro ⟨m, hm, -⟩
    rw [settle] at hm
    cases hm
  rw [State.tickCond_eq, if_neg (mt (reached_iff _ _).1 unsettled), if_pos ((reached_iff _ _).2 run), State.liftTimeout,
    if_pos ⟨state, runs⟩]

theorem State.tickCond_homing {s : State} (state : s.cond.state = .homing) (settle : s.cond.settleTimer = none)
    (lift : s.cond.liftTimer = none) (run : timerDue 60000 s.cond.homingTimer) :
    s.tickCond = s.condTimed.condFault .homing := by
  have stopped : ∀ limit, ¬ timerDue limit none := fun limit => by rintro ⟨m, hm, -⟩; cases hm
  rw [State.tickCond_eq, if_neg (mt (reached_iff _ _).1 (settle ▸ stopped 500)),
    if_neg (mt (reached_iff _ _).1 (lift ▸ stopped 2000)), if_pos ((reached_iff _ _).2 run), State.homingTimeout]
  exact if_pos state

theorem State.tickCond_cases (s : State) : s.tickCond = s.condTimed ∨ ∃ k, s.tickCond = s.condTimed.condFault k := by
  rw [State.tickCond_eq]
  unfold State.settleTimeout State.liftTimeout State.homingTimeout
  (repeat' split)
  · exact .inr ⟨_, rfl⟩
  · exact .inl rfl
  · exact .inr ⟨_, rfl⟩
  · exact .inl rfl
  · exact .inr ⟨_, rfl⟩
  · exact .inl rfl
  · exact .inl rfl

/-- A conditioner's fault is its own, and is told to port S (R119). -/
theorem State.condTimed_condFault (k : FaultKind) (s : State) :
    (s.condTimed.condFault k).cond = (s.faulted k).cond ∧ (s.condTimed.condFault k).hub = (s.faulted k).hub ∧
      .condFault ∈ ((s.condTimed.condFault k).port .s).notices :=
  ⟨rfl, rfl, (State.mem_file _ _ _ _ _).2 (.inl ⟨rfl, rfl⟩)⟩

theorem State.tickCond_kept (s : State) : s.onlyFiled s.tickCond ∧
    s.tickCond = { s with cond := s.tickCond.cond, hub := s.tickCond.hub, links := s.tickCond.links } := by
  rcases s.tickCond_cases with h | ⟨k, h⟩ <;> rw [h]
  · exact ⟨State.onlyFiled_of_links rfl, rfl⟩
  · refine ⟨(State.onlyFiled_of_links rfl).trans (State.onlyFiled_file .s .condFault _), rfl⟩

end Sys2Proof.Machine


/-!
One millisecond as the sum of its parts, and what each part's timer makes of the state at its end.
-/

namespace Sys2Proof.Machine
open Sys2Proof

/-! ### The parts of a millisecond -/

/-- The millisecond's work up to the links, up to the supply lines' window, and up to the interlock inputs. -/
def State.tickedLinks (s : State) : State := (s.tickPlaten.tickSilence .a).tickSilence .b
def State.tickedLines (s : State) : State := s.tickedLinks.tickLines.tickWindow
def State.tickedInputs (s : State) : State := (List.finRange 8).foldl State.tickInput s.tickedLines

theorem State.tick_eq (s : State) : s.tick = s.tickedInputs.tickCond := rfl

variable (s : State)

theorem State.silenceTicked_a : s.tickPlaten.silenceTicked .a (s.tickPlaten.tickSilence .a) :=
  State.silenceTicked_tickSilence _ _

theorem State.silenceTicked_b : (s.tickPlaten.tickSilence .a).silenceTicked .b s.tickedLinks :=
  State.silenceTicked_tickSilence _ _

theorem State.inputsTicked_all : s.tickedLines.inputsTicked (List.finRange 8) s.tickedInputs :=
  State.inputsTicked_foldl (List.nodup_finRange 8) _

theorem State.tickedLinks_frame : s.tickedLinks = { s with
    map := s.tickPlaten.map, tracker := s.tickPlaten.tracker, matrix := s.tickedLinks.matrix
    links := s.tickedLinks.links, events := s.tickedLinks.events } := by
  have first : s.tickPlaten.tickSilence .a = { s with
      map := s.tickPlaten.map, tracker := s.tickPlaten.tracker, matrix := (s.tickPlaten.tickSilence .a).matrix
      links := (s.tickPlaten.tickSilence .a).links, events := (s.tickPlaten.tickSilence .a).events } :=
    s.silenceTicked_a.frame.trans (congrArg (fun v : State => { v with
      matrix := (s.tickPlaten.tickSilence .a).matrix, links := (s.tickPlaten.tickSilence .a).links
      events := (s.tickPlaten.tickSilence .a).events }) s.tickPlaten_tells.2.2)
  exact s.silenceTicked_b.frame.trans (congrArg (fun v : State => { v with
    matrix := s.tickedLinks.matrix, links := s.tickedLinks.links, events := s.tickedLinks.events }) first)

theorem State.tickedLines_kept : s.tickedLines = { s.tickedLinks with
    slurry := s.tickedLines.slurry, links := s.tickedLines.links } ∧ s.tickedLinks.onlyFiled s.tickedLines := by
  have stopped := s.tickedLinks.linesStopped_tickLines
  have timed : s.tickedLinks.tickLines = { s.tickedLinks with
      slurry := s.tickedLinks.tickLines.slurry, links := s.tickedLinks.tickLines.links } := stopped.frame
  have window : s.tickedLines = { s.tickedLinks.tickLines with slurry := s.tickedLines.slurry } :=
    s.tickedLinks.tickLines.tickWindow_frame
  have links : s.tickedLines.links = s.tickedLinks.tickLines.links := by rw [window]
  have filed : s.tickedLinks.onlyFiled s.tickedLinks.tickLines := (State.onlyFiled_of_links rfl).trans stopped.filed
  refine ⟨?_, filed.trans (State.onlyFiled_of_links links)⟩
  rw [links]
  exact window.trans (congrArg (fun v : State => { v with slurry := s.tickedLines.slurry }) timed)

theorem State.tickedInputs_frame : s.tickedInputs = { s with
    map := s.tickPlaten.map, tracker := s.tickPlaten.tracker, slurry := s.tickedLines.slurry
    matrix := s.tickedInputs.matrix, links := s.tickedInputs.links, events := s.tickedInputs.events } := by
  have lines : s.tickedLines = { s with
      map := s.tickPlaten.map, tracker := s.tickPlaten.tracker, slurry := s.tickedLines.slurry
      matrix := s.tickedLinks.matrix, links := s.tickedLines.links, events := s.tickedLinks.events } :=
    s.tickedLines_kept.1.trans (congrArg (fun v : State => { v with
      slurry := s.tickedLines.slurry, links := s.tickedLines.links }) s.tickedLinks_frame)
  exact s.inputsTicked_all.frame.trans (congrArg (fun v : State => { v with
    matrix := s.tickedInputs.matrix, links := s.tickedInputs.links, events := s.tickedInputs.events }) lines)

theorem State.tick_kept : s.tickedInputs.onlyFiled s.tick ∧ s.tick = { s.tickedInputs with
    cond := s.tick.cond, hub := s.tick.hub, links := s.tick.links } := by
  rw [State.tick_eq]
  exact s.tickedInputs.tickCond_kept

theorem State.tick_frame : s.tick = { s with
    map := s.tickPlaten.map, tracker := s.tickPlaten.tracker, hub := s.tick.hub, cond := s.tick.cond
    slurry := s.tickedLines.slurry, matrix := s.tickedInputs.matrix, links := s.tick.links
    events := s.tickedInputs.events } := by
  have first := s.tickedInputs_frame
  have last := s.tick_kept.2
  generalize s.tickedInputs = u at first last ⊢
  generalize s.tick = t at last ⊢
  exact last.trans (congrArg (fun v : State => { v with cond := t.cond, hub := t.hub, links := t.links }) first)

theorem State.tick_matrix : s.tick.matrix = s.tickedInputs.matrix := by
  have last := s.tick_kept.2
  generalize s.tick = t at last ⊢
  rw [last]

/-! ### What is told, and what stays told -/

theorem State.tells_tickedLinks : s.tickPlaten.tells s.tickedLinks := s.silenceTicked_a.tells.trans s.silenceTicked_b.tells

theorem State.tells_tickedLines : s.tickedLinks.tells s.tickedLines := by
  obtain ⟨frame, filed⟩ := s.tickedLines_kept
  exact State.tells_of_matrix (by rw [frame]) filed.2 (by rw [frame]) (by rw [frame])

theorem State.tells_tickCond : s.tickedInputs.tells s.tick := by
  obtain ⟨filed, frame⟩ := s.tick_kept
  exact State.tells_of_matrix (by rw [frame]) filed.2 (by rw [frame]) (by rw [frame])

theorem State.passes_from_lines : s.tickedLines.passes s.tick := s.inputsTicked_all.passes.trans s.tells_tickCond.passes

theorem State.passes_from_links : s.tickedLinks.passes s.tick := s.tells_tickedLines.passes.trans s.passes_from_lines

theorem State.passes_from_platen : s.tickPlaten.passes s.tick := s.tells_tickedLinks.passes.trans s.passes_from_links

theorem State.passes_tick : s.passes s.tick := s.tickPlaten_tells.1.passes.trans s.passes_from_platen

/-- The silence timers are those that the links' part left. -/
theorem State.tick_silence : s.tick.links.silence = s.tickedLinks.links.silence :=
  ((s.tickedLines_kept.2.trans s.inputsTicked_all.filed).trans s.tick_kept.1).1

/-! ### The platen -/

theorem State.tick_tracker : s.tick.tracker = s.tickPlaten.tracker ∧ s.tick.map = s.tickPlaten.map := by
  rw [State.tick_frame]
  exact ⟨rfl, rfl⟩

/-- A trip that the stall gave stands at the end. -/
theorem State.tick_tripped (station : s.tickPlaten.matrix.station = .tripped)
    (trip : .platenStall ∈ s.tickPlaten.matrix.tripCauses) :
    s.tick.matrix.station = .tripped ∧ .platenStall ∈ s.tick.matrix.tripCauses := by
  have linked : s.tickedLinks.matrix.station = .tripped :=
    s.silenceTicked_b.station.trans (s.silenceTicked_a.station.trans station)
  have lined : s.tickedLines.matrix.station = .tripped := by
    rw [s.tickedLines_kept.1]
    exact linked
  refine ⟨?_, s.passes_from_platen.keepsTrip trip⟩
  rw [State.tick_matrix]
  exact s.inputsTicked_all.tripped lined

/-! ### The links -/

/-- A link's part finds the link as it was, and what it leaves stands. -/
theorem State.tick_link (l : Lane) : ∃ u v, State.silenceTicked u l v ∧
    u.links.silence.get l = s.links.silence.get l ∧ u.settings = s.settings ∧ u.press = s.press ∧
    s.tick.links.silence.get l = v.links.silence.get l ∧ v.passes s.tick := by
  obtain ⟨-, filed, frame⟩ := s.tickPlaten_tells
  have silence : s.tickPlaten.links.silence = s.links.silence := filed.1
  have settings : s.tickPlaten.settings = s.settings := by rw [frame]
  have press : s.tickPlaten.press = s.press := by rw [frame]
  rw [State.tick_silence]
  cases l with
  | a => exact ⟨_, _, s.silenceTicked_a, congrArg (·.get .a) silence, settings, press,
      s.silenceTicked_b.other .a nofun, s.silenceTicked_b.tells.passes.trans s.passes_from_links⟩
  | b =>
    have between := s.silenceTicked_a.frame
    refine ⟨_, _, s.silenceTicked_b, (s.silenceTicked_a.other .b nofun).trans (congrArg (·.get .b) silence), ?_, ?_, rfl,
      s.passes_from_links⟩
    · rw [between]
      exact settings
    · rw [between]
      exact press

theorem State.tick_silent {l : Lane} (h : (s.links.silence.get l).silent = true) :
    s.tick.links.silence.get l = s.links.silence.get l := by
  obtain ⟨u, v, ticked, found, -, -, left, -⟩ := s.tick_link l
  rw [left, ticked.silent (by rw [found]; exact h), found]

theorem State.tick_silence_short {l : Lane} (h : (s.links.silence.get l).silent = false)
    (short : (s.links.silence.get l).timer + 1 < s.settings.linkSilence) :
    s.tick.links.silence.get l = { s.links.silence.get l with timer := (s.links.silence.get l).timer + 1 } := by
  obtain ⟨u, v, ticked, found, settings, -, left, -⟩ := s.tick_link l
  rw [left, ticked.short (by rw [found]; exact h) (by rw [found, settings]; exact short), State.silenceTimed_silence, found]

theorem State.tick_silence_due {l : Lane} (h : (s.links.silence.get l).silent = false)
    (due : s.settings.linkSilence ≤ (s.links.silence.get l).timer + 1) :
    s.tick.links.silence.get l =
        { timer := s.settings.linkSilence, silent := true, cause := decide ((s.lane l).state ≠ .raised) } ∧
      ((s.lane l).state ≠ .raised → ∃ e ∈ s.tick.causes l, e.kind = .linkSilent ∧ e.severity = .hard) := by
  obtain ⟨u, v, ticked, found, settings, press, left, later⟩ := s.tick_link l
  obtain ⟨silence, caused⟩ := ticked.due (by rw [found]; exact h) (by rw [found, settings]; exact due)
  have lane : u.lane l = s.lane l := by rw [State.lane, press, State.lane]
  rw [lane] at silence caused
  refine ⟨by rw [left, silence, settings], fun down => ?_⟩
  obtain ⟨e, he, kind, hard⟩ := caused down
  obtain ⟨x, hx, xkind, xhard⟩ := later.keepsCause he
  exact ⟨x, hx, xkind.trans kind, xhard hard⟩

end Sys2Proof.Machine


/-!
What a millisecond makes of the slurry unit (R130 to R132), of the conditioner (R118), and of a quiet matrix.
-/

namespace Sys2Proof.Machine
open Sys2Proof

/-! ### The supply lines and their window -/

/-- The slurry unit's record `q` a millisecond after the one of `s`. -/
structure State.linesPassed (s : State) (q : Slurry) : Prop where
  windowMs : q.windowMs = if 1000 ≤ s.slurry.windowMs + 1 then 0 else s.slurry.windowMs + 1
  bars : (∀ k, ¬ s.expires k) → q.bars = s.slurry.bars
  flows : (∃ k, s.expires k) → q.flowsTrue s.settings.slurry
  counted : ∀ k,
    (q.lines.get k).measured = (if 1000 ≤ s.slurry.windowMs + 1 then
      (s.line k).window * 60000 / s.settings.slurry.pulsesPerLitre.get k else (s.line k).measured) ∧
    (q.lines.get k).window = if 1000 ≤ s.slurry.windowMs + 1 then 0 else (s.line k).window
  short : (∀ k, ¬ s.expires k) → ∀ k, q.lines.get k = { s.linesTimed.line k with
    measured := (q.lines.get k).measured, window := (q.lines.get k).window }
  other : ∀ k, ¬ s.expires k → (q.lines.get k).state = (s.line k).state ∧ (q.lines.get k).prime = (s.line k).prime
  timer : ∀ k, ¬ s.expires k → (∀ i j, s.expires i → s.expires j → i = j) →
    (q.lines.get k).lastPulse = (s.linesTimed.line k).lastPulse ∨
      ((q.lines.get k).duty = 0 ∧ (q.lines.get k).lastPulse = 0)
  timerTrue : ∀ k, ¬ s.expires k → s.slurry.flowsTrue s.settings.slurry → s.slurry.timersHeld →
    (q.lines.get k).lastPulse = (s.linesTimed.line k).lastPulse
  stopped : ∀ k, s.expires k → (∀ j, j ≠ k → ¬ s.expires j) → (q.lines.get k).state = .stopped ∧ (q.lines.get k).duty = 0

theorem State.linesPassed_tick (s : State) : s.linesPassed s.tickLines.tickWindow.slurry := by
  obtain ⟨bars, windowMs, lines⟩ := s.tickLines.tickWindow_slurry
  have stopped := s.linesStopped_tickLines
  have ms : s.tickLines.slurry.windowMs = s.slurry.windowMs := stopped.windowMs
  have settings : s.tickLines.settings = s.settings := by rw [stopped.frame]; rfl
  rw [ms] at windowMs
  rw [ms, settings] at lines
  change ∀ k, s.tickLines.tickWindow.slurry.lines.get k = _ at lines
  have timedLine := s.linesTimed_line
  refine ⟨windowMs, fun none => ?_, fun ⟨k, hk⟩ => State.tickWindow_flowsTrue (State.tickLines_flowsTrue hk),
    fun k => ?_, fun none k => ?_, fun k hk => ?_, fun k hk one => ?_, fun k hk flows held => ?_, fun k hk alone => ?_⟩
  · rw [bars, State.tickLines_none none]
    rfl
  · obtain ⟨measured, window⟩ := stopped.counted k
    rw [timedLine] at measured window
    rw [lines, measured, window]
    exact ⟨rfl, rfl⟩
  · rw [lines, State.tickLines_none none]
  · obtain ⟨state, prime⟩ := stopped.other k hk
    rw [timedLine] at state prime
    rw [lines]
    exact ⟨state, prime⟩
  · rw [lines]
    exact State.tickLines_timer hk one
  · rw [lines]
    exact State.tickLines_timer_true hk flows held
  · rw [lines, State.tickLines_one hk alone]
    exact (State.lineStops_self k s.linesTimed).2

/-- The slurry unit's millisecond depends on its record and the settings alone. -/
theorem State.linesPassed.congr {s u : State} {q : Slurry} (h : u.linesPassed q) (slurry : u.slurry = s.slurry)
    (settings : u.settings = s.settings) : s.linesPassed q := by
  cases s
  cases u
  obtain rfl := slurry
  obtain rfl := settings
  obtain ⟨windowMs, bars, flows, counted, short, other, timer, timerTrue, stopped⟩ := h
  exact ⟨windowMs, bars, flows, counted, short, other, timer, timerTrue, stopped⟩

/-- How the bars move depends before on the slurry unit and the settings, and after on the bars and what is filed. -/
theorem State.barsMoved.congr {s t u v : State} {k : Line} (h : u.barsMoved k v) (bar : ∀ l, u.bar l = s.bar l)
    (state : ∀ f, (u.line f).state = (s.line f).state) (settings : u.settings = s.settings)
    (after : t.slurry.bars = v.slurry.bars) (filed : v.portsFiled t) : s.barsMoved k t := by
  intro l
  have same : t.bar l = v.bar l := congrArg (·.get l) after
  obtain ⟨kept, off, falls, lost⟩ := h l
  rw [bar] at kept off falls lost
  rw [settings] at falls lost
  rw [same]
  refine ⟨kept, off, fun f hf hb hg hne hr => ?_, fun hf why => ?_⟩
  · obtain ⟨feed, flag, told⟩ := falls f hf hb hg hne ((state f).trans hr)
    exact ⟨feed, flag, (filed _).2 _ told⟩
  · obtain ⟨feed, flag, told⟩ := lost hf (why.imp id (Or.imp id fun ⟨f, hg, hr⟩ => ⟨f, hg, (state f).symm ▸ hr⟩))
    exact ⟨feed, flag, (filed _).2 _ told⟩

section
variable (s : State)

theorem State.tickedLinks_slurry : s.tickedLinks.slurry = s.slurry ∧ s.tickedLinks.settings = s.settings := by
  rw [State.tickedLinks_frame]
  exact ⟨rfl, rfl⟩

theorem State.tick_slurry : s.tick.slurry = s.tickedLinks.tickLines.tickWindow.slurry := by
  rw [State.tick_frame]
  rfl

theorem State.linesPassed_of_tick : s.linesPassed s.tick.slurry := by
  obtain ⟨slurry, settings⟩ := s.tickedLinks_slurry
  rw [State.tick_slurry]
  exact s.tickedLinks.linesPassed_tick.congr slurry settings

theorem State.tickedLinks_expires (k : Line) : s.tickedLinks.expires k ↔ s.expires k := by
  obtain ⟨slurry, settings⟩ := s.tickedLinks_slurry
  unfold State.expires State.line
  rw [slurry, settings]

theorem State.onlyFiled_from_lines : s.tickedLinks.tickLines.onlyFiled s.tick := by
  have window : s.tickedLinks.tickLines.onlyFiled s.tickedLines :=
    State.onlyFiled_of_links (by rw [State.tickedLines, State.tickWindow_frame])
  exact (window.trans s.inputsTicked_all.filed).trans s.tick_kept.1

/-- One line alone stops: it is told, and its bars move. -/
theorem State.tick_line_stops {k : Line} (hk : s.expires k) (alone : ∀ j, j ≠ k → ¬ s.expires j) :
    .lineStopped ∈ (s.tick.port .s).notices ∧ s.barsMoved k s.tick := by
  obtain ⟨slurry, settings⟩ := s.tickedLinks_slurry
  have stops : s.tickedLinks.tickLines = s.tickedLinks.linesTimed.lineStops k :=
    State.tickLines_one ((s.tickedLinks_expires k).2 hk) fun j hj => mt (s.tickedLinks_expires j).1 (alone j hj)
  have filed := s.onlyFiled_from_lines
  have bars : s.tick.slurry.bars = s.tickedLinks.tickLines.slurry.bars := by
    rw [State.tick_slurry]
    exact s.tickedLinks.tickLines.tickWindow_slurry.1
  rw [stops] at filed bars
  refine ⟨(filed.2 _).2 _ (State.mem_lineStops k _), ?_⟩
  refine (State.barsMoved_lineStops k s.tickedLinks.linesTimed).congr (fun l => ?_) (fun f => ?_) settings bars filed.2
  · show s.tickedLinks.slurry.bars.get l = _
    rw [slurry]
    rfl
  · rw [State.linesTimed_line]
    show (s.tickedLinks.slurry.lines.get f).state = _
    rw [slurry]
    rfl

/-! ### The inputs -/

theorem State.tickedLines_inputs : s.tickedLines.matrix.inputs = s.matrix.inputs := by
  have told := (s.tickPlaten_tells.1.trans s.tells_tickedLinks).trans s.tells_tickedLines
  rw [told.caused.1]

theorem State.tick_input (i : InputIndex) : s.tick.matrix.input i = (s.matrix.input i).ticked := by
  have before : s.tickedLines.matrix.input i = s.matrix.input i := congrArg (List.getD · i.val _) s.tickedLines_inputs
  rw [State.tick_matrix, s.inputsTicked_all.input, if_pos (List.mem_finRange i), before]

/-! ### The conditioner -/

theorem State.tickedInputs_cond : s.tickedInputs.cond = s.cond ∧ s.tickedInputs.hub = s.hub ∧
    s.tickedInputs.settings = s.settings ∧ s.tickedInputs.tracker.arms = s.tracker.arms := by
  have arms := s.tickPlaten_arms
  rw [State.tickedInputs_frame]
  exact ⟨rfl, rfl, rfl, arms⟩

theorem State.strokeRadius_congr {s u : State} (cond : u.cond = s.cond) (settings : u.settings = s.settings) :
    u.strokeRadius = s.strokeRadius := by
  have radius : u.targetRadius = s.targetRadius := funext fun x => by
    unfold State.targetRadius
    rw [settings]
  unfold State.strokeRadius
  rw [cond, radius, settings]

/-- A fault's effect on the conditioner and the hub depends on these alone. -/
theorem State.tick_faults {k : FaultKind} (h : s.tickedInputs.tickCond = s.tickedInputs.condTimed.condFault k) :
    s.tick.cond = (s.faulted k).cond ∧ s.tick.hub = (s.faulted k).hub ∧ .condFault ∈ (s.tick.port .s).notices := by
  obtain ⟨cond, hub, -, -⟩ := s.tickedInputs_cond
  obtain ⟨faultCond, faultHub, told⟩ := s.tickedInputs.condTimed_condFault k
  rw [State.tick_eq, h]
  refine ⟨faultCond.trans ?_, faultHub.trans ?_, told⟩
  · show ({ s.tickedInputs.cond.enter .fault with
      dfCommand := 0, faultKind := some k, target := none, clearNoted := false } : Conditioner) = _
    rw [cond]
    rfl
  · show ({ s.tickedInputs.hub with
      waitList := s.tickedInputs.hub.waitList.filter fun x => decide (x ≠ Arm.cond) } : Hub) = _
    rw [hub]
    rfl

/-! ### A millisecond in which nothing ends -/

/-- No stall, no silence and no debounce timer ends in this millisecond. -/
structure State.quiet : Prop where
  platen : s.tracker.state = .unhomed ∨ ¬ timerDue s.settings.tracker.stallLimit s.tracker.stallTimer
  links : ∀ l, (s.links.silence.get l).silent = true ∨ (s.links.silence.get l).timer + 1 < s.settings.linkSilence
  inputs : ∀ i, (s.matrix.input i).short

variable {s}

theorem State.quiet.tickedLinks (h : s.quiet) : s.tickedLinks.matrix = s.matrix ∧ s.tickedLinks.events = s.events ∧
    s.tickedLinks.links = { s.links with silence := s.tickedLinks.links.silence } := by
  obtain ⟨matrix, events, links⟩ := State.tickPlaten_quiet h.platen
  have settings : s.tickPlaten.settings = s.settings := by rw [s.tickPlaten_tells.2.2]
  have first := s.silenceTicked_a.quiet (by rw [links, settings]; exact h.links .a)
  have other := s.silenceTicked_a.other .b nofun
  have kept := s.silenceTicked_a.frame
  have second := s.silenceTicked_b.quiet (by
    rw [other, links, kept]
    show _ ∨ _ < s.tickPlaten.settings.linkSilence
    rw [settings]
    exact h.links .b)
  generalize s.tickPlaten.tickSilence .a = u at first second
  rw [second, first]
  exact ⟨matrix, events, by rw [← links]⟩

theorem State.quiet.tickedInputs (h : s.quiet) : s.tickedInputs = s.tickedLines.withInputs s.tickedInputs.matrix.inputs := by
  refine s.inputsTicked_all.quiet fun i _ => ?_
  have before : s.tickedLines.matrix.input i = s.matrix.input i := congrArg (List.getD · i.val _) s.tickedLines_inputs
  rw [before]
  exact h.inputs i

theorem State.quiet.tick (h : s.quiet) :
    s.tick.matrix = { s.matrix with inputs := s.tick.matrix.inputs } ∧ s.tick.events = s.events := by
  obtain ⟨matrix, events, -⟩ := h.tickedLinks
  have lines := s.tickedLines_kept.1
  have inputs := h.tickedInputs
  have last := s.tick_kept.2
  generalize s.tick = t at last ⊢
  generalize s.tickedInputs = v at inputs last
  generalize s.tickedLines = u at lines inputs
  rw [last]
  show v.matrix = { s.matrix with inputs := v.matrix.inputs } ∧ v.events = s.events
  rw [inputs, lines, ← matrix, ← events]
  exact ⟨rfl, rfl⟩

/-- No timer of the conditioner ends in this millisecond. -/
structure State.condQuiet (s : State) : Prop where
  settle : ¬ timerDue 500 s.cond.settleTimer
  lift : ¬ timerDue 2000 s.cond.liftTimer
  homing : ¬ timerDue 60000 s.cond.homingTimer

theorem State.condQuiet.tickCond (h : s.condQuiet) : s.tick = s.tickedInputs.condTimed := by
  obtain ⟨cond, -⟩ := s.tickedInputs_cond
  rw [State.tick_eq]
  exact State.tickCond_quiet (by rw [cond]; exact h.settle) (by rw [cond]; exact h.lift) (by rw [cond]; exact h.homing)

theorem State.condQuiet.tick (h : s.condQuiet) : s.tick.hub = s.hub ∧ s.tick.cond = s.cond.timed := by
  obtain ⟨cond, hub, -⟩ := s.tickedInputs_cond
  have last := h.tickCond
  generalize s.tick = t at last ⊢
  generalize s.tickedInputs = u at cond hub last
  rw [last]
  exact ⟨hub, congrArg Conditioner.timed cond⟩

theorem State.quiet.tick_links (h : s.quiet) (hc : s.condQuiet) (none : ∀ k, ¬ s.expires k) :
    s.tick.links = { s.links with silence := s.tick.links.silence } := by
  obtain ⟨-, -, links⟩ := h.tickedLinks
  have stopped : s.tickedLinks.tickLines = s.tickedLinks.linesTimed :=
    State.tickLines_none fun k => mt (s.tickedLinks_expires k).1 (none k)
  have lines : s.tickedLines.links = s.tickedLinks.links := by
    have window := s.tickedLinks.tickLines.tickWindow_frame
    rw [stopped] at window
    rw [State.tickedLines, stopped, window]
    rfl
  have inputs := h.tickedInputs
  have last := hc.tickCond
  generalize s.tick = t at last ⊢
  generalize s.tickedInputs = v at inputs last
  generalize s.tickedLines = u at lines inputs
  rw [last]
  show v.links = { s.links with silence := v.links.silence }
  rw [inputs]
  show u.links = { s.links with silence := u.links.silence }
  rw [lines]
  exact links

end

end Sys2Proof.Machine


/-!
The passing of time (R31, R34, R118, R130, R132, R149, R177).
-/

namespace Sys2Proof.Machine
open Sys2Proof

theorem State.tick_fields (s : State) : s.tick = { s with
    map := s.tick.map, tracker := s.tick.tracker, hub := s.tick.hub, cond := s.tick.cond, slurry := s.tick.slurry
    matrix := s.tick.matrix, links := s.tick.links, events := s.tick.events } := by
  have parts := s.tick_frame
  generalize s.tick = t at parts ⊢
  rw [parts]

/-! ### The conditioner's timers at their ends -/

theorem State.tick_settle {s : State} (r : Nat) (stroke : s.strokeRadius = some r)
    (far : 50 < ((s.arm .cond).count.toInt - r).natAbs) (run : timerDue 500 s.cond.settleTimer) :
    s.tick.cond = (s.faulted .settle).cond ∧ s.tick.hub = (s.faulted .settle).hub ∧
      .condFault ∈ (s.tick.port .s).notices := by
  obtain ⟨cond, -, settings, arms⟩ := s.tickedInputs_cond
  have arm : s.tickedInputs.arm .cond = s.arm .cond := congrArg (·.get .cond) arms
  exact s.tick_faults (State.tickCond_settle ((State.strokeRadius_congr cond settings).trans stroke)
    (by rw [arm]; exact far) (by rw [cond]; exact run))

theorem State.tick_lift {s : State} (state : s.cond.state = .lifting) (settle : s.cond.settleTimer = none)
    (run : timerDue 2000 s.cond.liftTimer) : s.tick.cond = (s.faulted .lift).cond ∧
      s.tick.hub = (s.faulted .lift).hub ∧ .condFault ∈ (s.tick.port .s).notices := by
  obtain ⟨cond, -⟩ := s.tickedInputs_cond
  rw [← cond] at state settle run
  exact s.tick_faults (State.tickCond_lift state settle run)

theorem State.tick_homing {s : State} (state : s.cond.state = .homing) (settle : s.cond.settleTimer = none)
    (lift : s.cond.liftTimer = none) (run : timerDue 60000 s.cond.homingTimer) :
    s.tick.cond = (s.faulted .homing).cond ∧ s.tick.hub = (s.faulted .homing).hub ∧
      .condFault ∈ (s.tick.port .s).notices := by
  obtain ⟨cond, -⟩ := s.tickedInputs_cond
  rw [← cond] at state settle lift run
  exact s.tick_faults (State.tickCond_homing state settle lift run)

/-! ### A line's timer -/

/-- Where a line's timer stands once all have advanced. -/
theorem State.linesTimed_lastPulse (s : State) (k : Line) [Decidable (((s.line k).state = .priming ∨ (s.line k).state = .ready) ∧
    0 < (s.line k).duty)] : (s.linesTimed.line k).lastPulse =
      if ((s.line k).state = .priming ∨ (s.line k).state = .ready) ∧ 0 < (s.line k).duty then (s.line k).lastPulse + 1
      else (s.line k).lastPulse := by
  rw [State.linesTimed_line]
  exact if_congr (SupplyLine.timed_iff _) rfl rfl

/-- Settles O2: each part of the millisecond moves its own timers, and what it leaves stands to the end. -/
theorem passingTime : Obligations.PassingTime := by
  refine ⟨fun e rest s idle h => step_event idle h, fun s₀ s hs idle none => ⟨s.tick, ?_, ?_⟩⟩
  · rw [step_idle idle none, hs]
  intro ends timed expires due quiet condQuiet
  have isQuiet : quiet → s.quiet := fun ⟨platen, links, inputs⟩ => ⟨platen, links, inputs⟩
  have isCondQuiet : condQuiet → s.condQuiet := fun ⟨settle, lift, homing⟩ => ⟨settle, lift, homing⟩
  have fields := s.tick_fields
  have passes := s.passes_tick
  have lines := s.linesPassed_of_tick
  have still := fun h => (isQuiet h).tick
  have stillLinks := fun h hc hk => (isQuiet h).tick_links (isCondQuiet hc) hk
  have silent := fun l => s.tick_silent (l := l)
  have silenceShort := fun l => s.tick_silence_short (l := l)
  have silenceDue := fun l => s.tick_silence_due (l := l)
  have input := s.tick_input
  have stops := fun k => s.tick_line_stops (k := k)
  have cond := fun hc => (isCondQuiet hc).tick
  have settle := s.tick_settle
  have lift := s.tick_lift
  have homing := s.tick_homing
  have platen := s.tick_tracker
  have tripped := s.tick_tripped
  generalize s.tick = t at *
  refine ⟨fields, passes.caused, passes.filed, passes.told, still, stillLinks, fun hu => ?_,
    fun hu => ⟨fun short => ?_, fun n run limit hs => ?_⟩, fun l => ⟨silent l, silenceShort l, silenceDue l⟩,
    fun _ => input, ?_, lines.bars, lines.flows, fun k => ⟨?_, ?_, fun none => ?_, fun hk => ?_, fun hk alone => ?_⟩,
    cond, settle, lift, homing⟩
  · rw [platen.1, platen.2, State.tickPlaten_unhomed hu]
    exact ⟨rfl, rfl⟩
  · rw [platen.1, platen.2, State.tickPlaten_short hu short]
    exact ⟨rfl, rfl⟩
  · obtain ⟨tracker, map, station, trip⟩ := State.tickPlaten_stalls hu run limit hs
    exact ⟨platen.1.trans tracker, platen.2.trans map, tripped station trip⟩
  · exact lines.windowMs.trans (if_congr decide_eq_true_iff.symm rfl rfl)
  · exact (lines.counted k).1.trans (if_congr decide_eq_true_iff.symm rfl rfl)
  · exact (lines.counted k).2.trans (if_congr decide_eq_true_iff.symm rfl rfl)
  · have line : t.line k = { s.line k with
        lastPulse := (t.line k).lastPulse, measured := (t.line k).measured, window := (t.line k).window } := by
      have short := lines.short none k
      rw [State.linesTimed_line] at short
      rw [State.line, short]
    have timer : (t.line k).lastPulse = (s.linesTimed.line k).lastPulse := by
      rw [State.line, lines.short none k]
    rw [State.linesTimed_lastPulse] at timer
    exact ⟨fun run => timer.trans (if_pos run), fun rest => timer.trans (if_neg rest), line⟩
  · obtain ⟨state, prime⟩ := lines.other k hk
    have advanced := s.linesTimed_lastPulse k
    refine ⟨state, prime, fun one => ?_, fun flows held => (lines.timerTrue k hk flows held).trans advanced⟩
    exact (lines.timer k hk one).imp_left fun h => h.trans advanced
  · obtain ⟨state, duty⟩ := lines.stopped k hk alone
    exact ⟨state, duty, stops k hk alone⟩

end Sys2Proof.Machine


/-!
The suspect close at an index edge (O20).
-/

namespace Sys2Proof.Machine
open Sys2Proof

/-! ### Map updated events that are outstanding -/

/-- The map updated events that are outstanding, oldest first (R55, R56). -/
def State.mapUpdates (s : State) : List Event := s.events.filter Event.isMapUpdated

theorem State.mapUpdates_of_events {s t : State} (h : t.events = s.events) : t.mapUpdates = s.mapUpdates := by
  rw [State.mapUpdates, h, State.mapUpdates]

theorem State.mapUpdates_raise {e : Event} (h : e.isMapUpdated = false) (s : State) :
    (s.raise e).mapUpdates = s.mapUpdates := by
  simp [State.mapUpdates, h]

/-- A level is told by events of its own (R153). -/
theorem State.mapUpdates_holdEntered (l : Lane) (v : HoldLevel) (s : State) :
    (s.holdEntered l v).mapUpdates = s.mapUpdates := by
  rw [State.mapUpdates, State.holdEntered_events, State.tellLevel_events, List.filter_append]
  cases v <;> exact List.append_nil _

theorem State.mapUpdates_addCause (l : Lane) (e : CauseEntry) (s : State) :
    (s.addCause l e).mapUpdates = s.mapUpdates := by
  unfold State.addCause State.addCauseWith
  simp only
  split
  · rfl
  · exact State.mapUpdates_holdEntered l _ _

theorem State.mapUpdates_tripCause (c : TripCause) (s : State) : (s.tripCause c).mapUpdates = s.mapUpdates := by
  unfold State.tripCause
  simp only
  split
  · rfl
  · rw [State.mapUpdates_raise rfl, State.mapUpdates_raise rfl, State.addCauseBoth, State.mapUpdates_addCause,
      State.mapUpdates_addCause]
    rfl

theorem State.mapUpdates_trackerChanged (before : TrackerState) (s : State) :
    (s.trackerChanged before).mapUpdates = s.mapUpdates := by
  unfold State.trackerChanged
  simp only
  (repeat' split)
  · rfl
  · exact State.mapUpdates_tripCause _ _
  · exact State.mapUpdates_tripCause _ _
  · rfl
  · rfl

/-- Where no map updated event joins, an event that is new is for none of the three receivers. -/
theorem State.not_isMapUpdated_of_new {s t : State} (h : t.mapUpdates = s.mapUpdates) {e : Event} (he : e ∈ t.events)
    (hn : e ∉ s.events) : e.isMapUpdated = false := by
  by_contra hu
  have joined : e ∈ t.mapUpdates := List.mem_filter.2 ⟨he, by simpa using hu⟩
  rw [h] at joined
  exact hn (List.mem_filter.1 joined).1

/-! ### An index event whose close is suspect -/

section
variable {k : IndexKind} {s : State} (h : s.closeSuspect (s.tracker.verdictSuspect k) = true)
include h

/-- A suspect close discards what was accrued, whatever made it suspect; else only the speed is measured (R34, R50, R51). -/
theorem State.closedAt_discards :
    (s.closedAt k).map = { s.map.clearTallies with suspect := (s.tracker.stateAfter k).outside } ∧
      (s.closedAt k).events = s.events ∧
      ∀ p, ∀ x ≠ Notice.speedWindow, x ∈ ((s.closedAt k).port p).notices ↔ x ∈ (s.port p).notices := by
  have suspect : s.accrue.closeSuspect (s.tracker.verdictSuspect k) = true := h
  unfold State.closedAt
  rw [State.closeRevolution_suspect _ suspect]
  simp only
  split
  · refine ⟨by simp [State.measureSpeed], by simp [State.measureSpeed], fun p x hx => ?_⟩
    rw [State.mem_measureSpeed hx]
    rfl
  · exact ⟨rfl, rfl, fun _ _ _ => Iff.rfl⟩

/-- The next revolution is marked exactly when it begins in LOST (R26, R57). -/
theorem State.indexEvent_map_discards : (s.indexEvent k).map = { s.map with
    tally := List.replicate 20 0, cut := List.replicate 20 0, dryMarks := ⟨0, 0⟩, cutMark := false
    suspect := decide ((s.indexEvent k).tracker.state = .lost) } := by
  rw [State.indexEvent_map, (State.closedAt_discards h).1, State.indexEvent_state, TrackerState.outside_iff_lost]
  rfl

theorem State.mem_indexEvent_discards {x : Notice} (hx : x ∈ [Notice.glaze, .glazeUnder, .padSpent]) (p : Port) :
    x ∈ ((s.indexEvent k).port p).notices ↔ x ∈ (s.port p).notices := by
  have others : x ∉ [Notice.tripEntered, .holdEntered, .platenState, .speedWindow] := by
    fin_cases hx <;> decide
  simp only [List.mem_cons, List.not_mem_nil, or_false, not_or] at others
  obtain ⟨trip, hold, state, window⟩ := others
  obtain ⟨-, -, kept⟩ := State.closedAt_discards h
  rw [State.indexEvent_eq, State.raise_port, State.mem_trackerChanged trip hold, or_iff_right fun hs => state hs.1]
  exact kept p x window

/-- The tracker's own events, of a trip and of the index, are all that a suspect close is followed by (R51). -/
theorem State.mapUpdates_indexEvent_discards : (s.indexEvent k).mapUpdates = s.mapUpdates := by
  obtain ⟨-, events, -⟩ := State.closedAt_discards h
  rw [State.indexEvent_eq, State.mapUpdates_raise rfl, State.mapUpdates_trackerChanged]
  exact State.mapUpdates_of_events events

end

/-- An index edge outside UNHOMED is an index event, once the period timer has its count (R24). -/
theorem State.indexEdge_homed {s : State} (h : s.tracker.state ≠ .unhomed) (elapsed : Nat) : s.indexEdge elapsed =
    (s.modTracker fun t => { t with periodTimer := advancePeriod t.periodTimer elapsed }).indexEvent
      (indexKindOf s.tracker.angle) := by
  unfold State.indexEdge
  cases hs : s.tracker.state with
  | unhomed => exact absurd hs h
  | tracking | lost | stalled => rfl

/-- The close at an index edge is suspect by its verdict, by the map's mark or by an INVALID map (R28, R50). -/
theorem State.edge_closeSuspect_iff (s : State) :
    s.closeSuspect (s.tracker.verdictSuspect (indexKindOf s.tracker.angle)) = true ↔
      s.tracker.platenSuspect = true ∨ s.tracker.angle < 16380 ∨ s.map.suspect = true ∨ s.map.valid = false := by
  rw [State.closeSuspect, Bool.or_eq_true, Bool.or_eq_true, Tracker.edge_verdictSuspect_iff, Bool.not_eq_true',
    or_assoc, or_assoc, or_left_comm]

/-- Settles O20: the edge is an index event whose close is suspect. -/
theorem suspectClose : Obligations.SuspectClose := by
  intro elapsed s₀ s hs hu hsuspect
  set u := s.modTracker fun t => { t with periodTimer := advancePeriod t.periodTimer elapsed }
  set k := indexKindOf s.tracker.angle
  have row : exec (.indexEdge elapsed) s₀ = .next (u.indexEvent k) := by
    rw [exec_indexEdge hs, State.indexEdge_homed hu]
  have suspect : u.closeSuspect (u.tracker.verdictSuspect k) = true := s.edge_closeSuspect_iff.2 hsuspect
  refine ⟨_, row, State.indexEvent_map_discards suspect, fun p x hx => State.mem_indexEvent_discards suspect hx p,
    fun e he hn => ?_, u.indexEvent_frame k, (State.onlyFiled_of_links rfl).trans (u.onlyFiled_indexEvent k),
    (u.onlyCaused_indexEvent k).congr rfl⟩
  have none := State.not_isMapUpdated_of_new (State.mapUpdates_indexEvent_discards suspect) he hn
  rw [← Event.isMapUpdated_eq] at none
  simpa [and_assoc] using none

end Sys2Proof.Machine

/-!
The hub arbiter: claims, releases, the hand-off and crossings (O24, O25, O26).
-/

namespace Sys2Proof.Machine
open Sys2Proof

/-- A request row whose rule answers, in the state that hears it, with a result and a payload and no flag. -/
theorem exec_request_replied (p : Port) (r : Request) {s₀ s t : State} {result : Result} {payload : List Byte}
    (hs : s₀.heard p = s) (hk : changesRecords r.kind = false) (hp : permitted p r.kind = true) (hl : lengthOk p r = true)
    (h : decideRequest p s r = { state := t, result := result, payload := payload }) :
    exec (r.command p) s₀ = .next (replied p r.kind result payload t) := by
  rw [exec_request_heard p r s₀ s hs hk hp hl, h, replied]

/-! ### A claim's case (R60) -/

section
variable {m : Arm} {s : State}

theorem State.claimHub_unreferenced (hr : (s.arm m).referenced = false) : s.claimHub m = (.notHomed, s) := by
  rw [State.claimHub, if_pos (by rw [hr]; rfl)]

theorem State.claimHub_holder (hr : (s.arm m).referenced = true) (hm : s.hub.holder = some m) :
    s.claimHub m = (.held, s) := by
  rw [State.claimHub, if_neg (by rw [hr]; exact Bool.false_ne_true), if_pos hm]

theorem State.claimHub_waiting (hr : (s.arm m).referenced = true) (hm : s.hub.holder ≠ some m)
    (hw : m ∈ s.hub.waitList) : s.claimHub m = (.queued, s) := by
  rw [State.claimHub, if_neg (by rw [hr]; exact Bool.false_ne_true), if_neg hm, if_pos hw]

/-- A claim by a referenced claimant that neither holds nor waits (R60, R61). -/
theorem State.claimHub_new (hr : (s.arm m).referenced = true) (hm : s.hub.holder ≠ some m) (hw : m ∉ s.hub.waitList) :
    (s.claimantHard m = true → s.claimHub m = (.state, s)) ∧
    (s.claimantHard m = false → s.hub.holder = none → s.claimHub m = (.granted, s.grantHub m)) ∧
    (s.claimantHard m = false → s.hub.holder ≠ none →
      s.claimHub m = (.queued, { s with hub := { s.hub with waitList := s.hub.waitList ++ [m] } })) := by
  rw [State.claimHub, if_neg (by rw [hr]; exact Bool.false_ne_true), if_neg hm, if_neg hw]
  refine ⟨fun hard => if_pos hard, fun soft free => ?_, fun soft busy => ?_⟩
  · rw [if_neg (by rw [soft]; exact Bool.false_ne_true), if_pos (Option.isNone_iff_eq_none.2 free)]
  · rw [if_neg (by rw [soft]; exact Bool.false_ne_true), if_neg (mt Option.isNone_iff_eq_none.1 busy)]
    rfl

theorem Hub.place_holder {h : Hub} (hm : h.holder = some m) : h.place m = 0 := if_pos hm

theorem Hub.place_waiting {h : Hub} (hm : h.holder ≠ some m) : h.place m = h.waitList.idxOf m + 1 := if_neg hm

/-- The claimant that joins the wait list has the last place. -/
theorem Hub.place_joined {h : Hub} (hm : h.holder ≠ some m) (hw : m ∉ h.waitList) :
    ({ h with waitList := h.waitList ++ [m] } : Hub).place m = h.waitList.length + 1 := by
  have last : (h.waitList ++ [m]).idxOf m = h.waitList.length := by
    rw [List.idxOf_append_of_notMem hw, List.idxOf_cons_self, Nat.add_zero]
  exact (Hub.place_waiting (h := { h with waitList := h.waitList ++ [m] }) hm).trans (congrArg (· + 1) last)

end

theorem State.claimantHard_lane (s : State) (l : Lane) : s.claimantHard l.arm = decide (s.holdLevel l = .hard) := by
  cases l <;> rfl

/-- The place that the reply to a claim carries, with the results that carry one. -/
def Result.withPlace (place : Nat) : Result → List Byte
  | .granted | .held | .queued => byte1 place
  | _ => []

theorem decideHubClaim_eq (l : Lane) (s : State) : decideHubClaim l.port s =
    { state := (s.claimHub l.arm).2, result := (s.claimHub l.arm).1
      payload := (s.claimHub l.arm).1.withPlace ((s.claimHub l.arm).2.hub.place l.arm) } := by
  rw [decideHubClaim, Lane.port_lane]
  rfl

/-- Settles O24: the lane's claim by the case it falls under, and the place it then has. -/
theorem hubClaimCases : Obligations.HubClaimCases := by
  intro l s₀ s hs
  have row : ∀ {t : State} {r : Result} {payload : List Byte}, s.claimHub l.arm = (r, t) →
      r.withPlace (t.hub.place l.arm) = payload →
      exec (.hubClaim l.port) s₀ = .next (replied l.port .hubClaim r payload t) := fun claim place =>
    exec_request_replied l.port .hubClaim hs rfl (by cases l <;> rfl) rfl
      (by rw [decideRequest, decideHubClaim_eq, claim, place])
  refine ⟨fun hr => row (State.claimHub_unreferenced hr) rfl, fun hr => ⟨fun hm => ?_, fun hm hw => ?_, fun hm hw => ?_⟩⟩
  · exact row (State.claimHub_holder hr hm) (congrArg byte1 (Hub.place_holder hm))
  · exact row (State.claimHub_waiting hr hm hw) (congrArg byte1 (Hub.place_waiting hm))
  obtain ⟨hard, granted, queued⟩ := State.claimHub_new hr hm hw
  rw [State.claimantHard_lane, decide_eq_true_eq] at hard
  rw [State.claimantHard_lane, decide_eq_false_iff_not] at granted queued
  refine ⟨fun hh => row (hard hh) rfl, fun hh free => row (granted hh free) (congrArg byte1 (Hub.place_holder rfl)),
    fun hh busy => row (queued hh busy) (congrArg byte1 (Hub.place_joined hm hw))⟩

/-! ### A release's case (R62), and the hand-off (R63) -/

section
variable {m : Arm} {s : State}

theorem State.releaseHub_holder (hm : s.hub.holder = some m) :
    ((s.arm m).inside = true → s.releaseHub m = (.stillInside, s)) ∧
    ((s.arm m).inside = false → s.releaseHub m = (.ok, s.endGrant)) := by
  rw [State.releaseHub, if_pos hm]
  exact ⟨fun hin => if_pos hin, fun hout => if_neg (by rw [hout]; exact Bool.false_ne_true)⟩

theorem State.releaseHub_other (hm : s.hub.holder ≠ some m) :
    (m ∈ s.hub.waitList → s.releaseHub m = (.withdrawn, s.withdrawClaim m)) ∧
    (m ∉ s.hub.waitList → s.releaseHub m = (.notHeld, s)) := by
  rw [State.releaseHub, if_neg hm]
  exact ⟨fun hw => if_pos hw, fun hw => if_neg hw⟩

theorem State.endGrant_free (hw : s.hub.waitList = []) : s.endGrant = { s with hub := { s.hub with holder := none } } := by
  simp only [State.endGrant, State.modHub, hw]

theorem State.endGrant_handed {rest : List Arm} (hw : s.hub.waitList = m :: rest) :
    s.endGrant = State.tellGrant m
      { s with hub := { holder := some m, waitList := rest, intruders := s.hub.intruders.set m false } } := by
  simp only [State.endGrant, hw]
  rfl

end

theorem State.endGrant_holder (s : State) : s.endGrant.hub.holder = s.hub.waitList.head? := by
  cases hw : s.hub.waitList with
  | nil => rw [State.endGrant_free hw]; rfl
  | cons m rest => rw [State.endGrant_handed hw, State.tellGrant_hub]; rfl

theorem decideHubRelease_eq (l : Lane) (s : State) : decideHubRelease l.port s =
    { state := (s.releaseHub l.arm).2, result := (s.releaseHub l.arm).1 } := by
  rw [decideHubRelease, Lane.port_lane]

theorem decideHubForceRelease_free {s : State} (hm : s.hub.holder = none) :
    decideHubForceRelease s = refuse .notHeld s := by
  rw [decideHubForceRelease, hm]

theorem decideHubForceRelease_holder {m : Arm} {s : State} (hm : s.hub.holder = some m) :
    ((s.arm m).inside = true → decideHubForceRelease s = refuse .stillInside s) ∧
    ((s.arm m).inside = false → decideHubForceRelease s =
      { state := s.endGrant.tellLoss m, result := .ok
        payload := byte1 (armCode m) ++ holderBytes s.hub.waitList.head? }) := by
  simp only [decideHubForceRelease, hm, State.tellLoss_hub, State.endGrant_holder]
  exact ⟨fun hin => if_pos hin, fun hout => if_neg (by rw [hout]; exact Bool.false_ne_true)⟩

/-- Settles O25: both releases by their cases, and the hand-off by its wait list. -/
theorem hubReleaseAndHandOff : Obligations.HubReleaseAndHandOff := by
  refine ⟨fun l s₀ s hs => ?_, fun s₀ s hs => ?_, fun s => ⟨State.endGrant_free, fun m rest hw => ?_⟩⟩
  · have row : ∀ {t : State} {r : Result}, s.releaseHub l.arm = (r, t) →
        exec (.hubRelease l.port) s₀ = .next (replied l.port .hubRelease r [] t) := fun release =>
      exec_request_replied l.port .hubRelease hs rfl (by cases l <;> rfl) rfl
        (by rw [decideRequest, decideHubRelease_eq, release])
    exact ⟨fun hm hin => row ((State.releaseHub_holder hm).1 hin), fun hm hout => row ((State.releaseHub_holder hm).2 hout),
      fun hm hw => row ((State.releaseHub_other hm).1 hw), fun hm hw => row ((State.releaseHub_other hm).2 hw)⟩
  · have row : ∀ {t : State} {r : Result} {payload : List Byte},
        decideHubForceRelease s = { state := t, result := r, payload := payload } →
        exec (.hubForceRelease .s) s₀ = .next (replied .s .hubForceRelease r payload t) :=
      exec_request_replied .s .hubForceRelease hs rfl rfl rfl
    refine ⟨fun hm => row (decideHubForceRelease_free hm), fun m hm hin => row ((decideHubForceRelease_holder hm).1 hin),
      fun m hm hout => row (((decideHubForceRelease_holder hm).2 hout).trans ?_)⟩
    congr 1
    · cases m <;> rfl
    · cases s.hub.waitList <;> rfl
  · rw [State.endGrant_handed hw]
    cases m <;> rfl

/-! ### Crossings and other events taken (R66 to R69, log 2) -/

/-- The channel in which a block is told of an event: what it is told there is taken in the order told (log 2). -/
def Event.channel : Event → Event → Bool
  | .hubEntry m | .hubExit m => Event.crossingOf m
  | .hardHoldVent l | .softHoldCap l => Event.levelTold l
  | .condTripHalt | .condTripClear => Event.tripTold
  | .condGrant | .condGrantLost => Event.grantTold
  | .condMapUpdated _ => Event.isCondMapUpdated
  | .gainRecompute _ => Event.isGainRecompute
  | .dryCountUpdate _ => Event.isDryCountUpdate
  | e => Event.is e

/-- The row of an event that its channel has told next is its taking, with the event no longer outstanding. -/
theorem exec_told {e : Event} {s u : State} (h : s.told e.channel e u) : exec e.command s = .next (u.take e) := by
  cases e with
  | hubEntry | hubExit | hardHoldVent | softHoldCap | condTripHalt | condTripClear | condGrant | condGrantLost =>
    simp only [Event.channel] at h
    simp only [exec, Event.command, execHubEntry, execHubExit, execHardHoldVent, execSoftHoldCap, execCondTripHalt,
      execCondTripClear, execCondGrant, execCondGrantLost]
    rw [State.takeEvent_told h (by simp)]
    rfl
  | condMapUpdated | gainRecompute | dryCountUpdate =>
    simp only [Event.channel] at h
    simp only [exec, Event.command, execCondMapUpdated, execGainRecompute, execDryCountUpdate]
    rw [State.takeKind_told h]
    rfl
  | indexProfileApply | hardHoldBarEmpty | hardHoldWithdraw | tripBarEmpty | mapReplaced | slurryStop =>
    simp only [exec, Event.command, execIndexProfileApply, execHardHoldBarEmpty, execHardHoldWithdraw, execTripBarEmpty,
      execMapReplaced, execSlurryStop]
    rw [State.takeKind_told (ch := fun x => decide (x = _)) h]
    rfl

/-- Once an event is taken, the state is as before but for the outstanding events. -/
theorem State.told_events {s u : State} {ch : Event → Bool} {e : Event} (h : s.told ch e u) :
    ∃ rest, u = { s with events := rest } := ⟨_, State.told_frame h⟩

section
variable {m : Arm} {s : State}

theorem State.hubEntry_holder (hm : s.hub.holder = some m) : s.hubEntry m = s := if_pos hm

/-- An entry by another arm makes it an intruder, and the first intruder trips the station (R66, R68). -/
theorem State.hubEntry_other (hm : s.hub.holder ≠ some m) :
    (s.hub.intrusion = true →
      s.hubEntry m = { s with hub := { s.hub with intruders := s.hub.intruders.set m true } }) ∧
    (s.hub.intrusion = false →
      s.hubEntry m =
        State.tripCause .hubIntrusion { s with hub := { s.hub with intruders := s.hub.intruders.set m true } }) := by
  rw [State.hubEntry, if_neg hm]
  exact ⟨fun hi => State.onRise_of_not fun h => Bool.false_ne_true (h.1.symm.trans hi), fun hi => State.onRise_of hi rfl⟩

theorem State.hubExit_other (hm : s.hub.holder ≠ some m) :
    s.hubExit m = { s with hub := { s.hub with intruders := s.hub.intruders.set m false } } := if_neg hm

theorem State.hubExit_cond (hm : s.hub.holder = some .cond) : s.hubExit .cond = s.endGrant := if_pos hm

theorem State.hubExit_carrier (hm : s.hub.holder = some m) (hc : m ≠ .cond) : s.hubExit m = s := by
  rw [State.hubExit, if_pos hm, if_neg hc]

end

theorem Hub.intrusion_false_iff (h : Hub) : h.intrusion = false ↔ h.intruders = ⟨false, false, false⟩ := by
  obtain ⟨_, _, ⟨a, b, c⟩⟩ := h
  simp [Hub.intrusion, and_assoc]

/-- Settles O26: each crossing is taken by the standing of its arm. -/
theorem hubCrossingsAreTaken : Obligations.HubCrossingsAreTaken := by
  intro m s u
  refine ⟨fun h => ?_, fun h => ?_⟩
  · have row : exec (.hubEntry m) s = .next (u.hubEntry m) := exec_told (e := .hubEntry m) h
    have hub : s.hub = u.hub := by rw [State.told_frame h]
    rw [row, hub]
    refine ⟨fun hm => congrArg _ (State.hubEntry_holder hm), fun hm hi => congrArg _ ((State.hubEntry_other hm).1 ?_),
      fun hm hi => ?_⟩
    · rwa [← Bool.not_eq_false, Hub.intrusion_false_iff]
    · have taken := State.takesCauses_tripCause .hubIntrusion
        { u with hub := { u.hub with intruders := u.hub.intruders.set m true } }
      refine ⟨_, congrArg _ ((State.hubEntry_other hm).2 (u.hub.intrusion_false_iff.2 hi)), State.tripCause_hub _ _,
        (State.tripCause_tripsTo _ _).congr rfl rfl, taken.filed, taken.caused.congr rfl, ?_⟩
      rw [State.tripCause_hub]
      exact taken.frame
  · have row : exec (.hubExit m) s = .next (u.hubExit m) := exec_told (e := .hubExit m) h
    have hub : s.hub = u.hub := by rw [State.told_frame h]
    rw [row, hub]
    refine ⟨fun hm hc => ?_, fun hm hc => congrArg _ (State.hubExit_carrier hm hc),
      fun hm => congrArg _ (State.hubExit_other hm)⟩
    subst hc
    rw [State.hubExit_cond hm]

end Sys2Proof.Machine

/-!
What each block does when it takes what another has told it: holds, trips, the slurry stop and a replaced map (O33).
-/

namespace Sys2Proof.Machine
open Sys2Proof

/-! ### Emptied bars (R141, R143, R144) -/

theorem Bar.emptied_of_none {b : Bar} (h : b.feed = none) : b.emptied = b := by
  rw [Bar.emptied, h]

theorem Bar.emptied_of_some {b : Bar} {k : Line} (h : b.feed = some k) :
    b.emptied = { b with feed := none, fallback := false, resume := some { line := k, fallback := b.fallback } } := by
  rw [Bar.emptied, h]

theorem State.modBar_of_eq {l : Lane} {f g : Bar → Bar} {s : State} (h : f (s.bar l) = g (s.bar l)) :
    s.modBar l f = s.modBar l g := by
  have same : f (s.slurry.bars.get l) = g (s.slurry.bars.get l) := h
  simp only [State.modBar, State.modSlurry, same]

theorem State.modBar_id (l : Lane) (s : State) : s.modBar l id = s := by
  cases l <;> rfl

theorem State.emptyBar_of_none {l : Lane} {s : State} (h : (s.bar l).feed = none) : s.emptyBar l = s.recompute := by
  rw [State.emptyBar, State.modBar_of_eq (g := id) (Bar.emptied_of_none h), State.modBar_id]

theorem State.emptyBar_of_some {l : Lane} {k : Line} {s : State} (h : (s.bar l).feed = some k) :
    s.emptyBar l = (s.modBar l fun b =>
      { b with
        feed := none, fallback := false
        resume := some { line := k, fallback := (s.bar l).fallback } }).recompute :=
  congrArg State.recompute (State.modBar_of_eq (Bar.emptied_of_some h))

/-- The bar of `l` is emptied from `s` to `t`: a fed bar keeps its feed as its resume record, a bar at NONE is as it was. -/
structure State.barEmptied (s t : State) (l : Lane) : Prop where
  rate : s.rateKept t l
  feed : (t.bar l).feed = none
  fallback : (t.bar l).fallback = if (s.bar l).feed = none then (s.bar l).fallback else false
  resume_kept : (s.bar l).feed = none → (t.bar l).resume = (s.bar l).resume
  resume_fed : ∀ k, (s.bar l).feed = some k → (t.bar l).resume = some { line := k, fallback := (s.bar l).fallback }

theorem State.barEmptied_of_bar {s t : State} {l : Lane} (h : t.bar l = (s.bar l).emptied) : s.barEmptied t l := by
  cases hf : (s.bar l).feed with
  | none =>
    rw [Bar.emptied_of_none hf] at h
    refine ⟨?_, ?_, ?_, fun _ => ?_, fun k hk => ?_⟩
    · exact ⟨by rw [h], by rw [h]⟩
    · rw [h, hf]
    · rw [h, hf, if_pos rfl]
    · rw [h]
    · rw [hf] at hk; cases hk
  | some k =>
    rw [Bar.emptied_of_some hf] at h
    refine ⟨?_, ?_, ?_, fun hn => ?_, fun j hj => ?_⟩
    · exact ⟨by rw [h], by rw [h]⟩
    · rw [h]
    · rw [h, hf, if_neg (Option.some_ne_none k)]
    · rw [hf] at hn; cases hn
    · rw [hf] at hj
      obtain rfl := Option.some.inj hj
      rw [h]

/-- A recompute leaves an emptied bar emptied (R139). -/
theorem State.barEmptied.recompute {s t : State} {l : Lane} (h : s.barEmptied t l) : s.barEmptied t.recompute l := by
  obtain ⟨feed, fallback, resume⟩ := t.barKept_recompute l
  obtain ⟨rate, weights⟩ := t.rateKept_recompute l
  exact ⟨⟨rate.trans h.rate.1, weights.trans h.rate.2⟩, feed.trans h.feed, fallback.trans h.fallback,
    fun hn => resume.trans (h.resume_kept hn), fun k hk => resume.trans (h.resume_fed k hk)⟩

/-- Which fields of a line are kept depends on the two states only by the line's records. -/
theorem State.lineKept.congr {s t v w : State} {k : Line} (h : v.lineKept w k) (before : v.line k = s.line k)
    (after : t.line k = w.line k) : s.lineKept t k := by
  unfold State.lineKept at h ⊢
  rwa [after, ← before]

/-- Both bars emptied, before the recompute. -/
def State.barsEmptied (s : State) : State := (s.modBar .a Bar.emptied).modBar .b Bar.emptied

theorem State.barsEmptied_bar (s : State) (l : Lane) : s.barsEmptied.bar l = (s.bar l).emptied := by
  cases l <;> rfl

theorem State.barEmptied_emptyBothBars (s : State) (l : Lane) : s.barEmptied s.emptyBothBars l :=
  (State.barEmptied_of_bar (s.barsEmptied_bar l)).recompute

theorem State.emptyBothBars_line (s : State) (k : Line) : s.lineKept s.emptyBothBars k ∧
    (s.emptyBothBars.line k).state = (s.line k).state := by
  refine ⟨(s.barsEmptied.lineKept_recompute k).congr rfl rfl, ?_⟩
  rw [show s.emptyBothBars = s.barsEmptied.recompute from rfl, State.recompute_line]
  rfl

theorem State.emptyBothBars_flowsTrue (s : State) : s.emptyBothBars.slurry.flowsTrue s.settings.slurry :=
  s.barsEmptied.recompute_flowsTrue

theorem State.linesOff_line (s : State) (k : Line) : s.linesOff.line k = (s.line k).turnOff := Lines.get_map _ _ _

theorem State.barEmptied_slurryStop (s : State) (l : Lane) : s.barEmptied s.slurryStop l :=
  (State.barEmptied_of_bar (t := s.barsEmptied.linesOff) (s.barsEmptied_bar l)).recompute

theorem State.slurryStop_line (s : State) (k : Line) :
    State.lineKept (s.modLine k SupplyLine.turnOff) s.slurryStop k ∧ (s.slurryStop.line k).state = .off := by
  have off : s.barsEmptied.linesOff.line k = (s.line k).turnOff := State.linesOff_line _ k
  refine ⟨(s.barsEmptied.linesOff.lineKept_recompute k).congr (by rw [off, State.modLine_line_self]) rfl, ?_⟩
  rw [show s.slurryStop = s.barsEmptied.linesOff.recompute from rfl, State.recompute_line, recomputeLine_state]
  exact congrArg SupplyLine.state off

theorem State.slurryStop_flowsTrue (s : State) : s.slurryStop.slurry.flowsTrue s.settings.slurry :=
  s.barsEmptied.linesOff.recompute_flowsTrue

/-- A line that is OFF has setpoint and duty 0 (R128). -/
theorem Slurry.flowsTrue.off {g : SlurrySettings} {q : Slurry} (h : q.flowsTrue g) {k : Line}
    (hk : (q.lines.get k).state = .off) : (q.lines.get k).duty = 0 ∧ (q.lines.get k).setpoint = 0 := by
  obtain ⟨-, -, off, -, -, duty⟩ := h.2 k
  have setpoint := off (.inl hk)
  exact ⟨by rw [duty, setpoint, Nat.zero_mul, Nat.zero_div], setpoint⟩

/-! ### The levels that the pressure controller is told (R74, R90) -/

/-- Where the drive targets are derived again, only they change, by the state and the hold level of the lane. -/
theorem State.deriveDrive_channel (l : Lane) (s : State) (c : Chan) :
    ((s.deriveDrive l).lane l).channels.get c =
      { (s.lane l).channels.get c with drive := (((s.deriveDrive l).lane l).channels.get c).drive } ∧
    ((s.lane l).state = .raised ∨ (s.lane l).state = .releasing →
      (((s.deriveDrive l).lane l).channels.get c).drive = 0) ∧
    ((s.lane l).state = .touchdown ∨ (s.lane l).state = .polish →
      (s.holdLevel l = .none →
        (((s.deriveDrive l).lane l).channels.get c).drive = ((s.lane l).channels.get c).effective) ∧
      (s.holdLevel l = .soft → (((s.deriveDrive l).lane l).channels.get c).drive =
        min (s.settings.press.softHold.get l) ((s.lane l).channels.get c).effective)) := by
  have drives := s.drives_driven l (s.lane l) c
  rw [State.deriveDrive_eq, State.modLane_lane_self]
  rw [State.driven_channel] at drives ⊢
  exact ⟨rfl, drives⟩

theorem State.deriveDrive_frame (l : Lane) (s : State) : s.deriveDrive l = s.modLane l (fun _ => (s.deriveDrive l).lane l) ∧
    (s.deriveDrive l).lane l = { s.lane l with channels := ((s.deriveDrive l).lane l).channels } := by
  rw [State.deriveDrive_eq, State.modLane_lane_self]
  exact ⟨rfl, rfl⟩

/-- Settles O33: the row of each event is its taking, in the state that has it no longer outstanding. -/
theorem toldBlocksAct : Obligations.ToldBlocksAct := by
  intro l s u
  refine ⟨fun h => exec_told (e := .hardHoldVent l) h, fun h => ⟨_, exec_told (e := .softHoldCap l) h, ?_⟩, fun h => ?_,
    fun h => exec_told (e := .hardHoldWithdraw l) h, fun h => ?_,
    fun h => ?_, fun h => exec_told (e := .mapReplaced) h⟩
  · obtain ⟨rest, rfl⟩ := State.told_events h
    obtain ⟨frame, lane⟩ := State.deriveDrive_frame l { s with events := rest }
    exact ⟨frame, lane, State.deriveDrive_channel l _⟩
  · have row : exec (.hardHoldBarEmpty l) s = .next (u.emptyBar l) := exec_told (e := .hardHoldBarEmpty l) h
    obtain ⟨rest, rfl⟩ := State.told_events h
    exact ⟨fun hf => row.trans (congrArg _ (State.emptyBar_of_none hf)),
      fun k hk => row.trans (congrArg _ (State.emptyBar_of_some hk))⟩
  · have row : exec .tripBarEmpty s = .next u.emptyBothBars := exec_told (e := .tripBarEmpty) h
    obtain ⟨rest, rfl⟩ := State.told_events h
    have flows := State.emptyBothBars_flowsTrue { s with events := rest }
    refine ⟨_, row, rfl, flows, rfl, fun k => (State.emptyBothBars_line _ k).1.congr rfl rfl, fun x => ?_⟩
    obtain ⟨rate, feed, fallback, unfed, fed⟩ := State.barEmptied_emptyBothBars { s with events := rest } x
    exact ⟨rate, unfed, feed, fallback, fun o => (flows.1 x o).2.1 feed, fed, fun k => (State.emptyBothBars_line _ k).2⟩
  · have row : exec .slurryStop s = .next u.slurryStop := exec_told (e := .slurryStop) h
    obtain ⟨rest, rfl⟩ := State.told_events h
    have flows := State.slurryStop_flowsTrue { s with events := rest }
    refine ⟨_, row, rfl, flows, rfl, fun k => (State.slurryStop_line { s with events := rest } k).1.congr rfl rfl,
      fun x => ?_, fun k => ?_⟩
    · obtain ⟨rate, feed, fallback, unfed, fed⟩ := State.barEmptied_slurryStop { s with events := rest } x
      exact ⟨rate, feed, fallback, unfed, fed⟩
    · have off := (State.slurryStop_line { s with events := rest } k).2
      exact ⟨off, flows.off off⟩

end Sys2Proof.Machine

/-!
STATION RESTART: each block's own restart, and the matrix's re-evaluation (O48).
-/

namespace Sys2Proof.Machine
open Sys2Proof

/-! ### The re-evaluation of a lane (R161) -/

/-- The cause set that the re-evaluation makes of an empty one: INPUT and SUPPLY_LOW where they are active (R161). -/
def State.activeAgain (s : State) (l : Lane) : List CauseEntry :=
  (if s.targetActive l.holdTarget then [causeEntry .input (s.settings.matrix.severity.get l)] else []) ++
    (if s.press.supplyLowActive then [causeEntry .supplyLow .soft] else [])

section
variable {l : Lane} {s : State}

/-- The first cause of a lane raises its level, which is filed. -/
theorem State.addCauseUntold_first (e : CauseEntry) (h : s.causes l = []) :
    s.addCauseUntold l e = (s.setCauses l [e]).fileHold l := by
  have added : addEntry e (s.causes l) = [e] := by rw [h]; rfl
  have level : (s.setCauses l [e]).holdLevel l ≠ s.holdLevel l := by
    rw [State.holdLevel, State.holdLevel, State.setCauses_causes, if_pos rfl, h]
    exact levelOf_ne_none (List.mem_singleton_self e)
  rw [State.addCauseUntold, State.addCauseWith, added]
  exact if_neg level

/-- A SOFT cause beside one of another kind leaves the level, and nothing is filed. -/
theorem State.addCauseUntold_second {x e : CauseEntry} (h : s.causes l = [x]) (kind : x.kind ≠ e.kind)
    (soft : e.severity = .soft) : s.addCauseUntold l e = s.setCauses l [x, e] := by
  have added : addEntry e (s.causes l) = [x, e] := by rw [h, addEntry, if_neg kind]; rfl
  have level : (s.setCauses l [x, e]).holdLevel l = s.holdLevel l := by
    rw [State.holdLevel, State.holdLevel, State.setCauses_causes, if_pos rfl, h]
    simp [levelOf, soft]
  rw [State.addCauseUntold, State.addCauseWith, added]
  exact if_pos level

/-- The re-evaluation of a lane without causes: the active ones are its set, and its level is filed where there are any. -/
theorem State.reevaluateLane_eq (h : s.causes l = []) : s.reevaluateLane l =
    if s.activeAgain l = [] then s else (s.setCauses l (s.activeAgain l)).fileHold l := by
  set input := causeEntry .input (s.settings.matrix.severity.get l)
  have second : ∀ e : CauseEntry, ((s.setCauses l [input]).fileHold l).setCauses l [input, e] =
      (s.setCauses l [input, e]).fileHold l := fun e => by cases l <;> rfl
  unfold State.reevaluateLane State.activeAgain
  cases hi : s.targetActive l.holdTarget <;> cases hl : s.press.supplyLowActive
  · rfl
  · exact State.addCauseUntold_first _ h
  · exact State.addCauseUntold_first _ h
  · refine (State.addCauseUntold_second (s := s.addCauseUntold l input) (x := input) ?_ ?_ rfl).trans ?_
    · rw [State.addCauseUntold_first _ h]
      exact (State.setCauses_causes _ _ _ _).trans (if_pos rfl)
    · exact CauseKind.noConfusion
    · rw [State.addCauseUntold_first _ h, second]
      rfl

theorem State.reevaluateLane_causes (h : s.causes l = []) (j : Lane) :
    (s.reevaluateLane l).causes j = if j = l then s.activeAgain l else s.causes j := by
  rw [State.reevaluateLane_eq h]
  split
  · next empty =>
    split
    · next hj => rw [hj, h, empty]
    · rfl
  · exact State.setCauses_causes _ _ _ _

theorem State.mem_fileHold (p : Port) (x : Notice) :
    x ∈ ((s.fileHold l).port p).notices ↔ (x = .holdEntered ∧ (p = l.port ∨ p = .s)) ∨ x ∈ (s.port p).notices := by
  rw [State.fileHold, State.mem_file, State.mem_file]
  tauto

theorem State.mem_reevaluateLane (h : s.causes l = []) (p : Port) (x : Notice) :
    x ∈ ((s.reevaluateLane l).port p).notices ↔
      (x = .holdEntered ∧ (p = l.port ∨ p = .s) ∧ s.activeAgain l ≠ []) ∨ x ∈ (s.port p).notices := by
  rw [State.reevaluateLane_eq h]
  split
  · next empty => simp [empty]
  · next active =>
    rw [State.mem_fileHold, and_iff_left active]
    rfl

theorem State.onlyFiled_reevaluateLane (h : s.causes l = []) : s.onlyFiled (s.reevaluateLane l) := by
  rw [State.reevaluateLane_eq h]
  split
  · exact State.onlyFiled_of_links rfl
  · exact ((State.onlyFiled_of_links rfl).trans (State.onlyFiled_file _ _ _)).trans (State.onlyFiled_file _ _ _)

theorem State.reevaluateLane_frame (h : s.causes l = []) : ∃ causes links,
    s.reevaluateLane l = { s with matrix := { s.matrix with causes := causes }, links := links } := by
  rw [State.reevaluateLane_eq h]
  split
  · exact ⟨s.matrix.causes, s.links, rfl⟩
  · exact ⟨s.matrix.causes.set l (s.activeAgain l), _, rfl⟩

end

/-! ### The blocks' own restarts (R71, R99, R123, R147, R178) -/

/-- The lanes that were RAISED stay as they are but for their channels (R99). -/
theorem LanePressure.restarted_of_raised {x : LanePressure} (h : x.state = .raised) : x.restarted = { x with
    channels := x.channels.map fun c =>
      { c with command := 0, remainder := 0, drive := 0, devTimer := 0, fault := false } } := by
  cases x
  cases h
  rfl

/-- The slurry unit's records before the recompute of its restart (R147). -/
def State.slurryCleared (s : State) : State :=
  s.modSlurry fun q =>
    { q with
      bars := q.bars.map fun b => { b with feed := none, fallback := false, resume := none }
      lines := q.lines.map fun x => { x with state := .off, prime := 0, lastPulse := 0 } }

theorem State.slurryRestart_eq (s : State) : s.slurryRestart = s.slurryCleared.recompute := rfl

theorem State.slurryRestart_bar (s : State) (l : Lane) : (s.slurryRestart.bar l).feed = none ∧
    (s.slurryRestart.bar l).fallback = false ∧ (s.slurryRestart.bar l).resume = none ∧ s.rateKept s.slurryRestart l := by
  have cleared : s.slurryCleared.bar l = { s.bar l with feed := none, fallback := false, resume := none } :=
    Lanes.get_map _ _ _
  obtain ⟨feed, fallback, resume⟩ := s.slurryCleared.barKept_recompute l
  obtain ⟨rate, weights⟩ := s.slurryCleared.rateKept_recompute l
  rw [cleared] at feed fallback resume rate weights
  exact ⟨feed, fallback, resume, rate, weights⟩

theorem State.slurryRestart_line (s : State) (k : Line) :
    State.lineKept (s.modLine k fun y => { y with state := .off, prime := 0, lastPulse := 0 }) s.slurryRestart k := by
  refine (s.slurryCleared.lineKept_recompute k).congr ?_ rfl
  rw [State.modLine_line_self]
  exact Lines.get_map _ _ _

/-- The conditioner's record after a station restart (R123), the disk judged by its life limit. -/
def Conditioner.restarted (diskLifeLimit : Nat) (c : Conditioner) : Conditioner :=
  { c.enter (if c.state = .parked then .parked else .unreferenced) with
    mode := .off, queue := [], target := none, faultKind := none, dwell := 0, dfCommand := 0, dfDevTimer := 0
    clearNoted := false, spent := decide (diskLifeLimit ≤ c.diskLife) }

theorem State.condRestart_frame (s : State) : ∃ links, s.condRestart = { s with
    cond := s.cond.restarted s.settings.cond.diskLifeLimit, links := links } := by
  unfold State.condRestart State.evaluateSpent State.onRise
  simp only
  split <;> exact ⟨_, rfl⟩

theorem State.onlyFiled_condRestart (s : State) : s.onlyFiled s.condRestart :=
  (State.onlyFiled_of_links rfl).trans (State.onlyFiled_onRise _ _ _ _ (State.onlyFiled_file _ _ _))

/-- The state between the blocks' own restarts and the matrix's re-evaluation (R160). -/
def State.restarted (s : State) : State :=
  (s.pressureRestart.slurryRestart.rederiveHub.condRestart.modLinks Links.restarted).modMatrix Matrix.restarted

/-- No block's restart before the conditioner's looks at what another one has restarted. -/
theorem State.rederived_frame (s : State) : s.pressureRestart.slurryRestart.rederiveHub = { s with
    press := s.pressureRestart.press, slurry := s.slurryRestart.slurry, hub := s.rederiveHub.hub } := by
  have press : s.pressureRestart = { s with press := s.pressureRestart.press } := rfl
  have slurry : ∀ p, State.slurryRestart { s with press := p } =
      { s with press := p, slurry := s.slurryRestart.slurry } := fun _ => rfl
  have hub : ∀ p q, State.rederiveHub { s with press := p, slurry := q } =
      { s with press := p, slurry := q, hub := s.rederiveHub.hub } := fun _ _ => rfl
  rw [press, slurry, hub]

theorem State.restarted_frame (s : State) : ∃ links, s.restarted = { s with
    press := s.pressureRestart.press, slurry := s.slurryRestart.slurry, hub := s.rederiveHub.hub
    cond := s.cond.restarted s.settings.cond.diskLifeLimit, matrix := s.matrix.restarted, links := links } := by
  obtain ⟨links, frame⟩ := s.pressureRestart.slurryRestart.rederiveHub.condRestart_frame
  rw [s.rederived_frame] at frame
  rw [State.restarted, s.rederived_frame, frame]
  exact ⟨links.restarted, rfl⟩

theorem State.restarted_silence (s : State) : s.restarted.links.silence = s.links.silence :=
  s.pressureRestart.slurryRestart.rederiveHub.onlyFiled_condRestart.1

theorem State.restarted_port (s : State) (p : Port) :
    s.restarted.port p = { s.port p with notices := [], noteBox := none } := by
  have filed := (s.pressureRestart.slurryRestart.rederiveHub.onlyFiled_condRestart.2 p).1
  have emptied : s.restarted.port p =
      { s.pressureRestart.slurryRestart.rederiveHub.condRestart.port p with notices := [], noteBox := none } :=
    Ports.get_map _ _ _
  rw [emptied, filed]
  rfl

/-- With at most one arm inside, it is the holder that a restart makes (R71). -/
theorem State.rederiveHub_hub {s : State} (h : s.armsInside.length ≤ 1) : s.rederiveHub.hub =
    { holder := s.armsInside.head?, waitList := [], intruders := ⟨false, false, false⟩ } := by
  have holder : (match s.armsInside with | [m] => some m | _ => none) = s.armsInside.head? := by
    rcases hi : s.armsInside with _ | ⟨m, _ | ⟨n, rest⟩⟩
    · rfl
    · rfl
    · rw [hi] at h
      simp at h
  rw [← holder]
  rfl

/-! ### The restart as a whole (R160, R161) -/

theorem State.activeAgain_congr {s t : State} (l : Lane) (settings : t.settings = s.settings)
    (inputs : t.matrix.inputs = s.matrix.inputs) (supply : t.press.supplyLowActive = s.press.supplyLowActive) :
    t.activeAgain l = s.activeAgain l := by
  have target : t.targetActive l.holdTarget = s.targetActive l.holdTarget := by
    simp only [State.targetActive, State.inputActive, Matrix.input, settings, inputs]
  rw [State.activeAgain, State.activeAgain, target, settings, supply]

section
variable (s : State)

theorem State.restarted_causes (l : Lane) : s.restarted.causes l = [] := by
  obtain ⟨links, frame⟩ := s.restarted_frame
  rw [frame]
  exact Lanes.get_all _ _

theorem State.restarted_activeAgain (l : Lane) : s.restarted.activeAgain l = s.activeAgain l := by
  obtain ⟨links, frame⟩ := s.restarted_frame
  rw [frame]
  exact State.activeAgain_congr l rfl rfl rfl

/-- Lane B is re-evaluated as if lane A had not been. -/
theorem State.restarted_second : (s.restarted.reevaluateLane .a).causes .b = [] ∧
    (s.restarted.reevaluateLane .a).activeAgain .b = s.activeAgain .b := by
  constructor
  · rw [State.reevaluateLane_causes (s.restarted_causes .a), if_neg (by decide), s.restarted_causes]
  · obtain ⟨causes, links, frame⟩ := State.reevaluateLane_frame (s.restarted_causes .a)
    rw [← s.restarted_activeAgain, frame]
    exact State.activeAgain_congr .b rfl rfl rfl

theorem State.stationRestart_eq : s.stationRestart = (s.restarted.reevaluateLane .a).reevaluateLane .b := rfl

theorem State.stationRestart_causes (l : Lane) : s.stationRestart.causes l = s.activeAgain l := by
  obtain ⟨clean, second⟩ := s.restarted_second
  rw [State.stationRestart_eq, State.reevaluateLane_causes clean, second,
    State.reevaluateLane_causes (s.restarted_causes .a), s.restarted_activeAgain, s.restarted_causes]
  cases l <;> rfl

theorem State.mem_stationRestart (p : Port) (x : Notice) : x ∈ (s.stationRestart.port p).notices ↔
    x = .holdEntered ∧ ∃ l : Lane, (p = l.port ∨ p = .s) ∧ s.activeAgain l ≠ [] := by
  obtain ⟨clean, second⟩ := s.restarted_second
  rw [State.stationRestart_eq, State.mem_reevaluateLane clean, second,
    State.mem_reevaluateLane (s.restarted_causes .a), s.restarted_activeAgain, s.restarted_port, Lane.exists_iff]
  simp only [List.not_mem_nil, or_false]
  tauto

theorem State.onlyFiled_stationRestart : s.restarted.onlyFiled s.stationRestart :=
  (State.onlyFiled_reevaluateLane (s.restarted_causes .a)).trans
    (State.onlyFiled_reevaluateLane s.restarted_second.1)

theorem State.stationRestart_frame : ∃ causes links, s.stationRestart = { s with
    press := s.pressureRestart.press, slurry := s.slurryRestart.slurry, hub := s.rederiveHub.hub
    cond := s.cond.restarted s.settings.cond.diskLifeLimit, matrix := { s.matrix.restarted with causes := causes }
    links := links } := by
  obtain ⟨_, frame⟩ := s.restarted_frame
  obtain ⟨_, _, first⟩ := State.reevaluateLane_frame (s.restarted_causes .a)
  obtain ⟨causes, links, second⟩ := State.reevaluateLane_frame s.restarted_second.1
  rw [State.stationRestart_eq, second, first, frame]
  exact ⟨causes, links, rfl⟩

/-- Every slot, flag and box of a port but its notices is as the link interface's restart leaves it (R178). -/
theorem State.stationRestart_port (p : Port) : s.stationRestart.port p =
    { s.port p with notices := (s.stationRestart.port p).notices, noteBox := none } := by
  have filed := (s.onlyFiled_stationRestart.2 p).1
  rwa [s.restarted_port] at filed

theorem State.stationRestart_silence : s.stationRestart.links.silence = s.links.silence :=
  s.onlyFiled_stationRestart.1.trans s.restarted_silence

end

/-! ### The refusals (R160) -/

theorem State.bothRaised_iff (s : State) : s.bothRaised = true ↔ ∀ l, (s.lane l).state = .raised := by
  rw [State.bothRaised, Bool.and_eq_true, s.laneRaised_iff, s.laneRaised_iff]
  exact ⟨fun ⟨ha, hb⟩ l => by cases l <;> assumption, fun h => ⟨h .a, h .b⟩⟩

theorem decideStationRestart_inside {s : State} (h : 2 ≤ s.armsInside.length) :
    decideStationRestart s = refuse .stillInside s := if_pos h

/-- With at most one arm inside, a restart is taken exactly in NORMAL with both lanes RAISED and the conditioner at rest. -/
theorem decideStationRestart_quiet {s : State} (h : s.armsInside.length ≤ 1) :
    (s.matrix.station = .tripped ∨ (∃ l, (s.lane l).state ≠ .raised) ∨ s.cond.state ∉ [.parked, .unreferenced, .fault] →
      decideStationRestart s = refuse .busy s) ∧
    (s.matrix.station = .normal → (∀ l, (s.lane l).state = .raised) → s.cond.state ∈ [.parked, .unreferenced, .fault] →
      decideStationRestart s = done s.stationRestart) := by
  have busy : (s.matrix.station = .tripped ∨ s.bothRaised = false ∨ s.cond.state.atRest = false) ↔
      s.matrix.station = .tripped ∨ (∃ l, (s.lane l).state ≠ .raised) ∨
        s.cond.state ∉ [CondState.parked, .unreferenced, .fault] := by
    rw [← Bool.not_eq_true, ← Bool.not_eq_true, s.bothRaised_iff, CondState.atRest_iff, not_forall]
  rw [decideStationRestart, if_neg (Nat.not_le.2 (Nat.lt_succ_of_le h))]
  refine ⟨fun hb => if_pos (busy.2 hb), fun normal raised rest => if_neg fun hb => ?_⟩
  rcases busy.1 hb with tripped | ⟨l, up⟩ | moving
  · rw [normal] at tripped; cases tripped
  · exact up (raised l)
  · exact moving rest

/-- Settles O48: the refusals in their order, and the blocks' restarts with the matrix's re-evaluation. -/
theorem stationRestart : Obligations.StationRestart := by
  intro s₀ s hs inside
  have row : ∀ {t : State} {r : Result}, decideStationRestart s = { state := t, result := r } →
      exec (.stationRestart .s) s₀ = .next (replied .s .stationRestart r [] t) :=
    exec_request_replied .s .stationRestart hs rfl rfl rfl
  refine ⟨fun h => row (decideStationRestart_inside h), fun h busy => row ((decideStationRestart_quiet h).1 busy),
    fun h normal raised rest => ⟨_, row ((decideStationRestart_quiet h).2 normal raised rest), ?_⟩⟩
  obtain ⟨causes, links, frame⟩ := s.stationRestart_frame
  have press : s.stationRestart.press = s.pressureRestart.press := by rw [frame]
  have slurry : s.stationRestart.slurry = s.slurryRestart.slurry := by rw [frame]
  have bar : ∀ l, s.stationRestart.bar l = s.slurryRestart.bar l := fun l => congrArg (fun q => q.bars.get l) slurry
  have notices := s.mem_stationRestart
  refine ⟨by rw [frame], by rw [frame], by rw [frame], by rw [frame], by rw [frame], ?hub, fun l => ?lane, ?press, ?flows,
    fun l => ?bars, fun k => ?line, ?window, ?cond, s.stationRestart_silence, s.stationRestart_port, fun l n => ?own,
    fun n => ?main, by rw [frame], by rw [frame]; rfl, by rw [frame]; rfl, by rw [frame]; rfl, by rw [frame]; rfl,
    fun l => ⟨?_, ?_, s.stationRestart_causes l⟩⟩
  case hub => rw [frame]; exact State.rederiveHub_hub h
  case lane =>
    rw [← LanePressure.restarted_of_raised (raised l), State.lane, press]
    cases l <;> rfl
  case press => rw [press]; rfl
  case flows => rw [slurry]; exact s.slurryCleared.recompute_flowsTrue
  case bars =>
    obtain ⟨feed, fallback, resume, rate, weights⟩ := s.slurryRestart_bar l
    rw [← bar] at feed fallback resume rate weights
    exact ⟨feed, fallback, resume, rate, weights⟩
  case line => exact (s.slurryRestart_line k).congr rfl (congrArg (fun q => q.lines.get k) slurry)
  case window => rw [slurry]; rfl
  case cond => rw [frame]; rfl
  case own =>
    rw [notices, s.stationRestart_causes]
    cases l <;> simp [Lane.port, Lane.exists_iff]
  case main =>
    rw [notices]
    simp only [s.stationRestart_causes, or_true, true_and]
  · rw [frame]; exact Lanes.get_all _ _
  · rw [frame]; exact Lanes.get_all _ _

end Sys2Proof.Machine

/-!
The conditioning queue and its rebuild from the band wear (O37).
-/

namespace Sys2Proof.Machine
open Sys2Proof

/-! ### The order of the queue (R104) -/

theorem QueueEntry.before_iff (x y : QueueEntry) : x.before y = true ↔
    y.rankedWear < x.rankedWear ∨ (x.rankedWear = y.rankedWear ∧ x.band ≤ y.band) := by
  simp [QueueEntry.before]

theorem insertEntry_eq (e : QueueEntry) (l : List QueueEntry) :
    insertEntry e l = l.orderedInsert (fun x y => x.before y = true) e := by
  induction l with
  | nil => rfl
  | cons x rest ih => rw [insertEntry, List.orderedInsert_cons, ih]

theorem sortQueue_eq (l : List QueueEntry) : sortQueue l = l.insertionSort fun x y => x.before y = true := by
  induction l with
  | nil => rfl
  | cons e rest ih => rw [sortQueue, insertEntry_eq, ih, List.insertionSort_cons]

theorem sortQueue_perm (l : List QueueEntry) : (sortQueue l).Perm l := by
  rw [sortQueue_eq]
  exact List.perm_insertionSort _ l

theorem sortQueue_ordered (l : List QueueEntry) : (sortQueue l).Pairwise fun x y => x.before y = true := by
  have total : Std.Total fun x y : QueueEntry => x.before y = true := ⟨fun x y => by
    rw [QueueEntry.before_iff, QueueEntry.before_iff]
    omega⟩
  have trans : IsTrans QueueEntry fun x y => x.before y = true := ⟨fun x y z => by
    rw [QueueEntry.before_iff, QueueEntry.before_iff, QueueEntry.before_iff]
    omega⟩
  rw [sortQueue_eq]
  exact List.pairwise_insertionSort _ l

/-- A sort of entries of different bands is in the queue's order. -/
theorem sortQueue_precedes {l : List QueueEntry} (h : (l.map (·.band)).Nodup) :
    (sortQueue l).Pairwise QueueEntry.precedes := by
  have bands : (sortQueue l).Pairwise fun x y => x.band ≠ y.band :=
    List.pairwise_map.1 (((sortQueue_perm l).map QueueEntry.band).nodup_iff.2 h)
  refine ((sortQueue_ordered l).and bands).imp fun {x y} ⟨before, differ⟩ => ?_
  rw [QueueEntry.before_iff] at before
  unfold QueueEntry.precedes
  omega

/-! ### What a rebuild keeps and what joins (R105) -/

/-- An entry that stays in a rebuild, ranked anew, its rest lowered. -/
def QueueEntry.rebuilt (m : PadMap) (e : QueueEntry) : QueueEntry :=
  { e with rankedWear := (m.band e.band).wear, rest := lowerRest e.rest }

/-- The entries that stay in a rebuild. -/
def keptEntries (g : MapSettings) (m : PadMap) (queue : List QueueEntry) : List QueueEntry :=
  (queue.filter fun e => decide (g.condStop ≤ (m.band e.band).wear)).map (QueueEntry.rebuilt m)

/-- The bands that join in a rebuild. -/
def joiningBands (g : MapSettings) (m : PadMap) (queue : List QueueEntry) : List Nat :=
  bandIndices.filter fun k =>
    decide (g.condStart ≤ (m.band k).wear) && (keptEntries g m queue).all fun e => decide (e.band ≠ k)

/-- The entry of a band that joins. -/
def PadMap.joined (m : PadMap) (k : Nat) : QueueEntry := { band := k, rankedWear := (m.band k).wear, rest := none }

theorem rebuildQueue_eq (g : MapSettings) (m : PadMap) (queue : List QueueEntry) : rebuildQueue g m queue =
    sortQueue (keptEntries g m queue ++ (joiningBands g m queue).map m.joined) := rfl

section
variable {g : MapSettings} {m : PadMap} {queue : List QueueEntry}

theorem mem_keptEntries {e : QueueEntry} : e ∈ keptEntries g m queue ↔
    ∃ old ∈ queue, g.condStop ≤ (m.band old.band).wear ∧ e = old.rebuilt m := by
  simp only [keptEntries, List.mem_map, List.mem_filter, decide_eq_true_eq, and_assoc, eq_comm (b := e)]

theorem mem_joiningBands {k : Nat} : k ∈ joiningBands g m queue ↔
    k ≤ 19 ∧ g.condStart ≤ (m.band k).wear ∧ ¬ ∃ old ∈ queue, old.band = k ∧ g.condStop ≤ (m.band k).wear := by
  have kept : (keptEntries g m queue).all (fun e => decide (e.band ≠ k)) = true ↔
      ¬ ∃ old ∈ queue, old.band = k ∧ g.condStop ≤ (m.band k).wear := by
    simp only [List.all_eq_true, decide_eq_true_eq, mem_keptEntries]
    constructor
    · rintro h ⟨old, hold, rfl, hw⟩
      exact h _ ⟨old, hold, hw, rfl⟩ rfl
    · rintro h e ⟨old, hold, hw, rfl⟩ hk
      obtain rfl : old.band = k := hk
      exact h ⟨old, hold, rfl, hw⟩
  rw [joiningBands, List.mem_filter, Bool.and_eq_true, kept, decide_eq_true_eq, bandIndices, List.mem_range]
  exact and_congr_left' Nat.lt_succ_iff

/-- An entry of a rebuild stayed or joined. -/
theorem mem_rebuildQueue {e : QueueEntry} : e ∈ rebuildQueue g m queue ↔
    (∃ old ∈ queue, g.condStop ≤ (m.band old.band).wear ∧ e = old.rebuilt m) ∨
      ∃ k ∈ joiningBands g m queue, e = m.joined k := by
  rw [rebuildQueue_eq, (sortQueue_perm _).mem_iff, List.mem_append, mem_keptEntries, List.mem_map]
  simp only [eq_comm (b := e)]

/-- A band that a rebuild leaves in the queue, or lets join (R105). -/
theorem band_mem_rebuildQueue {k : Nat} (hk : k ≤ 19) : (∃ e ∈ rebuildQueue g m queue, e.band = k) ↔
    ((∃ e ∈ queue, e.band = k) ∧ g.condStop ≤ (m.band k).wear) ∨ g.condStart ≤ (m.band k).wear := by
  constructor
  · rintro ⟨e, he, rfl⟩
    rcases mem_rebuildQueue.1 he with ⟨old, hold, hw, rfl⟩ | ⟨j, hj, rfl⟩
    · exact .inl ⟨⟨old, hold, rfl⟩, hw⟩
    · exact .inr (mem_joiningBands.1 hj).2.1
  · have stays : ∀ old ∈ queue, old.band = k → g.condStop ≤ (m.band k).wear →
        ∃ e ∈ rebuildQueue g m queue, e.band = k := by
      rintro old hold rfl hw
      exact ⟨old.rebuilt m, mem_rebuildQueue.2 (.inl ⟨old, hold, hw, rfl⟩), rfl⟩
    rintro (⟨⟨old, hold, hb⟩, hw⟩ | hw)
    · exact stays old hold hb hw
    · by_cases h : ∃ old ∈ queue, old.band = k ∧ g.condStop ≤ (m.band k).wear
      · obtain ⟨old, hold, hb, hs⟩ := h
        exact stays old hold hb hs
      · exact ⟨m.joined k, mem_rebuildQueue.2 (.inr ⟨k, mem_joiningBands.2 ⟨hk, hw, h⟩, rfl⟩), rfl⟩

variable (nodup : (queue.map (·.band)).Nodup) (range : ∀ e ∈ queue, e.band ≤ 19)

include range in
theorem rebuildQueue_band_le {e : QueueEntry} (he : e ∈ rebuildQueue g m queue) : e.band ≤ 19 := by
  rcases mem_rebuildQueue.1 he with ⟨old, hold, -, rfl⟩ | ⟨k, hk, rfl⟩
  · exact range old hold
  · exact (mem_joiningBands.1 hk).1

theorem rebuildQueue_rankedWear {e : QueueEntry} (he : e ∈ rebuildQueue g m queue) :
    e.rankedWear = (m.band e.band).wear := by
  rcases mem_rebuildQueue.1 he with ⟨old, -, -, rfl⟩ | ⟨k, -, rfl⟩ <;> rfl

include nodup

/-- The entries before the sort are of different bands. -/
theorem rebuilt_bands_nodup :
    ((keptEntries g m queue ++ (joiningBands g m queue).map m.joined).map (·.band)).Nodup := by
  have kept : (keptEntries g m queue).map (·.band) =
      (queue.filter fun e => decide (g.condStop ≤ (m.band e.band).wear)).map (·.band) := by
    rw [keptEntries, List.map_map]
    rfl
  have joined : ((joiningBands g m queue).map m.joined).map (·.band) = joiningBands g m queue := by
    rw [List.map_map]
    exact List.map_id _
  rw [List.map_append, kept, joined]
  refine List.Nodup.append (nodup.sublist (List.filter_sublist.map _)) (List.nodup_range.filter _) fun k hk hj => ?_
  obtain ⟨old, hold, rfl⟩ := List.mem_map.1 hk
  obtain ⟨hold, hw⟩ := List.mem_filter.1 hold
  exact (mem_joiningBands.1 hj).2.2 ⟨old, hold, rfl, of_decide_eq_true hw⟩

theorem rebuildQueue_precedes : (rebuildQueue g m queue).Pairwise QueueEntry.precedes :=
  sortQueue_precedes (rebuilt_bands_nodup nodup)

theorem rebuildQueue_nodup : ((rebuildQueue g m queue).map (·.band)).Nodup :=
  ((sortQueue_perm _).map _).nodup_iff.2 (rebuilt_bands_nodup nodup)

/-- The rest of an entry whose band was in the queue and stayed is lowered (R105 step 3). -/
theorem rebuildQueue_rest {e old : QueueEntry} (he : e ∈ rebuildQueue g m queue) (hold : old ∈ queue)
    (hb : old.band = e.band) (hw : g.condStop ≤ (m.band e.band).wear) : e.rest = lowerRest old.rest := by
  rcases mem_rebuildQueue.1 he with ⟨own, hown, -, rfl⟩ | ⟨k, hk, rfl⟩
  · rw [List.inj_on_of_nodup_map nodup hold hown hb]
    rfl
  · exact absurd ⟨old, hold, hb, hw⟩ (mem_joiningBands.1 hk).2.2

omit nodup in
/-- An entry whose band was not in the queue joins without a rest. -/
theorem rebuildQueue_rest_new {e : QueueEntry} (he : e ∈ rebuildQueue g m queue) (hnew : ∀ old ∈ queue, old.band ≠ e.band) :
    e.rest = none := by
  rcases mem_rebuildQueue.1 he with ⟨own, hown, -, rfl⟩ | ⟨k, -, rfl⟩
  · exact absurd rfl (hnew own hown)
  · rfl

include range in
theorem rebuildQueue_length : (rebuildQueue g m queue).length ≤ 20 := by
  have within : (rebuildQueue g m queue).map (·.band) ⊆ List.range 20 := fun k hk => by
    obtain ⟨e, he, rfl⟩ := List.mem_map.1 hk
    exact List.mem_range.2 (Nat.lt_succ_of_le (rebuildQueue_band_le range he))
  have := ((rebuildQueue_nodup (g := g) (m := m) nodup).subperm within).length_le
  rwa [List.length_map, List.length_range] at this

end

/-- Settles O37: a rebuild sorts the entries that stay and those that join, of different bands. -/
theorem queueRebuild : Obligations.QueueRebuild := by
  intro g m queue nodup range new
  refine ⟨rebuildQueue_precedes nodup, rebuildQueue_nodup nodup, rebuildQueue_length nodup range,
    fun k hk => band_mem_rebuildQueue hk, fun e he => ⟨rebuildQueue_band_le range he, rebuildQueue_rankedWear he,
      fun h => rebuildQueue_rest_new he h, fun old hold hb hw => ?_⟩⟩
  rw [rebuildQueue_rest nodup he hold hb hw]
  refine ⟨?_, fun n hn => ?_⟩
  · rintro (h | h) <;> rw [h] <;> rfl
  · rw [hn]
    rfl

end Sys2Proof.Machine

/-!
What keeps the laws of the conditioner and of its queue (O54): the conditioner's own work, its faults, the rebuild of the
queue, requests, and all that leaves its record and the settings alone.
-/

namespace Sys2Proof.Machine
open Sys2Proof

/-! ### The two laws, and what keeps them -/

/-- What is present only in one state is present exactly there (R100). -/
def Conditioner.sound (c : Conditioner) : Prop :=
  (c.liftPurpose.isSome ↔ c.state = .lifting) ∧ (c.sweepDir.isSome ↔ c.state = .sweeping) ∧
    (c.faultKind.isSome ↔ c.state = .fault)

theorem Conditioner.lawful_iff (limit : Nat) (c : Conditioner) : c.lawful limit ↔ c.sound ∧ c.dfCommand ≤ limit := by
  unfold Conditioner.lawful Conditioner.sound
  simp only [and_assoc]

/-- What the queue's law needs of the settings (10.4): cond stop below cond start, and a dwell limit that is a rest. -/
def Settings.queueFit (g : Settings) : Prop :=
  g.map.condStop < g.map.condStart ∧ 1 ≤ g.cond.dwellLimit ∧ g.cond.dwellLimit ≤ 64

theorem Settings.consistent_condStop {g : Settings} (h : g.consistent = true) : g.map.condStop < g.map.condStart := by
  simp only [Settings.consistent, MapSettings.ordered, Bool.and_eq_true, decide_eq_true_eq] at h
  obtain ⟨⟨⟨⟨⟨⟨⟨stop, -⟩, -⟩, -⟩, -⟩, -⟩, -⟩, -⟩ := h
  exact stop

theorem Item.inRange_dwellLimit {v : Nat} : Item.inRange v .dwellLimit = true ↔ 1 ≤ v ∧ v ≤ 64 := by
  simp [Item.inRange, between]

theorem Settings.lawful.queueFit {g : Settings} (h : g.lawful) : g.queueFit :=
  ⟨Settings.consistent_condStop h.2, Item.inRange_dwellLimit.1 (h.1 .dwellLimit)⟩

/-- The queue's law, in settings that it fits. -/
def State.queueKept (s : State) : Prop := s.settings.queueFit ∧ s.cond.queueLawful s.settings.map.condStop

/-- From `s` to `t` both laws are kept. -/
structure State.condKept (s t : State) : Prop where
  record : s.cond.lawful s.settings.cond.downforceLimit → t.cond.lawful t.settings.cond.downforceLimit
  queue : s.queueKept → t.queueKept

theorem State.condKept.refl (s : State) : s.condKept s := ⟨id, id⟩

theorem State.condKept.trans {s t u : State} (h : s.condKept t) (k : t.condKept u) : s.condKept u :=
  ⟨k.record ∘ h.record, k.queue ∘ h.queue⟩

/-- What leaves the record and the settings alone. -/
structure State.condSame (s t : State) : Prop where
  cond : t.cond = s.cond
  settings : t.settings = s.settings

theorem State.condSame.refl (s : State) : s.condSame s := ⟨rfl, rfl⟩

theorem State.condSame.trans {s t u : State} (h : s.condSame t) (k : t.condSame u) : s.condSame u :=
  ⟨k.cond.trans h.cond, k.settings.trans h.settings⟩

theorem State.condSame.keeps {s t : State} (h : s.condSame t) : s.condKept t := by
  obtain ⟨cond, settings⟩ := h
  refine ⟨fun hs => ?_, fun hs => ?_⟩
  · rwa [cond, settings]
  · rwa [State.queueKept, cond, settings]

theorem State.condSame_onRise {f : State → State} (b a : Bool) {s : State} (h : s.condSame (f s)) :
    s.condSame (s.onRise b a f) := by
  unfold State.onRise
  split
  · exact h
  · exact .refl s

/-! ### The conditioner's own work -/

/-- From `s` to `t` the conditioner goes about its work: its mode, its queue and the settings stay, its downforce command is
not raised, and out of FAULT its record stays sound and out of FAULT. -/
structure State.condWorks (s t : State) : Prop where
  settings : t.settings = s.settings
  mode : t.cond.mode = s.cond.mode
  queue : t.cond.queue = s.cond.queue
  command : t.cond.dfCommand ≤ s.cond.dfCommand
  sound : s.cond.sound → s.cond.state ≠ .fault → t.cond.sound ∧ t.cond.state ≠ .fault

theorem State.condWorks.refl (s : State) : s.condWorks s := ⟨rfl, rfl, rfl, Nat.le_refl _, fun h k => ⟨h, k⟩⟩

theorem State.condWorks.trans {s t u : State} (h : s.condWorks t) (k : t.condWorks u) : s.condWorks u where
  settings := k.settings.trans h.settings
  mode := k.mode.trans h.mode
  queue := k.queue.trans h.queue
  command := k.command.trans h.command
  sound hs hf := let ⟨ht, hft⟩ := h.sound hs hf; k.sound ht hft

theorem State.condSame.works {s t : State} (h : s.condSame t) : s.condWorks t := by
  obtain ⟨cond, settings⟩ := h
  exact ⟨settings, congrArg _ cond, congrArg _ cond, (congrArg _ cond).le, fun hs hf => cond ▸ ⟨hs, hf⟩⟩

/-- Mode, queue and settings as they were keep the queue's law. -/
theorem State.queueKept_of_same {s t : State} (settings : t.settings = s.settings) (mode : t.cond.mode = s.cond.mode)
    (queue : t.cond.queue = s.cond.queue) (h : s.queueKept) : t.queueKept := by
  obtain ⟨fit, order, nodup, entries, off⟩ := h
  refine ⟨settings ▸ fit, queue ▸ order, queue ▸ nodup, ?_, fun hm => queue.trans (off (mode.symm.trans hm))⟩
  rw [queue, settings]
  exact entries

/-- Work keeps the laws, as FAULT is left by none. -/
theorem State.condWorks.keeps {s t : State} (h : s.condWorks t) (fault : s.cond.state = .fault → t.cond = s.cond) :
    s.condKept t := by
  refine ⟨fun hs => ?_, State.queueKept_of_same h.settings h.mode h.queue⟩
  by_cases hf : s.cond.state = .fault
  · rwa [fault hf, h.settings]
  · obtain ⟨sound, command⟩ := (Conditioner.lawful_iff _ _).1 hs
    rw [h.settings]
    exact (Conditioner.lawful_iff _ _).2 ⟨(h.sound sound hf).1, h.command.trans command⟩

theorem State.condWorks.keeps_of {s t : State} (h : s.condWorks t) (hf : s.cond.state ≠ .fault) : s.condKept t :=
  h.keeps fun h => absurd h hf

/-- A state is entered with what is present in it alone. -/
theorem State.condWorks_modCond {f : Conditioner → Conditioner} {s : State} (st : CondState) (hst : st ≠ .fault)
    (state : (f s.cond).state = st) (lift : (f s.cond).liftPurpose.isSome ↔ st = .lifting)
    (sweep : (f s.cond).sweepDir.isSome ↔ st = .sweeping) (fault : (f s.cond).faultKind = s.cond.faultKind)
    (mode : (f s.cond).mode = s.cond.mode) (queue : (f s.cond).queue = s.cond.queue)
    (command : (f s.cond).dfCommand ≤ s.cond.dfCommand) : s.condWorks (s.modCond f) := by
  refine ⟨rfl, mode, queue, command, fun hs hf => ⟨⟨?_, ?_, ?_⟩, ?_⟩⟩
  · exact lift.trans (by rw [← state]; rfl)
  · exact sweep.trans (by rw [← state]; rfl)
  · show (f s.cond).faultKind.isSome ↔ (f s.cond).state = .fault
    rw [fault, state, hs.2.2]
    exact iff_of_false hf hst
  · exact fun h => hst (state.symm.trans h)

theorem State.condWorks_condEnter {st : CondState} (hst : st ∉ [CondState.lifting, .sweeping, .fault]) (s : State) :
    s.condWorks (s.condEnter st) := by
  simp only [List.mem_cons, List.not_mem_nil, or_false, not_or] at hst
  obtain ⟨lift, sweep, fault⟩ := hst
  exact State.condWorks_modCond st fault rfl (iff_of_false nofun lift) (iff_of_false nofun sweep) rfl rfl rfl (Nat.le_refl _)

theorem State.condWorks_startLift (p : LiftPurpose) (s : State) : s.condWorks (s.startLift p) :=
  State.condWorks_modCond .lifting nofun rfl (iff_of_true rfl rfl) (iff_of_false nofun nofun) rfl rfl rfl (Nat.le_refl _)

theorem State.condWorks_beginHoming (s : State) : s.condWorks s.beginHoming :=
  State.condWorks_modCond .homing nofun rfl (iff_of_false nofun nofun) (iff_of_false nofun nofun) rfl rfl rfl (Nat.le_refl _)

/-- An update of the record that bears on none of its laws. -/
theorem State.condWorks_aside {f : Conditioner → Conditioner} {s : State} (mode : (f s.cond).mode = s.cond.mode)
    (queue : (f s.cond).queue = s.cond.queue) (command : (f s.cond).dfCommand ≤ s.cond.dfCommand)
    (sound : (f s.cond).sound ↔ s.cond.sound) (state : (f s.cond).state = s.cond.state) : s.condWorks (s.modCond f) :=
  ⟨rfl, mode, queue, command, fun hs hf => ⟨sound.2 hs, fun h => hf (state.symm.trans h)⟩⟩

theorem State.condWorks_setTarget (x : Option CondTarget) (s : State) : s.condWorks (s.setTarget x) :=
  State.condWorks_aside rfl rfl (Nat.le_refl _) Iff.rfl rfl

theorem State.condWorks_startSettle (s : State) : s.condWorks s.startSettle := by
  unfold State.startSettle
  (repeat' split)
  · exact State.condWorks_aside rfl rfl (Nat.le_refl _) Iff.rfl rfl
  · exact .refl s
  · exact .refl s

theorem State.condWorks_startMove {st : CondState} (hst : st ∉ [CondState.lifting, .sweeping, .fault]) (s : State) :
    s.condWorks (s.startMove st) :=
  (s.condWorks_condEnter hst).trans (State.condWorks_startSettle _)

theorem State.condWorks_startStroke (d : SweepDir) (s : State) : s.condWorks (s.startStroke d) :=
  (State.condWorks_modCond (f := fun c => { c.enter .sweeping with sweepDir := some d }) .sweeping nofun rfl
    (iff_of_false nofun nofun) (iff_of_true rfl rfl) rfl rfl rfl (Nat.le_refl _)).trans (State.condWorks_startSettle _)

/-! ### Dealing with the arbiter, selections and modes -/

theorem State.condSame_condGiveUp (s : State) : s.condSame s.condGiveUp := ⟨by simp, by simp⟩

theorem State.condSame_condClaim (s : State) : s.condSame (s.dropGrant.claimHub .cond).2 := ⟨by simp, by simp⟩

theorem State.condSame_releaseHub (m : Arm) (s : State) : s.condSame (s.releaseHub m).2 := ⟨by simp, by simp⟩

theorem State.condWorks_beginWork (s : State) : s.condWorks s.beginWork := by
  unfold State.beginWork
  split
  · exact s.condWorks_condEnter (by decide)
  · exact s.condWorks_startMove (by decide)

theorem State.condWorks_dealFor (x : CondTarget) (s : State) : s.condWorks (s.dealFor x) := by
  have claim := (s.condWorks_setTarget (some x)).trans (State.condSame_condClaim _).works
  unfold State.dealFor
  simp only
  (repeat' split)
  · exact claim.trans (State.condWorks_beginWork _)
  · exact claim.trans (State.condWorks_condEnter (by decide) _)
  · exact ((s.condWorks_setTarget (some x)).trans (State.condSame_condGiveUp _).works).trans (State.condWorks_beginWork _)

theorem State.condWorks_returnToPark (s : State) : s.condWorks s.returnToPark :=
  ((s.condWorks_setTarget _).trans (State.condSame_condGiveUp _).works).trans (State.condWorks_startMove (by decide) _)

theorem State.condWorks_goIdle (s : State) : s.condWorks s.goIdle := by
  unfold State.goIdle
  split
  · exact .refl s
  · exact s.condWorks_returnToPark

theorem State.condWorks_select (s : State) : s.condWorks s.select := by
  unfold State.select
  (repeat' split)
  · exact s.condWorks_goIdle
  · exact s.condWorks_dealFor _
  · exact ((s.condWorks_setTarget _).trans (State.condSame_condGiveUp _).works).trans
      (State.condWorks_condEnter (by decide) _)
  · exact s.condWorks_goIdle

theorem State.condWorks_sweepStart (s : State) : s.condWorks s.sweepStart := by
  unfold State.sweepStart
  split
  · exact s.condWorks_goIdle
  · exact s.condWorks_dealFor _

theorem State.condWorks_actOnMode (s : State) : s.condWorks s.actOnMode := by
  unfold State.actOnMode
  split
  · exact .refl s
  · exact s.condWorks_select
  · exact s.condWorks_sweepStart

theorem State.condWorks_enterParked (s : State) : s.condWorks s.enterParked := by
  have dropped : s.condWorks s.dropTarget := by
    unfold State.dropTarget
    split
    · exact (s.condWorks_setTarget none).trans (State.condSame_condGiveUp _).works
    · exact .refl s
  exact (dropped.trans (State.condWorks_condEnter (by decide) _)).trans (State.condWorks_actOnMode _)

theorem State.condWorks_modeActs (s : State) : s.condWorks s.modeActs := by
  unfold State.modeActs
  split
  · exact s.condWorks_returnToPark
  · exact s.condWorks_select
  · exact s.condWorks_sweepStart

/-- Within a lift only the purpose changes. -/
theorem State.condWorks_purpose {f : Conditioner → Conditioner} {s : State} (hs : s.cond.state = .lifting)
    (state : (f s.cond).state = s.cond.state) (lift : (f s.cond).liftPurpose.isSome)
    (sweep : (f s.cond).sweepDir = s.cond.sweepDir) (fault : (f s.cond).faultKind = s.cond.faultKind)
    (mode : (f s.cond).mode = s.cond.mode) (queue : (f s.cond).queue = s.cond.queue)
    (command : (f s.cond).dfCommand ≤ s.cond.dfCommand) : s.condWorks (s.modCond f) := by
  refine ⟨rfl, mode, queue, command, fun h hf => ⟨⟨iff_of_true lift (state.trans hs), ?_, ?_⟩, fun h => hf (state.symm.trans h)⟩⟩
  · show (f s.cond).sweepDir.isSome ↔ (f s.cond).state = .sweeping
    rw [sweep, state]
    exact h.2.1
  · show (f s.cond).faultKind.isSome ↔ (f s.cond).state = .fault
    rw [fault, state]
    exact h.2.2

theorem State.condWorks_modeChanged (s : State) : s.condWorks s.modeChanged := by
  unfold State.modeChanged
  split
  · split
    · exact s.condWorks_beginHoming
    · exact .refl s
  · exact s.condWorks_actOnMode
  · exact s.condWorks_modeActs
  · exact s.condWorks_modeActs
  · exact s.condWorks_modeActs
  · exact s.condWorks_modeActs
  · exact s.condWorks_startLift _
  · exact s.condWorks_startLift _
  · exact s.condWorks_startLift _
  · next hs =>
    split
    · exact .refl s
    · exact State.condWorks_purpose hs rfl rfl rfl rfl rfl rfl (Nat.le_refl _)
  · exact .refl s
  · exact .refl s
  · exact .refl s

theorem State.condWorks_evaluateSpent (s : State) : s.condWorks s.evaluateSpent := by
  have judged : s.condWorks (s.modCond fun c => { c with spent := decide (s.settings.cond.diskLifeLimit ≤ s.cond.diskLife) }) :=
    State.condWorks_aside rfl rfl (Nat.le_refl _) Iff.rfl rfl
  exact judged.trans (State.condSame_onRise _ _ ⟨rfl, rfl⟩).works

theorem State.condKept_evaluateSpent (s : State) : s.condKept s.evaluateSpent := by
  refine ⟨fun h => ?_, State.queueKept_of_same s.condWorks_evaluateSpent.settings s.condWorks_evaluateSpent.mode
    s.condWorks_evaluateSpent.queue⟩
  unfold State.evaluateSpent State.onRise
  simp only
  split <;> exact h

theorem State.condKept_actIfParked (s : State) : s.condKept s.actIfParked := by
  unfold State.actIfParked
  split
  · next h => exact s.condWorks_actOnMode.keeps_of fun hf => nomatch h.1.symm.trans hf
  · exact .refl s

theorem State.condWorks_reclaim {go other : State → State} (s : State) (hgo : ∀ u, State.condWorks u (go u))
    (hother : ∀ u, State.condWorks u (other u)) : s.condWorks (s.reclaim go other) := by
  unfold State.reclaim
  simp only
  split
  · exact s.condSame_condClaim.works.trans (hgo _)
  · exact s.condSame_condClaim.works.trans (hother _)

/-! ### Faults -/

theorem State.condKept_condFault (k : FaultKind) (s : State) : s.condKept (s.condFault k) := by
  refine ⟨fun _ => ?_, State.queueKept_of_same (by simp) rfl rfl⟩
  rw [Conditioner.lawful_iff]
  exact ⟨⟨iff_of_false nofun nofun, iff_of_false nofun nofun, iff_of_true rfl rfl⟩, Nat.zero_le _⟩

theorem State.condKept_followingCheck (s : State) : s.condKept s.followingCheck := by
  unfold State.followingCheck
  split
  · exact s.condKept_condFault _
  · exact .refl s

/-- An update of the record that bears on neither law. -/
theorem State.condKept_aside {f : Conditioner → Conditioner} {s : State} (mode : (f s.cond).mode = s.cond.mode)
    (queue : (f s.cond).queue = s.cond.queue) (command : (f s.cond).dfCommand = s.cond.dfCommand)
    (sound : (f s.cond).sound ↔ s.cond.sound) : s.condKept (s.modCond f) := by
  refine ⟨fun h => ?_, State.queueKept_of_same rfl mode queue⟩
  rw [Conditioner.lawful_iff] at h ⊢
  exact ⟨sound.2 h.1, command.trans_le h.2⟩

theorem State.condKept_condTimeouts (s : State) : s.condKept s.settleTimeout ∧ s.condKept s.liftTimeout ∧
    s.condKept s.homingTimeout ∧ s.condKept s.downforceFault := by
  unfold State.settleTimeout State.liftTimeout State.homingTimeout State.downforceFault
  refine ⟨?_, ?_, ?_, ?_⟩ <;> split
  · exact s.condKept_condFault _
  · exact .refl s
  · exact s.condKept_condFault _
  · exact .refl s
  · exact s.condKept_condFault _
  · exact .refl s
  · exact (State.condKept_aside rfl rfl rfl Iff.rfl).trans (State.condKept_condFault _ _)
  · exact .refl s

/-! ### The queue -/

/-- A rest that a rebuild lowers stays within 1 to 64. -/
theorem lowerRest_range {rest : Option Nat} (h : ∀ n, rest = some n → 1 ≤ n ∧ n ≤ 64) {n : Nat}
    (hn : lowerRest rest = some n) : 1 ≤ n ∧ n ≤ 64 := by
  cases rest with
  | none => cases hn
  | some m =>
    have := h m rfl
    simp only [lowerRest] at hn
    split at hn
    · cases hn
    · cases hn
      omega

theorem State.condKept_rebuild (s : State) : s.condKept s.rebuild := by
  unfold State.rebuild
  split
  · exact .refl s
  · next hm =>
    refine ⟨id, fun ⟨fit, order, nodup, entries, _⟩ => ⟨fit, ?_⟩⟩
    have range : ∀ e ∈ s.cond.queue, e.band ≤ 19 := fun e he => (entries e he).1
    refine ⟨rebuildQueue_precedes nodup, rebuildQueue_nodup nodup, fun e he => ⟨rebuildQueue_band_le range he, ?_⟩,
      fun h => absurd h hm⟩
    rcases mem_rebuildQueue.1 he with ⟨old, hold, stays, rfl⟩ | ⟨k, hk, rfl⟩
    · exact ⟨stays, fun n => lowerRest_range (entries old hold).2.2⟩
    · exact ⟨fit.1.le.trans (mem_joiningBands.1 hk).2.1, fun n hn => nomatch hn⟩

/-- A rest given to an entry moves no entry. -/
theorem restBand_key (k n : Nat) (queue : List QueueEntry) :
    (restBand k n queue).map (fun e => (e.band, e.rankedWear)) = queue.map fun e => (e.band, e.rankedWear) := by
  rw [restBand, List.map_map]
  refine List.map_congr_left fun e _ => ?_
  simp only [Function.comp_apply]
  split <;> rfl

theorem mem_restBand {k n : Nat} {queue : List QueueEntry} {e : QueueEntry} (h : e ∈ restBand k n queue) :
    ∃ old ∈ queue, e = old ∨ e = { old with rest := some n } := by
  obtain ⟨old, hold, rfl⟩ := List.mem_map.1 h
  refine ⟨old, hold, ?_⟩
  split
  · exact .inr rfl
  · exact .inl rfl

theorem Conditioner.queueLawful_restBand {stop k n : Nat} {c : Conditioner} (h : c.queueLawful stop) (hn : 1 ≤ n ∧ n ≤ 64) :
    ({ c with queue := restBand k n c.queue } : Conditioner).queueLawful stop := by
  obtain ⟨order, nodup, entries, off⟩ := h
  have key := restBand_key k n c.queue
  refine ⟨?_, ?_, fun e he => ?_, fun hm => ?_⟩
  · have keyed : ∀ l : List QueueEntry, l.Pairwise QueueEntry.precedes ↔
        (l.map fun e => (e.band, e.rankedWear)).Pairwise fun x y => y.2 < x.2 ∨ (x.2 = y.2 ∧ x.1 < y.1) := fun l => by
      rw [List.pairwise_map]
      rfl
    rw [keyed] at order ⊢
    rwa [key]
  · have bands := congrArg (List.map Prod.fst) key
    rw [List.map_map, List.map_map] at bands
    exact bands.symm ▸ nodup
  · obtain ⟨old, hold, rfl | rfl⟩ := mem_restBand he
    · exact entries e hold
    · obtain ⟨band, ranked, -⟩ := entries old hold
      exact ⟨band, ranked, fun m hm => Option.some.inj hm ▸ hn⟩
  · show restBand k n c.queue = []
    rw [off hm]
    rfl

theorem State.condKept_restBand (k : Nat) (s : State) :
    s.condKept (s.modCond fun c => { c with queue := restBand k s.settings.cond.dwellLimit c.queue }) :=
  ⟨id, fun ⟨fit, lawful⟩ => ⟨fit, Conditioner.queueLawful_restBand lawful fit.2⟩⟩

theorem State.condKept_dwellTest {s : State} (hf : s.cond.state ≠ .fault) : s.condKept s.dwellTest := by
  have counted : s.condKept (s.modCond fun c => { c with dwell := c.dwell + 1 }) := State.condKept_aside rfl rfl rfl Iff.rfl
  unfold State.dwellTest
  simp only
  (repeat' split)
  · exact (s.condWorks_startLift _).keeps_of hf
  · next k _ _ _ => exact (counted.trans (State.condKept_restBand k _)).trans ((State.condWorks_startLift _ _).keeps_of hf)
  · exact counted
  · exact (s.condWorks_startLift _).keeps_of hf

theorem State.condKept_condMapUpdated (u : MapUpdated) (s : State) : s.condKept (s.condMapUpdated u) := by
  have counted : ∀ v : State, v.condKept (v.countDiskLife u.diskCut) := fun v => by
    unfold State.countDiskLife
    split
    · exact (State.condKept_aside rfl rfl rfl Iff.rfl).trans (State.condKept_evaluateSpent _)
    · exact .refl v
  refine (s.condKept_rebuild.trans (counted _)).trans ?_
  unfold State.condMapUpdated
  generalize s.rebuild.countDiskLife u.diskCut = v
  have free : ∀ {st : CondState}, v.cond.state = st → st ≠ .fault → v.cond.state ≠ .fault := fun h hst => h ▸ hst
  have selects : v.cond.state ≠ .fault → v.condKept (if v.cond.mode = .map then v.select else v) := fun hf => by
    split
    · exact v.condWorks_select.keeps_of hf
    · exact .refl v
  unfold State.updatedWork
  split
  · next h => exact State.condKept_dwellTest (free h nofun)
  · next h => exact selects (free h nofun)
  · next h => exact selects (free h nofun)
  · next h => exact selects (free h nofun)
  · next h =>
    split
    · exact (v.condWorks_startLift _).keeps_of (free h nofun)
    · exact .refl v
  · exact .refl v

theorem State.condKept_emptyQueue (s : State) : s.condKept s.emptyQueue :=
  ⟨id, fun ⟨fit, _⟩ => ⟨fit, .nil, .nil, nofun, fun _ => rfl⟩⟩

/-! ### Events that the conditioner takes -/

theorem State.condKept_condGrant (s : State) : s.condKept s.condGrant := by
  have released : s.condKept (s.releaseHub .cond).2 := (s.condSame_releaseHub _).keeps
  unfold State.condGrant
  split
  · next h => exact s.condWorks_beginWork.keeps_of fun hf => nomatch h.symm.trans hf
  · exact .refl s
  · exact .refl s
  · split
    · exact .refl s
    · exact released
  · exact released

theorem State.condKept_condGrantLost (s : State) : s.condKept s.condGrantLost := by
  have free : ∀ {st : CondState}, s.cond.state = st → st ≠ .fault → s.cond.state ≠ .fault := fun h hst => h ▸ hst
  unfold State.condGrantLost
  split
  · next h =>
    split
    · exact (s.condWorks_reclaim .refl (State.condWorks_condEnter (by decide))).keeps_of (free h nofun)
    · exact .refl s
  · next h =>
    split
    · exact (s.condWorks_reclaim .refl (State.condWorks_startLift _)).keeps_of (free h nofun)
    · exact .refl s
  · next h =>
    split
    · exact (s.condWorks_startStroke _).keeps_of (free h nofun)
    · exact .refl s
  · exact .refl s

theorem State.condWorks_condTripHalt (s : State) : s.condWorks s.condTripHalt := by
  have lifts : s.condWorks ((s.modCond fun c => { c with dfCommand := 0, clearNoted := false }).startLift .halt) :=
    (State.condWorks_aside rfl rfl (Nat.zero_le _) Iff.rfl rfl).trans (State.condWorks_startLift _ _)
  unfold State.condTripHalt
  split
  · exact lifts
  · exact lifts
  · exact lifts
  · next h => exact State.condWorks_purpose h rfl rfl rfl rfl rfl rfl (Nat.zero_le _)
  · exact s.condWorks_condEnter (by decide)
  · exact s.condWorks_condEnter (by decide)
  · exact s.condWorks_condEnter (by decide)
  · exact s.condWorks_condEnter (by decide)
  · exact s.condWorks_condEnter (by decide)
  · exact s.condWorks_condEnter (by decide)
  · exact .refl s
  · exact .refl s
  · exact .refl s

theorem State.condWorks_condTripClear (s : State) : s.condWorks s.condTripClear := by
  unfold State.condTripClear
  (repeat' split)
  · exact s.condWorks_returnToPark
  · exact .refl s
  · exact s.condWorks_beginHoming
  · exact State.condWorks_aside rfl rfl (Nat.le_refl _) Iff.rfl rfl
  · exact .refl s
  · exact .refl s

theorem State.condSame_hubEntry (m : Arm) (s : State) : s.condSame (s.hubEntry m) :=
  ⟨(s.hubEntry_kept m).1, (s.hubEntry_kept m).2⟩

theorem State.condSame_hubExit (m : Arm) (s : State) : s.condSame (s.hubExit m) :=
  ⟨(s.hubExit_kept m).1, (s.hubExit_kept m).2⟩

theorem State.condSame_dryUpdate (l : Lane) (u : MapUpdated) (s : State) : s.condSame (s.dryUpdate l u) := by
  have counted : s.condSame (s.modMatrix fun m =>
      { m with dryCount := m.dryCount.set l (dryCountAfter (u.dry.get l) (s.matrix.dryCount.get l)) }) := ⟨rfl, rfl⟩
  exact counted.trans (State.condSame_onRise _ _ ⟨State.addCause_cond _ _ _, State.addCause_settings _ _ _⟩)

theorem State.condSame_applyAtIndex (l : Lane) (s : State) : s.condSame (s.applyAtIndex l) := by
  unfold State.applyAtIndex
  split
  · exact ⟨by simp, by simp⟩
  · exact .refl s

theorem State.condKept_take (e : Event) (s : State) : s.condKept (s.take e) := by
  cases e with
  | hubEntry m => exact (s.condSame_hubEntry m).keeps
  | hubExit m => exact (s.condSame_hubExit m).keeps
  | condMapUpdated u => exact s.condKept_condMapUpdated u
  | dryCountUpdate u => exact ((s.condSame_dryUpdate .a u).trans (State.condSame_dryUpdate .b u _)).keeps
  | indexProfileApply => exact ((s.condSame_applyAtIndex .a).trans (State.condSame_applyAtIndex .b _)).keeps
  | condTripHalt => exact s.condWorks_condTripHalt.keeps fun h => by simp [State.condTripHalt, h]
  | condTripClear => exact s.condWorks_condTripClear.keeps fun h => by simp [State.condTripClear, h]
  | mapReplaced => exact s.condKept_emptyQueue
  | condGrant => exact s.condKept_condGrant
  | condGrantLost => exact s.condKept_condGrantLost
  | gainRecompute | hardHoldVent | softHoldCap | hardHoldBarEmpty | hardHoldWithdraw | tripBarEmpty | slurryStop =>
    exact State.condSame.keeps ⟨by simp [State.take], by simp [State.take]⟩

theorem condKept_eventRow {e : Event} {s t : State} (h : exec e.command s = .next t) : s.condKept t := by
  rcases exec_event_cases h with rfl | ⟨x, -, rfl⟩
  · exact .refl t
  · have erased : s.condSame (s.modEvents (·.erase x)) := ⟨rfl, rfl⟩
    exact erased.keeps.trans (State.condKept_take x _)

end Sys2Proof.Machine

namespace Sys2Proof.Machine
open Sys2Proof

/-! ### The conditioner's motion and its disk -/

theorem State.condKept_startSettle (s : State) : s.condKept s.startSettle := by
  unfold State.startSettle
  (repeat' split)
  · exact State.condKept_aside rfl rfl rfl Iff.rfl
  · exact .refl s
  · exact .refl s

theorem State.condKept_stepArm (b : Bool) (s : State) : s.condKept (s.stepArm b) :=
  State.condKept_aside rfl rfl rfl Iff.rfl

theorem State.condKept_condStep (s : State) : s.condKept s.condStep := by
  unfold State.condStep
  (repeat' split)
  · exact .refl s
  · exact .refl s
  · exact ((s.condKept_stepArm _).trans (State.condKept_startSettle _)).trans (State.condKept_followingCheck _)

theorem State.condKept_homingStep (b : Bool) (s : State) : s.condKept (s.homingStep b) := by
  unfold State.homingStep
  split
  · exact s.condKept_stepArm _
  · exact .refl s

theorem State.condWorks_strokeEnd (d : SweepDir) (s : State) : s.condWorks (s.strokeEnd d) := by
  unfold State.strokeEnd
  (repeat' split)
  · exact s.condWorks_startStroke _
  · exact s.condWorks_reclaim (State.condWorks_startStroke _) (State.condWorks_startLift _)
  · exact s.condWorks_startStroke _

theorem State.condKept_moveArrival (s : State) : s.condKept s.moveArrival := by
  have free : ∀ {st : CondState}, s.cond.state = st → st ≠ .fault → s.cond.state ≠ .fault := fun h hst => h ▸ hst
  unfold State.moveArrival
  (repeat' split)
  · next h => exact (s.condWorks_condEnter (by decide)).keeps_of (free h nofun)
  · next h => exact s.condWorks_enterParked.keeps_of (free h nofun)
  · next h _ => exact (s.condWorks_strokeEnd _).keeps_of (free h nofun)
  · exact .refl s
  · exact .refl s

theorem State.condKept_condHomeEdge (s : State) : s.condKept s.condHomeEdge := by
  have loaded : s.condKept (s.modCond fun c => { c with stepPos := BitVec.ofNat 32 s.settings.cond.parkRadius }) :=
    State.condKept_aside rfl rfl rfl Iff.rfl
  unfold State.condHomeEdge
  simp only
  split
  · next h => exact loaded.trans ((State.condWorks_enterParked _).keeps_of fun hf => nomatch h.symm.trans hf)
  · exact loaded.trans (State.condKept_startSettle _)

theorem State.condKept_loweringComplete (s : State) : s.condKept s.loweringComplete := by
  have dwells : s.condWorks (s.modCond fun c => { c.enter .dwelling with dwell := 0 }) :=
    State.condWorks_modCond .dwelling nofun rfl (iff_of_false nofun nofun) (iff_of_false nofun nofun) rfl rfl rfl
      (Nat.le_refl _)
  unfold State.loweringComplete
  split
  · next h =>
    have free : s.cond.state ≠ .fault := fun hf => nomatch h.1.symm.trans hf
    split
    · exact dwells.keeps_of free
    · exact (s.condWorks_startStroke _).keeps_of free
    · exact (s.condWorks_startStroke _).keeps_of free
    · exact .refl s
  · exact .refl s

theorem State.condWorks_afterLift (p : LiftPurpose) (s : State) : s.condWorks (s.afterLift p) := by
  have halts : s.condWorks (s.modCond fun c => { c.enter .halted with clearNoted := false }) :=
    State.condWorks_modCond .halted nofun rfl (iff_of_false nofun nofun) (iff_of_false nofun nofun) rfl rfl rfl
      (Nat.le_refl _)
  unfold State.afterLift
  cases p with
  | select => exact s.condWorks_select
  | sweep => exact s.condWorks_sweepStart
  | waitHub => exact s.condWorks_dealFor _
  | returnToPark => exact s.condWorks_returnToPark
  | halt =>
    simp only
    split
    · exact halts.trans (State.condWorks_returnToPark _)
    · exact halts

theorem State.condKept_liftComplete (s : State) : s.condKept s.liftComplete := by
  unfold State.liftComplete
  (repeat' split)
  · next h _ _ => exact (s.condWorks_afterLift _).keeps_of fun hf => nomatch h.symm.trans hf
  · exact .refl s
  · exact .refl s

/-- The drive target lies within the downforce limit (R111). -/
theorem State.downforceDrive_le (s : State) : s.downforceDrive ≤ s.settings.cond.downforceLimit := by
  unfold State.downforceDrive
  split
  · exact Nat.min_le_right _ _
  · exact Nat.min_le_right _ _
  · exact Nat.min_le_right _ _
  · exact Nat.zero_le _

theorem stepToward_le {limit drive command : Nat} (hd : drive ≤ limit) (hc : command ≤ limit) :
    stepToward drive command ≤ limit := by
  unfold stepToward
  (repeat' split) <;> omega

/-- The update of the downforce channel steps the command and times a lift (R111, R114). -/
theorem State.condKept_updateDownforce (adc : BitVec 12) (s : State) : s.condKept (s.updateDownforce adc) := by
  have timed : ∀ c : Conditioner, (c.timeLift.sound ↔ c.sound) ∧ c.timeLift.dfCommand = c.dfCommand ∧
      c.timeLift.mode = c.mode ∧ c.timeLift.queue = c.queue := fun c => by
    unfold Conditioner.timeLift
    split <;> exact ⟨Iff.rfl, rfl, rfl, rfl⟩
  unfold State.updateDownforce
  generalize hv : ({ s.cond with
    dfCommand := stepToward s.downforceDrive s.cond.dfCommand, dfReadback := readbackOf adc
    dfDevTimer := deviationTimer s.settings.press.tolerance s.settings.press.deviationTime (readbackOf adc)
      (stepToward s.downforceDrive s.cond.dfCommand) s.cond.dfDevTimer } : Conditioner) = c
  obtain ⟨sound, command, mode, queue⟩ := timed c
  have update : (s.modCond fun c =>
      Conditioner.timeLift { c with
        dfCommand := stepToward s.downforceDrive c.dfCommand, dfReadback := readbackOf adc
        dfDevTimer := deviationTimer s.settings.press.tolerance s.settings.press.deviationTime (readbackOf adc)
          (stepToward s.downforceDrive c.dfCommand) c.dfDevTimer }) = { s with cond := c.timeLift } := by
    rw [← hv]
    rfl
  simp only [update]
  refine ⟨fun h => ?_, State.queueKept_of_same rfl (by rw [mode, ← hv]) (by rw [queue, ← hv])⟩
  rw [Conditioner.lawful_iff] at h ⊢
  refine ⟨sound.2 (by rw [← hv]; exact h.1), ?_⟩
  rw [command, ← hv]
  exact stepToward_le s.downforceDrive_le h.2

theorem State.condKept_downforceUpdate (adc : BitVec 12) (b : Bool) (s : State) : s.condKept (s.downforceUpdate adc b) := by
  refine (s.condKept_updateDownforce adc).trans ?_
  unfold State.downforceUpdate
  simp only
  (repeat' split)
  · exact State.condKept_condFault _ _
  · exact State.condKept_loweringComplete _
  · exact State.condKept_liftComplete _
  · exact .refl _
  · exact .refl _

/-! ### The platen, the arms and what has no part in the conditioner -/

theorem State.condSame_modTracker (f : Tracker → Tracker) (s : State) : s.condSame (s.modTracker f) := ⟨rfl, rfl⟩

theorem State.condSame_modPress (f : Pressure → Pressure) (s : State) : s.condSame (s.modPress f) := ⟨rfl, rfl⟩

theorem State.condSame_modMatrix (f : Matrix → Matrix) (s : State) : s.condSame (s.modMatrix f) := ⟨rfl, rfl⟩

theorem State.condSame_modLinks (f : Links → Links) (s : State) : s.condSame (s.modLinks f) := ⟨rfl, rfl⟩

theorem State.condSame_addCause (l : Lane) (e : CauseEntry) (s : State) : s.condSame (s.addCause l e) :=
  ⟨by simp, by simp⟩

theorem State.condSame_indexEvent (k : IndexKind) (s : State) : s.condSame (s.indexEvent k) := by
  constructor <;> simp [State.indexEvent, State.measureSpeed] <;> split <;> simp

theorem State.condSame_indexEdge (n : Nat) (s : State) : s.condSame (s.indexEdge n) := by
  unfold State.indexEdge
  split
  · exact ⟨by simp [State.startIndex], by simp [State.startIndex]⟩
  · exact (s.condSame_modTracker _).trans (State.condSame_indexEvent _ _)

theorem State.condSame_platenCount (e : PlatenEdge) (s : State) : s.condSame (s.platenCount e) := by
  have disturbed : s.condSame s.disturb := ⟨by simp, by simp⟩
  unfold State.platenCount
  split
  · exact .refl s
  · unfold State.forwardCount State.sectorMark
    (repeat' split)
    · exact s.condSame_indexEvent _
    · exact ⟨by simp, by simp⟩
    · exact ⟨rfl, rfl⟩
  · unfold State.reverseCount State.reverseCrossing
    simp only
    (repeat' split)
    · exact s.condSame_indexEvent _
    · exact ⟨rfl, rfl⟩
    · exact ⟨by simp, by simp⟩
    · exact ⟨rfl, rfl⟩
  · exact disturbed

theorem State.condSame_enterStalled (s : State) : s.condSame s.enterStalled := by
  unfold State.enterStalled
  split
  · exact ⟨by simp, by simp⟩
  · exact ⟨by simp, by simp⟩
  · exact .refl s
  · exact .refl s

theorem State.condSame_stallExpiry (s : State) : s.condSame s.stallExpiry := by
  unfold State.stallExpiry
  split
  · exact s.condSame_enterStalled
  · exact .refl s

theorem State.condKept_armCount (m : Arm) (e : ArmEdge) (s : State) : s.condKept (s.armCount m e) := by
  have counted : ∀ f, s.condKept ((s.modArm m f).evaluateInside m) := fun f =>
    State.condSame.keeps ⟨by simp, by simp⟩
  unfold State.armCount
  simp only
  split
  · exact (counted _).trans (State.condKept_followingCheck _)
  · exact counted _

theorem State.condSame_cross (m : Arm) (s : State) : s.condSame (s.cross m) := by
  have put : ∀ f, s.condSame (s.modArm m f) := fun _ => ⟨rfl, rfl⟩
  unfold State.cross
  simp only
  (repeat' split)
  · exact put _
  · exact (put _).trans (State.condSame_hubEntry m _)
  · exact (put _).trans (State.condSame_hubExit m _)

theorem State.condKept_homeEdge (m : Arm) (s : State) : s.condKept (s.homeEdge m) := by
  have loaded : ∀ f, s.condSame ((s.modArm m f).evaluateInside m) := fun f => ⟨by simp, by simp⟩
  have crossed : ∀ f, s.condSame ((s.modArm m f).cross m) := fun f =>
    (s.condSame_modTracker _).trans (State.condSame_cross m _)
  unfold State.homeEdge
  simp only
  (repeat' split)
  · exact (loaded _).keeps
  · exact (crossed _).keeps.trans (State.condKept_condHomeEdge _)
  · exact (loaded _).keeps.trans (State.condKept_condHomeEdge _)

theorem State.condSame_silenceExpiry (l : Lane) (s : State) : s.condSame (s.silenceExpiry l) := by
  unfold State.silenceExpiry State.goSilent
  split
  · exact .refl s
  · exact (s.condSame_modLinks _).trans (State.condSame_onRise _ _ (State.condSame_addCause _ _ _))

theorem State.condSame_reportFault (l : Lane) (b : Bool) (s : State) : s.condSame (s.reportFault l b) :=
  State.condSame_onRise _ _ (State.condSame_addCause _ _ _)

theorem State.condSame_reportSupply (b : Bool) (s : State) : s.condSame (s.reportSupply b) :=
  (s.condSame_modPress _).trans (State.condSame_onRise _ _ ⟨by simp, by simp⟩)

theorem State.condSame_touchdownDone (l : Lane) (s : State) : s.condSame (s.touchdownDone l) := by
  unfold State.touchdownDone
  split
  · exact ⟨by simp, by simp⟩
  · exact .refl s

theorem State.condSame_releaseDone (l : Lane) (s : State) : s.condSame (s.releaseDone l) := by
  unfold State.releaseDone
  split
  · exact ⟨by simp, by simp⟩
  · exact .refl s

theorem State.condSame_pressureUpdate (adc : Lanes (Six (BitVec 12))) (supply : BitVec 12) (s : State) :
    s.condSame (s.pressureUpdate adc supply) := by
  have stepped : ∀ low, s.condSame ((s.updateLane .a low adc.a).updateLane .b low adc.b) := fun low => ⟨by simp, by simp⟩
  have completed := fun low => ((((stepped low).trans (State.condSame_touchdownDone .a _)).trans
    (State.condSame_touchdownDone .b _)).trans (State.condSame_releaseDone .a _)).trans (State.condSame_releaseDone .b _)
  have supplied : ∀ low (u : State), u.condSame (u.updateSupply (supplyOf supply) low) := fun low u =>
    (u.condSame_modPress _).trans (State.condSame_reportSupply _ _)
  exact (((completed _).trans (State.condSame_reportFault .a _ _)).trans (State.condSame_reportFault .b _ _)).trans
    (supplied _ _)

theorem State.condSame_supplyTimeExpiry (s : State) : s.condSame s.supplyTimeExpiry := by
  unfold State.supplyTimeExpiry
  split
  · exact .refl s
  · exact (s.condSame_modPress _).trans (State.condSame_reportSupply _ _)

theorem State.condSame_deviationExpiry (l : Lane) (c : Chan) (s : State) : s.condSame (s.deviationExpiry l c) := by
  unfold State.deviationExpiry
  split
  · exact .refl s
  · exact (s.condSame_modPress _).trans (State.condSame_reportFault _ _ _)

theorem State.condSame_stopTimeout (k : Line) (s : State) : s.condSame (s.stopTimeout k) := by
  unfold State.stopTimeout
  split
  · exact ⟨by simp, by simp⟩
  · exact .refl s

theorem State.condSame_flowPulse (k : Line) (s : State) : s.condSame (s.flowPulse k) := by
  unfold State.flowPulse
  simp only
  (repeat' split)
  · exact .refl s
  all_goals exact ⟨by simp, by simp⟩

theorem State.condSame_acceptLevel (i : InputIndex) (s : State) : s.condSame (s.acceptLevel i) := ⟨by simp, by simp⟩

theorem State.condSame_debounceExpiry (i : InputIndex) (s : State) : s.condSame (s.debounceExpiry i) := by
  unfold State.debounceExpiry
  split
  · exact .refl s
  · exact s.condSame_acceptLevel i

theorem State.condSame_pinChange (i : InputIndex) (b : Bool) (s : State) : s.condSame (s.pinChange i b) := by
  unfold State.pinChange
  simp only
  (repeat' split)
  · exact .refl s
  · exact (s.condSame_modMatrix _).trans (State.condSame_acceptLevel i _)
  · exact ⟨rfl, rfl⟩

/-- Of the timers only the conditioner's own bear on its record. -/
theorem State.condKept_tick (s : State) : s.condKept s.tick := by
  obtain ⟨cond, -, settings, -⟩ := s.tickedInputs_cond
  have timed : ∀ u : State, u.condKept u.condTimed := fun u =>
    State.condKept_aside (f := Conditioner.timed) rfl rfl rfl Iff.rfl
  refine (State.condSame.keeps ⟨cond, settings⟩).trans ?_
  rw [State.tick_eq]
  rcases s.tickedInputs.tickCond_cases with h | ⟨k, h⟩ <;> rw [h]
  · exact timed _
  · exact (timed _).trans (State.condKept_condFault k _)

/-! ### Settings (R180) -/

/-- Of the settings that the laws speak of, each is changed by its own item alone. -/
theorem Settings.put_downforceLimit {item : Item} (h : item ≠ .downforceLimit) (v : Nat) (g : Settings) :
    (g.put item v).cond.downforceLimit = g.cond.downforceLimit := by
  cases item <;> first | rfl | exact absurd rfl h

theorem Settings.put_dwellLimit {item : Item} (h : item ≠ .dwellLimit) (v : Nat) (g : Settings) :
    (g.put item v).cond.dwellLimit = g.cond.dwellLimit := by
  cases item <;> first | rfl | exact absurd rfl h

theorem Settings.put_condStop {item : Item} (h : item ≠ .condStop) (v : Nat) (g : Settings) :
    (g.put item v).map.condStop = g.map.condStop := by
  cases item <;> first | rfl | exact absurd rfl h

/-- A setting put as SET accepts it: in its range, consistent and quiet (R180). -/
structure State.accepts (s : State) (item : Item) (v : Nat) : Prop where
  range : item.inRange v = true
  consistent : (s.settings.put item v).consistent = true
  quiet : item.quiet s = true

theorem State.accepts_of_setRefusal {s : State} {item : Item} {v : Nat} (h : s.setRefusal item v = none) :
    s.accepts item v := by
  unfold State.setRefusal at h
  split at h
  · cases h
  · next hr =>
    split at h
    · cases h
    · next hq =>
      simp only [Bool.or_eq_true, Bool.not_eq_true', not_or, Bool.not_eq_false] at hr hq
      exact ⟨hr.1, hr.2, hq⟩

/-- Cond stop is moved in mode OFF alone, in which the queue is empty (R9). -/
theorem State.queueKept_put {s : State} {item : Item} {v : Nat} (ha : s.accepts item v) (h : s.queueKept) :
    (s.modSettings (Settings.put item v)).queueKept := by
  obtain ⟨fit, lawful⟩ := h
  refine ⟨⟨Settings.consistent_condStop ha.consistent, ?_⟩, ?_⟩
  · by_cases hd : item = .dwellLimit
    · subst hd
      exact Item.inRange_dwellLimit.1 ha.range
    · simp only [State.modSettings_settings, Settings.put_dwellLimit hd]
      exact fit.2
  · by_cases hs : item = .condStop
    · subst hs
      have empty : s.cond.queue = [] := lawful.2.2.2 (of_decide_eq_true ha.quiet)
      show s.cond.queueLawful _
      refine ⟨?_, ?_, ?_, fun _ => empty⟩ <;> rw [empty]
      · exact .nil
      · exact .nil
      · exact nofun
    · simp only [State.modSettings_settings, Settings.put_condStop hs]
      exact lawful

theorem Item.condKept_changed {item : Item} (h : item ≠ .downforceLimit) (before s : State) :
    s.condKept (item.changed before s) := by
  have silence : ∀ l (u : State), u.condSame (u.silenceTimeChanged l) := fun l u => by
    unfold State.silenceTimeChanged
    split
    · exact u.condSame_silenceExpiry l
    · exact .refl u
  cases item with
  | downforceLimit => exact absurd rfl h
  | diskLifeLimit => exact s.condKept_evaluateSpent.trans (State.condKept_actIfParked _)
  | stallLimit =>
    simp only [Item.changed, State.stallLimitChanged]
    (repeat' split)
    · exact s.condSame_enterStalled.keeps
    · exact .refl s
    · exact .refl s
  | stopTimeout k =>
    simp only [Item.changed, State.stopTimeoutChanged]
    split
    · exact State.condSame.keeps ⟨by simp, by simp⟩
    · exact .refl s
  | linkSilence => exact ((silence .a s).trans (silence .b _)).keeps
  | windowLower | windowUpper | hubSize | laneReach | condReach | limit | softHold | maxFlow | recirculation | primeFlow
  | barMax | outletMax | invertMask | mask =>
    exact State.condSame.keeps ⟨by simp [Item.changed, State.limitChanged, State.barMaxChanged, State.outletMaxChanged],
      by simp [Item.changed, State.limitChanged, State.barMaxChanged, State.outletMaxChanged]⟩
  | _ => exact .refl s

theorem State.condKept_applySetting {s : State} {item : Item} {v : Nat} (ha : s.accepts item v) :
    s.condKept (s.applySetting item v) := by
  unfold State.applySetting
  split
  · exact .refl s
  · by_cases hd : item = .downforceLimit
    · subst hd
      have command : ((s.modSettings (Settings.put .downforceLimit v)).downforceCut).cond.dfCommand =
          min s.cond.dfCommand v := rfl
      refine ⟨fun h => ?_, fun h => State.queueKept_of_same rfl rfl rfl (State.queueKept_put ha h)⟩
      rw [Conditioner.lawful_iff] at h ⊢
      exact ⟨h.1, command.trans_le (Nat.min_le_right _ _)⟩
    · refine .trans ⟨fun h => ?_, State.queueKept_put ha⟩ (Item.condKept_changed hd s _)
      show s.cond.lawful _
      rw [State.modSettings_settings, Settings.put_downforceLimit hd]
      exact h

/-! ### Requests -/

/-- The kinds whose requests the conditioner takes, and SET. -/
def changesCond : Kind → Bool
  | .set | .condMode | .condReset | .diskReset | .stationRestart => true
  | _ => false

theorem decideRequest_condSame (p : Port) (r : Request) (s : State) (h : changesCond r.kind = false) :
    s.condSame (decideRequest p s r).state := by
  cases r with
  | identRead | noticesRead => exact ⟨rfl, rfl⟩
  | statusRead | noteSend | noteTake | get | mapRead =>
    simp only [decideRequest, decideStatusRead, decideNoteSend, decideNoteTake, decideGet, decideMapRead]
    (repeat' split) <;> exact ⟨rfl, rfl⟩
  | mapRestore =>
    simp only [decideRequest, decideMapRestore, State.mapRestore]
    (repeat' split) <;> exact ⟨rfl, rfl⟩
  | padReset | chordLoad =>
    simp only [decideRequest, decidePadReset, decideChordLoad]
    (repeat' split) <;> exact ⟨rfl, rfl⟩
  | hubClaim | hubRelease | hubForceRelease =>
    simp only [decideRequest, decideHubClaim, decideHubRelease, decideHubForceRelease]
    constructor <;> (repeat' split) <;> simp [refuse]
  | profileStage | touchdown | release | gainLoad =>
    simp only [decideRequest, decideProfileStage, decideTouchdown, State.touchdown, decideRelease, decideGainLoad]
    (repeat' split) <;> exact ⟨rfl, rfl⟩
  | lineStart | lineRestart | lineStop | feedSelect | rateSet =>
    simp only [decideRequest, decideLineStart, decideLineRestart, decideLineStartFrom, State.startLine, decideLineStop,
      decideFeedSelect, decideRateSet]
    (repeat' split) <;> exact ⟨rfl, rfl⟩
  | remoteHold | remoteTrip =>
    simp only [decideRequest, decideRemoteHold, State.setRemoteHold, decideRemoteTrip, State.onRise]
    constructor <;> (repeat' split) <;> simp [refuse, done]
  | resume =>
    simp only [decideRequest, decideResume, State.resume, State.resumeFeed, State.resumeBar]
    constructor <;> (repeat' split) <;> simp [refuse]
  | tripClear =>
    simp only [decideRequest, decideTripClear]
    (repeat' split) <;> exact ⟨rfl, rfl⟩
  | set | condMode | condReset | diskReset | stationRestart => cases h

/-- A new mode, OFF with an empty queue. -/
theorem State.condKept_putMode (m : CondMode) (s : State) :
    s.condKept (s.modCond fun c => { c with mode := m, queue := if m = .off then [] else c.queue }) := by
  refine ⟨id, fun ⟨fit, order, nodup, entries, _⟩ => ⟨fit, ?_⟩⟩
  by_cases hm : m = .off
  · subst hm
    exact ⟨.nil, .nil, nofun, fun _ => rfl⟩
  · simp only [State.modCond_cond, if_neg hm]
    exact ⟨order, nodup, entries, fun h => absurd h hm⟩

theorem State.condKept_stationRestart (s : State) : s.condKept s.stationRestart := by
  obtain ⟨causes, links, frame⟩ := s.stationRestart_frame
  have cond : s.stationRestart.cond = s.cond.restarted s.settings.cond.diskLifeLimit := by rw [frame]
  have settings : s.stationRestart.settings = s.settings := by rw [frame]
  refine ⟨fun _ => ?_, fun ⟨fit, _⟩ => ?_⟩
  · rw [Conditioner.lawful_iff, cond]
    refine ⟨⟨iff_of_false nofun ?_, iff_of_false nofun ?_, iff_of_false nofun ?_⟩, Nat.zero_le _⟩ <;>
      show (if s.cond.state = .parked then CondState.parked else .unreferenced) ≠ _ <;> split <;> exact nofun
  · rw [State.queueKept, cond, settings]
    exact ⟨fit, .nil, .nil, nofun, fun _ => rfl⟩

theorem decideRequest_condKept (p : Port) (r : Request) (s : State) : s.condKept (decideRequest p s r).state := by
  cases hk : changesCond r.kind with
  | false => exact (decideRequest_condSame p r s hk).keeps
  | true =>
    cases r with
    | set id inst v =>
      simp only [decideRequest, decideSet]
      split
      · exact .refl s
      · split
        · exact .refl s
        · next h => exact State.condKept_applySetting (State.accepts_of_setRefusal h)
    | condMode code =>
      simp only [decideRequest, decideCondMode]
      split
      · exact .refl s
      · next m _ =>
        by_cases hf : s.cond.state = .fault
        · rw [if_pos hf]
          exact .refl s
        · rw [if_neg hf]
          by_cases hm : s.cond.mode = m
          · rw [if_pos hm]
            exact s.condKept_putMode m
          · rw [if_neg hm]
            exact (s.condKept_putMode m).trans ((State.condWorks_modeChanged _).keeps_of hf)
    | condReset =>
      simp only [decideRequest, decideCondReset]
      split
      · refine ⟨fun h => ?_, fun ⟨fit, _⟩ => ⟨fit, .nil, .nil, nofun, fun _ => rfl⟩⟩
        rw [Conditioner.lawful_iff] at h ⊢
        exact ⟨⟨iff_of_false nofun nofun, iff_of_false nofun nofun, iff_of_false nofun nofun⟩, h.2⟩
      · exact .refl s
    | diskReset count =>
      simp only [decideRequest, decideDiskReset]
      (repeat' split)
      · exact .refl s
      · have counted : s.condKept (s.modCond fun c => { c with diskLife := count }) :=
          State.condKept_aside rfl rfl rfl Iff.rfl
        exact (counted.trans (State.condKept_evaluateSpent _)).trans (State.condKept_actIfParked _)
      · exact .refl s
    | stationRestart =>
      simp only [decideRequest, decideStationRestart]
      (repeat' split)
      · exact .refl s
      · exact .refl s
      · exact s.condKept_stationRestart
    | _ => cases hk

/-! ### Commands and steps -/

theorem Settings.default_queueFit : Settings.default.queueFit := by
  unfold Settings.queueFit
  decide

theorem State.condKept_hardReset (s : State) : s.condKept s.hardReset :=
  ⟨fun _ => ⟨iff_of_false nofun nofun, iff_of_false nofun nofun, iff_of_false nofun nofun, Nat.zero_le _⟩,
    fun _ => ⟨Settings.default_queueFit, .nil, .nil, nofun, fun _ => rfl⟩⟩

theorem State.condKept_settled (s : State) : s.condKept s.settled := by
  refine keeps_settled (P := s.condKept) (fun t e rest _ ht => ?_) (fun t ht => ht.trans t.condKept_moveArrival) (.refl s)
  have taken : t.condSame (t.modEvents fun _ => rest) := ⟨rfl, rfl⟩
  exact (ht.trans taken.keeps).trans (State.condKept_take e _)

/-- Every command keeps the laws of the conditioner. -/
theorem exec_condKept {c : Instr} {s t : State} (h : exec c s = .next t) : s.condKept t := by
  have settled : ∀ u, s.condKept u → s.condKept u.settled := fun u hu => hu.trans u.condKept_settled
  have port : PortBlind s.condKept := fun p f u hu => hu.trans (State.condSame.keeps ⟨rfl, rfl⟩)
  have events : ∀ u f, s.condKept u → s.condKept (u.modEvents f) := fun u f hu => hu.trans (State.condSame.keeps ⟨rfl, rfl⟩)
  have silence : ∀ l f u, s.condKept u → s.condKept (u.modSilence l f) := fun l f u hu =>
    hu.trans (State.condSame.keeps ⟨rfl, rfl⟩)
  have settledFor : ∀ k u, s.condKept u → s.condKept (u.settledFor k) := fun k u hu => keeps_settledFor settled events k hu
  have request : ∀ p r u, s.condKept u → s.condKept (decideRequest p u r).state := fun p r u hu =>
    hu.trans (decideRequest_condKept p r u)
  have next : ∀ {u : State}, exec c s = .next t → exec c s = .next u → s.condKept u → s.condKept t := fun h k hu =>
    Host.Outcome.next.inj (h.symm.trans k) ▸ hu
  have row : ∀ {f : State → State}, (∀ u, State.condKept u (f u)) → s.condKept (f s.settled) := fun hf =>
    s.condKept_settled.trans (hf _)
  have event : ∀ e : Event, exec e.command s = .next t → s.condKept t := fun e he => condKept_eventRow he
  cases hq : c.request? with
  | some pr =>
    obtain ⟨p, r⟩ := pr
    rw [Instr.eq_command hq, exec_request] at h
    cases h
    exact keeps_answerRequest port (fun p k u hu => keeps_heardFor settled events silence p k hu) request p r s (.refl s)
  | none =>
    cases c with
    | hardReset => cases h; exact s.condKept_hardReset
    | validFrame p tag kind payload crc => cases h; exact keeps_frame port settledFor silence request p _ crc s (.refl s)
    | replySent p => cases h; exact keeps_replySent port settledFor request p s (.refl s)
    | frameError | syncByte | resetAsserted => cases h; exact State.condSame.keeps ⟨rfl, rfl⟩
    | interByteTimeout p =>
      cases h
      unfold State.interByteTimeout
      split
      · exact State.condSame.keeps ⟨rfl, rfl⟩
      · exact .refl s
    | hubEntry m => exact event (.hubEntry m) h
    | hubExit m => exact event (.hubExit m) h
    | condMapUpdated => exact event (.condMapUpdated default) h
    | gainRecompute => exact event (.gainRecompute default) h
    | dryCountUpdate => exact event (.dryCountUpdate default) h
    | indexProfileApply => exact event .indexProfileApply h
    | hardHoldVent l => exact event (.hardHoldVent l) h
    | softHoldCap l => exact event (.softHoldCap l) h
    | hardHoldBarEmpty l => exact event (.hardHoldBarEmpty l) h
    | hardHoldWithdraw l => exact event (.hardHoldWithdraw l) h
    | tripBarEmpty => exact event .tripBarEmpty h
    | condTripHalt => exact event .condTripHalt h
    | condTripClear => exact event .condTripClear h
    | mapReplaced => exact event .mapReplaced h
    | condGrant => exact event .condGrant h
    | condGrantLost => exact event .condGrantLost h
    | slurryStop => exact event .slurryStop h
    | moveArrival => cases h; exact s.condKept_moveArrival
    | platenEncoderCount e => exact next h rfl (row fun u => (u.condSame_platenCount e).keeps)
    | indexEdge n => exact next h rfl (row fun u => (u.condSame_indexEdge n).keeps)
    | stallTimerExpiry => exact next h rfl (row fun u => u.condSame_stallExpiry.keeps)
    | armEncoderCount m e => exact next h rfl (row (State.condKept_armCount m e))
    | homeSwitchEdge m => exact next h rfl (row (State.condKept_homeEdge m))
    | silenceTimerExpiry l => exact next h rfl (row fun u => (u.condSame_silenceExpiry l).keeps)
    | pressureUpdate adc supply => exact next h rfl (row fun u => (u.condSame_pressureUpdate adc supply).keeps)
    | touchdownDone l => exact next h rfl (row fun u => (u.condSame_touchdownDone l).keeps)
    | releaseDone l => exact next h rfl (row fun u => (u.condSame_releaseDone l).keeps)
    | supplyTimeExpiry => exact next h rfl (row fun u => u.condSame_supplyTimeExpiry.keeps)
    | deviationTimeExpiry l c => exact next h rfl (row fun u => (u.condSame_deviationExpiry l c).keeps)
    | condStep => exact next h rfl (row State.condKept_condStep)
    | settleTimeout => exact next h rfl (row fun u => u.condKept_condTimeouts.1)
    | liftTimeout => exact next h rfl (row fun u => u.condKept_condTimeouts.2.1)
    | homingTimeout => exact next h rfl (row fun u => u.condKept_condTimeouts.2.2.1)
    | downforceFault => exact next h rfl (row fun u => u.condKept_condTimeouts.2.2.2)
    | downforceUpdate adc up => exact next h rfl (row (State.condKept_downforceUpdate adc up))
    | loweringComplete => exact next h rfl (row State.condKept_loweringComplete)
    | liftComplete => exact next h rfl (row State.condKept_liftComplete)
    | flowMeterPulse k => exact next h rfl (row fun u => (u.condSame_flowPulse k).keeps)
    | stopTimeoutExpiry k => exact next h rfl (row fun u => (u.condSame_stopTimeout k).keeps)
    | flowWindowEnd => exact next h rfl (row fun _ => State.condSame.keeps ⟨rfl, rfl⟩)
    | interlockPinChange i b => exact next h rfl (row fun u => (u.condSame_pinChange i b).keeps)
    | debounceExpiry i => exact next h rfl (row fun u => (u.condSame_debounceExpiry i).keeps)
    | homingStep b => exact next h rfl (row (State.condKept_homingStep b))
    | _ => cases hq

theorem step_condKept {s t : State} (h : step s = .next t) : s.condKept t :=
  keeps_step (P := s.condKept) (fun _ _ hu => hu.trans (State.condSame.keeps ⟨rfl, rfl⟩))
    (fun _ _ _ hu hv => hu.trans (exec_condKept hv)) (fun u hu => (hu.trans u.condKept_settled).trans (State.condKept_tick _))
    (.refl s) h

/-- Settles O54: every step keeps both laws, the queue's in settings that fit it, as lawful settings do. -/
theorem conditionerAndQueueStayLawful : Obligations.ConditionerAndQueueStayLawful :=
  ⟨fun _ _ hs h => (step_condKept h).record hs,
    fun _ _ hg hs h => ((step_condKept h).queue ⟨hg.queueFit, hs⟩).2⟩

end Sys2Proof.Machine

/-!
The conditioner's requests: COND MODE, COND RESET and DISK RESET (O34, O35, O36).
-/

namespace Sys2Proof.Machine
open Sys2Proof

/-! ### What turns keep of the disk -/

/-- From `s` to `t` the disk's life and its spent flag stay. -/
structure State.diskKept (s t : State) : Prop where
  life : t.cond.diskLife = s.cond.diskLife
  spent : t.cond.spent = s.cond.spent

theorem State.diskKept.refl (s : State) : s.diskKept s := ⟨rfl, rfl⟩

theorem State.diskKept.trans {s t u : State} (h : s.diskKept t) (k : t.diskKept u) : s.diskKept u :=
  ⟨k.life.trans h.life, k.spent.trans h.spent⟩

theorem State.condSame.diskKept {s t : State} (h : s.condSame t) : s.diskKept t := by
  obtain ⟨cond, -⟩ := h
  exact ⟨congrArg _ cond, congrArg _ cond⟩

theorem State.diskKept_setTarget (x : Option CondTarget) (s : State) : s.diskKept (s.setTarget x) := ⟨rfl, rfl⟩

theorem State.diskKept_condEnter (st : CondState) (s : State) : s.diskKept (s.condEnter st) := ⟨rfl, rfl⟩

theorem State.diskKept_startMove (st : CondState) (s : State) : s.diskKept (s.startMove st) := by
  have cond := s.startMove_cond st
  exact ⟨(congrArg Conditioner.diskLife cond).trans rfl, (congrArg Conditioner.spent cond).trans rfl⟩

theorem State.diskKept_beginWork (s : State) : s.diskKept s.beginWork := by
  unfold State.beginWork
  split
  · exact s.diskKept_condEnter _
  · exact s.diskKept_startMove _

theorem State.diskKept_dealFor (x : CondTarget) (s : State) : s.diskKept (s.dealFor x) := by
  have claim := (s.diskKept_setTarget (some x)).trans (State.condSame_condClaim _).diskKept
  unfold State.dealFor
  simp only
  (repeat' split)
  · exact claim.trans (State.diskKept_beginWork _)
  · exact claim.trans (State.diskKept_condEnter _ _)
  · exact ((s.diskKept_setTarget (some x)).trans (State.condSame_condGiveUp _).diskKept).trans (State.diskKept_beginWork _)

theorem State.diskKept_goIdle (s : State) : s.diskKept s.goIdle := by
  unfold State.goIdle
  split
  · exact .refl s
  · exact ((s.diskKept_setTarget _).trans (State.condSame_condGiveUp _).diskKept).trans (State.diskKept_startMove _ _)

theorem State.diskKept_select (s : State) : s.diskKept s.select := by
  unfold State.select
  (repeat' split)
  · exact s.diskKept_goIdle
  · exact s.diskKept_dealFor _
  · exact ((s.diskKept_setTarget _).trans (State.condSame_condGiveUp _).diskKept).trans (State.diskKept_condEnter _ _)
  · exact s.diskKept_goIdle

theorem State.diskKept_actOnMode (s : State) : s.diskKept s.actOnMode := by
  unfold State.actOnMode State.sweepStart
  (repeat' split)
  · exact .refl s
  · exact s.diskKept_select
  · exact s.diskKept_goIdle
  · exact s.diskKept_dealFor _

/-! ### COND MODE (R101, R102) -/

/-- The new mode in force, the queue empty in OFF. -/
def State.withMode (m : CondMode) (s : State) : State :=
  { s with cond := { s.cond with mode := m, queue := if m = .off then [] else s.cond.queue } }

/-- The state after an accepted COND MODE. -/
def State.modeTaken (m : CondMode) (s : State) : State :=
  if s.cond.mode = m then s.withMode m else (s.withMode m).modeChanged

section
variable {s₀ s : State} (hs : s₀.heard .s = s)
include hs

theorem exec_condMode_range {n : Nat} (hn : 2 < n) :
    exec (.condMode .s n) s₀ = .next (replied .s .condMode .range [] s) := by
  obtain ⟨k, rfl⟩ := Nat.exists_eq_add_of_le' hn
  exact exec_request_replied .s (.condMode (k + 3)) hs rfl rfl rfl rfl

theorem exec_condMode_fault (m : CondMode) (hf : s.cond.state = .fault) :
    exec (.condMode .s m.code) s₀ = .next (replied .s .condMode .state [] s) := by
  refine exec_request_replied .s (.condMode m.code) hs rfl rfl rfl ?_
  rw [decideRequest, decideCondMode, condModeOfCode_code]
  exact if_pos hf

theorem exec_condMode_taken (m : CondMode) (hf : s.cond.state ≠ .fault) :
    exec (.condMode .s m.code) s₀ = .next (replied .s .condMode .ok [] (s.modeTaken m)) := by
  refine exec_request_replied .s (.condMode m.code) hs rfl rfl rfl ?_
  rw [decideRequest, decideCondMode, condModeOfCode_code]
  exact if_neg hf

end

section
variable {m : CondMode} {s : State}

theorem State.modeTaken_same (h : m = s.cond.mode) : s.modeTaken m = s.withMode m := if_pos h.symm

theorem State.modeTaken_new (h : m ≠ s.cond.mode) : s.modeTaken m = (s.withMode m).modeChanged := if_neg (Ne.symm h)

/-- A mode other than OFF leaves the queue. -/
theorem State.withMode_on (h : m ≠ .off) : s.withMode m = { s with cond := { s.cond with mode := m } } := by
  unfold State.withMode
  rw [if_neg h]

theorem State.condMoved_modeActs (s : State) : s.condMoved s.modeActs := by
  unfold State.modeActs
  split
  · exact s.condMoved_returnToPark
  · exact s.condMoved_select
  · exact s.condMoved_sweepStart

theorem State.condMoved_modeChanged (s : State) : s.condMoved s.modeChanged := by
  have lifts : ∀ p, s.condMoved (s.startLift p) := fun _ => State.condMoved_modCond rfl rfl
  unfold State.modeChanged
  split
  · split
    · exact State.condMoved_modCond rfl rfl
    · exact .refl s
  · exact s.condMoved_actOnMode
  · exact s.condMoved_modeActs
  · exact s.condMoved_modeActs
  · exact s.condMoved_modeActs
  · exact s.condMoved_modeActs
  · exact lifts _
  · exact lifts _
  · exact lifts _
  · split
    · exact .refl s
    · exact State.condMoved_modCond rfl rfl
  · exact .refl s
  · exact .refl s
  · exact .refl s

/-- An accepted COND MODE moves the conditioner from the state with the new mode. -/
theorem State.condMoved_modeTaken (m : CondMode) (s : State) : (s.withMode m).condMoved (s.modeTaken m) := by
  unfold State.modeTaken
  split
  · exact .refl _
  · exact State.condMoved_modeChanged _

/-- The states in which a new mode has nothing to do (R102). -/
theorem State.modeChanged_idle {s : State} (h : s.cond.state ∈ [.homing, .halted] ∨
    (s.cond.mode = .off ∧ s.cond.state ∈ [.unreferenced, .parked]) ∨
    (s.cond.state = .unreferenced ∧ s.matrix.station = .tripped) ∨
    (s.cond.state = .lifting ∧ s.cond.liftPurpose = some .halt)) : s.modeChanged = s := by
  simp only [List.mem_cons, List.not_mem_nil, or_false] at h
  unfold State.modeChanged
  rcases h with (h | h) | ⟨off, h | h⟩ | ⟨h, tripped⟩ | ⟨h, halt⟩ <;> rw [h]
  · exact if_neg fun k => k.1 off
  · exact State.actOnMode_off off
  · exact if_neg fun k => absurd (k.2.symm.trans tripped) nofun
  · exact if_pos halt

theorem State.modeChanged_unreferenced {s : State} (h : s.cond.state = .unreferenced) (on : s.cond.mode ≠ .off)
    (normal : s.matrix.station = .normal) : s.modeChanged = s.beginHoming := by
  unfold State.modeChanged
  rw [h]
  exact if_pos ⟨on, normal⟩

theorem State.modeChanged_free {s : State} (h : s.cond.state ∈ [.waitHub, .waitClear, .moving, .returning]) :
    s.modeChanged = s.modeActs := by
  simp only [List.mem_cons, List.not_mem_nil, or_false] at h
  unfold State.modeChanged
  rcases h with h | h | h | h <;> rw [h]

theorem State.modeChanged_down {s : State} (h : s.cond.state ∈ [.lowering, .dwelling, .sweeping]) :
    s.modeChanged = s.startLift (modePurpose s.cond.mode) := by
  simp only [List.mem_cons, List.not_mem_nil, or_false] at h
  unfold State.modeChanged
  rcases h with h | h | h <;> rw [h]

theorem State.modeChanged_lifting {s : State} (h : s.cond.state = .lifting) (hp : s.cond.liftPurpose ≠ some .halt) :
    s.modeChanged = { s with cond := { s.cond with liftPurpose := some (modePurpose s.cond.mode) } } := by
  unfold State.modeChanged
  rw [h]
  exact if_neg hp

/-- With the disk up and a mode other than OFF the mode acts (R102). -/
theorem State.modeChanged_up {s : State} (h : s.cond.state ∈ [.parked, .waitHub, .waitClear, .moving, .returning])
    (on : s.cond.mode ≠ .off) : s.modeChanged = s.actOnMode := by
  by_cases hp : s.cond.state = .parked
  · unfold State.modeChanged
    rw [hp]
  · have acts : s.modeActs = s.actOnMode := by
      unfold State.modeActs State.actOnMode
      cases hm : s.cond.mode with
      | off => exact absurd hm on
      | sweep | map => rfl
    rw [State.modeChanged_free ((List.mem_cons.1 h).resolve_left hp), acts]

/-- The state and the target of a return to park, whatever the hub (R107). -/
theorem State.returnToPark_turned (s : State) : s.returnToPark.cond.state = .returning ∧
    s.returnToPark.cond.target = some .park ∧ s.turned s.returnToPark :=
  State.turned_startMove (v := (s.setTarget (some .park)).condGiveUp) (State.condSame_condGiveUp _).cond .returning

end

/-- Settles O34: an accepted mode is put in force, and then each state does what R102 says of it. -/
theorem condModeByState : Obligations.CondModeByState := by
  intro m s₀ s hs queue purpose
  refine ⟨fun n => exec_condMode_range hs, exec_condMode_fault hs m, fun hf => ⟨s.modeTaken m, exec_condMode_taken hs m hf, ?_⟩⟩
  have purposed : modePurpose m = purpose := by cases m <;> rfl
  have put : s.withMode m = { s with cond := { s.cond with mode := m, queue := queue } } := rfl
  obtain ⟨frame, filed, mode, kept⟩ := State.condMoved_modeTaken m s
  refine ⟨mode, kept, frame, fun h => ?_, fun hm on h normal => ?_, fun hm off h => ?_, fun hm h => ?_, fun hm h hp => ?_⟩
  · rw [← put]
    rcases h with h | h
    · exact State.modeTaken_same h
    · by_cases hm : m = s.cond.mode
      · exact State.modeTaken_same hm
      · rw [State.modeTaken_new hm]
        exact State.modeChanged_idle h
  · rw [State.modeTaken_new hm, State.modeChanged_unreferenced (s := s.withMode m) h on normal, State.withMode_on on]
    rfl
  · subst off
    have returns : s.modeTaken .off = (s.withMode .off).returnToPark := by
      rw [State.modeTaken_new hm, State.modeChanged_free (s := s.withMode .off) h]
      rfl
    obtain ⟨state, target, -⟩ := (s.withMode .off).returnToPark_turned
    rw [← returns] at state target
    refine ⟨state, target, filed, fun hl => ?_⟩
    rw [returns]
    exact State.returned_returnToPark (s := s.withMode .off) hl
  · rw [State.modeTaken_new hm, State.modeChanged_down (s := s.withMode m) h, ← purposed]
    rfl
  · rw [State.modeTaken_new hm, State.modeChanged_lifting (s := s.withMode m) h hp, ← purposed]
    rfl

/-- Settles O35: with the disk up a new mode acts at once. -/
theorem selectionAndSweepStart : Obligations.SelectionAndSweepStart := by
  intro m s₀ s hs on hm h hl
  have free : s.cond.state ≠ .fault := fun hf => by
    rw [hf] at h
    simp at h
  refine ⟨s.modeTaken m, exec_condMode_taken hs m free, ?_⟩
  rw [State.modeTaken_new hm, State.modeChanged_up (s := s.withMode m) h on, State.withMode_on on]
  exact State.modeActed_actOnMode hl

/-! ### COND RESET and DISK RESET (R119, R120) -/

theorem State.diskKept_actIfParked (s : State) : s.diskKept s.actIfParked := by
  unfold State.actIfParked
  split
  · exact s.diskKept_actOnMode
  · exact .refl s

theorem State.condMoved_actIfParked (s : State) : s.condMoved s.actIfParked := by
  unfold State.actIfParked
  split
  · exact s.condMoved_actOnMode
  · exact .refl s

/-- The disk judged, with the notice that a rise files (R120). -/
theorem State.evaluateSpent_disk (s : State) : s.evaluateSpent.cond =
    { s.cond with spent := decide (s.settings.cond.diskLifeLimit ≤ s.cond.diskLife) } ∧ s.onlyFiled s.evaluateSpent := by
  have judged : s.evaluateSpent = _ := s.evaluateSpent_eq s.settings
  rw [judged]
  split
  · exact ⟨rfl, (State.onlyFiled_of_links rfl : s.onlyFiled (s.diskJudged s.settings)).trans (State.onlyFiled_file _ _ _)⟩
  · exact ⟨rfl, State.onlyFiled_of_links rfl⟩

/-- Settles O36: COND RESET by the state, DISK RESET by its count and the state, and the disk judged by the new count. -/
theorem condAndDiskReset : Obligations.CondAndDiskReset := by
  intro count s₀ s hs
  have reset : ∀ {t : State} {r : Result}, decideCondReset s = { state := t, result := r } →
      exec (.condReset .s) s₀ = .next (replied .s .condReset r [] t) := fun h =>
    exec_request_replied .s .condReset hs rfl rfl rfl h
  have disk : ∀ {t : State} {r : Result}, decideDiskReset count s = { state := t, result := r } →
      exec (.diskReset .s count) s₀ = .next (replied .s .diskReset r [] t) := fun h =>
    exec_request_replied .s (.diskReset count) hs rfl rfl rfl h
  refine ⟨fun hf => reset (if_pos hf), fun hf => reset (if_neg hf), fun hc => disk (if_pos hc), fun hc hr => disk ?_,
    fun hc hr => ?_⟩
  · rw [decideDiskReset, if_neg (Nat.not_lt.2 hc), if_neg (mt (CondState.atRest_iff _).1 hr)]
    rfl
  · set v : State := { s with cond := { s.cond with diskLife := count } } with hv
    have row : decideDiskReset count s = { state := v.evaluateSpent.actIfParked, result := .ok } := by
      rw [decideDiskReset, if_neg (Nat.not_lt.2 hc), if_pos ((CondState.atRest_iff _).2 hr)]
      rfl
    obtain ⟨judged, filed⟩ := v.evaluateSpent_disk
    obtain ⟨life, spent⟩ := v.evaluateSpent.diskKept_actIfParked
    rw [judged] at life spent
    obtain ⟨told, rests, acts⟩ := v.diskLifeLimit_changed s.settings
    have whole : v.withSettings s.settings = v := rfl
    rw [whole] at told rests acts
    refine ⟨_, disk row, life, spent, told, fun h => ?_,
      ((State.onlyFiled_of_links rfl : s.onlyFiled v).trans filed).trans (State.condMoved_actIfParked _).filed, fun hlt hp hl => ?_⟩
    · refine (rests h).1.trans ?_
      rw [spent]
      rfl
    · have unspent : v.diskJudged s.settings = { s with cond := { s.cond with diskLife := count, spent := false } } := by
        unfold State.diskJudged State.withSettings
        rw [decide_eq_false (Nat.not_le.2 hlt)]
      rw [← unspent]
      exact acts hlt hp hl

end Sys2Proof.Machine

/-!
What the conditioner is told: map updated events, grants, losses of a grant, trips and trip clears (O38, O39).
-/

namespace Sys2Proof.Machine
open Sys2Proof

/-! ### The rebuild and the disk's count (R105, R120) -/

/-- The record once the disk's life is counted and judged (R120). -/
def State.diskCounted (cut : Bool) (s : State) : Conditioner :=
  let life := if cut then min 16777215 (s.cond.diskLife + 1) else s.cond.diskLife
  { s.cond with
    diskLife := life, spent := if cut then decide (s.settings.cond.diskLifeLimit ≤ life) else s.cond.spent }

/-- The count files DISK_SPENT where the flag rises (R120). -/
theorem State.countDiskLife_eq (cut : Bool) (s : State) : s.countDiskLife cut =
    if s.cond.spent = false ∧ (s.diskCounted cut).spent = true
    then State.file .s .diskSpent { s with cond := s.diskCounted cut } else { s with cond := s.diskCounted cut } := by
  cases cut with
  | false => exact (if_neg fun h => Bool.false_ne_true (h.1.symm.trans h.2)).symm
  | true =>
    have counted := State.evaluateSpent_eq { s with cond := { s.cond with diskLife := min 16777215 (s.cond.diskLife + 1) } }
      s.settings
    refine Eq.trans counted ?_
    simp only [State.diskCounted, if_true, decide_eq_true_eq]
    rfl

theorem State.rebuild_eq (s : State) : s.rebuild = { s with cond := { s.cond with
    queue := if s.cond.mode = .off then s.cond.queue else rebuildQueue s.settings.map s.map s.cond.queue } } := by
  unfold State.rebuild
  split <;> rfl

/-! ### The work of the state (R105, R113) -/

theorem State.hasEntry_iff (s : State) (k : Nat) : s.hasEntry k = true ↔ ∃ x ∈ s.cond.queue, x.band = k := by
  simp [State.hasEntry]

section
variable {s : State} {k : Nat} (ht : s.cond.target = some (.band k))
include ht

theorem State.dwellTest_lifts (h : ¬ s.hasEntry k = true ∨ s.blocked k = true) : s.dwellTest = s.startLift .select := by
  unfold State.dwellTest
  rw [ht]
  refine if_pos ?_
  rcases h with h | h <;> simp [h]

theorem State.dwellTest_stays (he : s.hasEntry k = true) (hb : ¬ s.blocked k = true) : s.dwellTest =
    if s.settings.cond.dwellLimit ≤ s.cond.dwell + 1 then
      { s with cond := { s.cond.enter .lifting with
        dwell := s.cond.dwell + 1, liftPurpose := some .select
        queue := restBand k s.settings.cond.dwellLimit s.cond.queue } }
    else { s with cond := { s.cond with dwell := s.cond.dwell + 1 } } := by
  unfold State.dwellTest
  rw [ht]
  exact if_neg (by simp [he, hb])

end

/-- The conditioner's own work leaves all but its record, and of that the mode, the disk and the order of the queue. -/
structure State.ownWork (s t : State) : Prop where
  frame : t = { s with cond := t.cond }
  mode : t.cond.mode = s.cond.mode
  disk : s.diskKept t
  queue : t.cond.queue.map (fun e => (e.band, e.rankedWear)) = s.cond.queue.map fun e => (e.band, e.rankedWear)

theorem State.ownWork.refl (s : State) : s.ownWork s := ⟨rfl, rfl, .refl s, rfl⟩

theorem State.ownWork_startLift (p : LiftPurpose) (s : State) : s.ownWork (s.startLift p) := ⟨rfl, rfl, ⟨rfl, rfl⟩, rfl⟩

theorem State.ownWork_dwellTest (s : State) : s.ownWork s.dwellTest := by
  unfold State.dwellTest
  simp only
  (repeat' split)
  · exact s.ownWork_startLift _
  · exact ⟨rfl, rfl, ⟨rfl, rfl⟩, restBand_key _ _ _⟩
  · exact ⟨rfl, rfl, ⟨rfl, rfl⟩, rfl⟩
  · exact s.ownWork_startLift _

section
variable {s : State}

theorem State.updatedWork_free (h : s.cond.state ∈ [.parked, .waitHub, .waitClear]) :
    s.updatedWork = if s.cond.mode = .map then s.select else s := by
  simp only [List.mem_cons, List.not_mem_nil, or_false] at h
  unfold State.updatedWork
  rcases h with h | h | h <;> rw [h]

theorem State.updatedWork_dwelling (h : s.cond.state = .dwelling) : s.updatedWork = s.dwellTest := by
  unfold State.updatedWork
  rw [h]

theorem State.updatedWork_sweeping (h : s.cond.state = .sweeping) :
    s.updatedWork = if s.cond.spent then s.startLift .returnToPark else s := by
  unfold State.updatedWork
  rw [h]

theorem State.updatedWork_none (h : s.cond.state ∉ [.parked, .waitHub, .waitClear, .dwelling, .sweeping]) :
    s.updatedWork = s := by
  simp only [List.mem_cons, List.not_mem_nil, or_false, not_or] at h
  obtain ⟨parked, waitHub, waitClear, dwelling, sweeping⟩ := h
  unfold State.updatedWork
  split
  · next h => exact absurd h dwelling
  · next h => exact absurd h waitHub
  · next h => exact absurd h waitClear
  · next h => exact absurd h parked
  · next h => exact absurd h sweeping
  · rfl

/-- Where no selection is made the work is the conditioner's own. -/
theorem State.ownWork_updatedWork (h : s.cond.state ∉ [.parked, .waitHub, .waitClear] ∨ s.cond.mode ≠ .map) :
    s.ownWork s.updatedWork := by
  by_cases free : s.cond.state ∈ [.parked, .waitHub, .waitClear]
  · rw [State.updatedWork_free free, if_neg (h.resolve_left (not_not_intro free))]
    exact .refl s
  · by_cases dwelling : s.cond.state = .dwelling
    · rw [State.updatedWork_dwelling dwelling]
      exact s.ownWork_dwellTest
    · by_cases sweeping : s.cond.state = .sweeping
      · rw [State.updatedWork_sweeping sweeping]
        split
        · exact s.ownWork_startLift _
        · exact .refl s
      · rw [State.updatedWork_none fun k => ?_]
        · exact .refl s
        · simp only [List.mem_cons, List.not_mem_nil, or_false] at k free
          tauto

/-- Whatever the work, the mode, the disk and the order of the queue stay, and what is filed is all that the ports see. -/
theorem State.updatedWork_kept (s : State) : s.diskKept s.updatedWork ∧ s.updatedWork.cond.mode = s.cond.mode ∧
    s.updatedWork.cond.queue.map (fun e => (e.band, e.rankedWear)) = s.cond.queue.map (fun e => (e.band, e.rankedWear)) ∧
    s.onlyFiled s.updatedWork ∧ s.updatedWork = { s with
      cond := s.updatedWork.cond, hub := s.updatedWork.hub, links := s.updatedWork.links
      events := s.updatedWork.events } := by
  by_cases h : s.cond.state ∉ [.parked, .waitHub, .waitClear] ∨ s.cond.mode ≠ .map
  · obtain ⟨frame, mode, disk, queue⟩ := State.ownWork_updatedWork h
    refine ⟨disk, mode, queue, ?_, ?_⟩ <;> rw [frame]
    exact State.onlyFiled_of_links rfl
  · rw [not_or, not_not, not_not] at h
    obtain ⟨frame, filed, mode, queue⟩ := s.condMoved_select
    rw [State.updatedWork_free h.1, if_pos h.2]
    exact ⟨s.diskKept_select, mode, by rw [queue], filed, frame⟩

end

/-- Settles O38: the queue rebuilt, the disk's life counted, then the work of the state. -/
theorem condMapUpdated : Obligations.CondMapUpdated := by
  intro e s v h
  obtain ⟨rest, hv⟩ := State.told_events h
  have row : exec .condMapUpdated s = .next (v.rebuild.countDiskLife e.diskCut).updatedWork :=
    exec_told (e := .condMapUpdated e) h
  refine ⟨_, row, ?_⟩
  intro queue life spent counted noted
  have taken : v.rebuild.countDiskLife e.diskCut = noted := by
    rw [State.countDiskLife_eq, State.rebuild_eq]
    subst hv
    rfl
  rw [taken]
  have rises : s.cond.spent = false → spent = true → noted = State.file .s .diskSpent { v with cond := counted } :=
    fun h1 h2 => if_pos ⟨h1, h2⟩
  obtain ⟨links, hn, filed⟩ : ∃ links, noted = { v with cond := counted, links := links } ∧ v.onlyFiled noted := by
    by_cases hr : s.cond.spent = false ∧ spent = true
    · have hn : noted = _ := if_pos hr
      rw [hn]
      exact ⟨_, rfl, (State.onlyFiled_of_links rfl : v.onlyFiled { v with cond := counted }).trans
        (State.onlyFiled_file _ _ _)⟩
    · have hn : noted = _ := if_neg hr
      rw [hn]
      exact ⟨_, rfl, State.onlyFiled_of_links rfl⟩
  have cond : noted.cond = counted := by rw [hn]
  have state : noted.cond.state = s.cond.state := by rw [cond]
  have mode : noted.cond.mode = s.cond.mode := by rw [cond]
  have hub : noted.hub = s.hub := by rw [hn, hv]
  obtain ⟨disk, kept, order, workFiled, frame⟩ := noted.updatedWork_kept
  have own : s.cond.state ∉ [.parked, .waitHub, .waitClear] ∨ s.cond.mode ≠ .map → noted.updatedWork.hub = s.hub ∧
      noted.updatedWork.links = noted.links ∧ noted.updatedWork.events = v.events := fun h => by
    have work := State.ownWork_updatedWork (s := noted) (by rw [state, mode]; exact h)
    rw [work.frame]
    exact ⟨hub, rfl, by rw [hn]⟩
  refine ⟨?_, filed.trans workFiled, own, disk.life.trans (by rw [cond]), disk.spent.trans (by rw [cond]), kept.trans mode,
    order.trans (by rw [cond]), fun h1 h2 => ?_, fun hs => ?_, fun hs => ⟨fun hm => ?_, fun hm hl => ?_⟩, fun hs => ⟨?_, ?_⟩,
    fun k hs ht => ?_⟩
  · refine frame.trans ?_
    rw [hn]
  · refine (workFiled.2 .s).2 _ ?_
    rw [rises h1 h2]
    exact (State.mem_file _ _ _ _ _).2 (.inl ⟨rfl, rfl⟩)
  · rw [State.updatedWork_none (by rw [state]; revert hs; cases s.cond.state <;> decide)]
    exact ⟨cond, hub⟩
  · rw [State.updatedWork_free (state ▸ hs), if_neg (mode ▸ hm)]
    exact ⟨cond, hub⟩
  · rw [State.updatedWork_free (state ▸ hs), if_pos (mode.trans hm)]
    exact State.selected_select (hub ▸ hl)
  · exact (own (.inl (by rw [hs]; decide))).1
  · rw [State.updatedWork_sweeping (state.trans hs)]
    have judged : noted.cond.spent = spent := by rw [cond]
    rw [judged]
    cases spent with
    | false => exact cond
    | true => exact congrArg (fun c : Conditioner => { c.enter .lifting with liftPurpose := some .returnToPark }) cond
  · intro gone blocked
    have target : noted.cond.target = some (.band k) := by rw [cond]; exact ht
    have entry : noted.hasEntry k = true ↔ ¬ gone := by
      rw [State.hasEntry_iff, cond, not_not]
    have under : noted.blocked k = true ↔ blocked := by
      rw [State.blocked_iff, hn, hv]
      rfl
    have limit : noted.settings.cond.dwellLimit = s.settings.cond.dwellLimit := by rw [hn, hv]
    have dwell : noted.cond.dwell = s.cond.dwell := by rw [cond]
    refine ⟨(own (.inl (by rw [hs]; decide))).1, fun h => ?_, fun hg hb hlt => ?_, fun hg hb hle => ?_⟩ <;>
      rw [State.updatedWork_dwelling (state.trans hs)]
    · rw [State.dwellTest_lifts target (h.imp (fun h => mt entry.1 (not_not_intro h)) under.2)]
      exact congrArg (fun c : Conditioner => { c.enter .lifting with liftPurpose := some .select }) cond
    · rw [State.dwellTest_stays target (entry.2 hg) (mt under.1 hb), if_neg (by rw [limit, dwell]; omega), cond]
    · rw [State.dwellTest_stays target (entry.2 hg) (mt under.1 hb), if_pos (by rw [limit, dwell]; omega), cond, limit]
      rfl

end Sys2Proof.Machine

namespace Sys2Proof.Machine
open Sys2Proof

/-! ### The need of the hub, and work with the grant (R108) -/

theorem State.needsHubTrue_holds (s : State) : s.needsHubTrue := by
  have inside : ∀ r : Nat, decide (r < s.condHubEdge) = true ↔
      (r : Int) - s.settings.tracker.condReach < (s.settings.tracker.hubSize * 2000 : Nat) := fun r => by
    rw [decide_eq_true_eq, State.condHubEdge]
    omega
  exact ⟨fun k => inside _, inside _, inside _, rfl⟩

/-- Work begins with a turn to the state of its target. -/
theorem State.beginWork_turned (s : State) : s.beginWork = { s with cond := s.beginWork.cond } ∧ s.turned s.beginWork ∧
    s.beginWork.cond.state = (if s.cond.target = some .sweepResume then .lowering else .moving) ∧
    s.beginWork.cond.target = s.cond.target := by
  have work : s.beginWork = s.startMove (if s.cond.target = some .sweepResume then .lowering else .moving) := by
    unfold State.beginWork
    split
    · exact State.condEnter_eq_startMove (by decide) s
    · rfl
  obtain ⟨state, target, turned⟩ := State.turned_startMove (s := s) (v := s) (x := s.cond.target) rfl
    (if s.cond.target = some .sweepResume then .lowering else .moving)
  rw [← work] at state target turned
  refine ⟨?_, turned, state, target⟩
  rw [work]
  exact (State.startSettle_eq _).trans rfl

/-- A grant that is not waited for is given back (R108). -/
theorem State.grantGivenBack (s : State) :
    (s.hub.holder = some .cond → (s.releaseHub .cond).2 = if (s.arm .cond).inside then s else s.endGrant) ∧
    (s.hub.holder ≠ some .cond → (s.releaseHub .cond).2 =
      { s with hub := { s.hub with waitList := s.hub.waitList.filter fun x => decide (x ≠ Arm.cond) } }) := by
  unfold State.releaseHub
  refine ⟨fun h => ?_, fun h => ?_⟩
  · rw [if_pos h]
    split <;> rfl
  · rw [if_neg h]
    split
    · rfl
    · next hw => rw [filter_ne_of_not_mem hw]

/-- The conditioner's claim anew with the hub lost: it goes on with the hub, or does otherwise while the claim waits (R108). -/
theorem State.reclaim_cases {go other : State → State} {s : State} (hl : s.hub.lawful) (hr : (s.arm .cond).referenced = true) :
    ∃ v : State, v = { s with hub := v.hub, events := v.events } ∧ s.claimed v ∧
      (s.hub.holder = none ∨ s.hub.holder = some .cond → s.reclaim go other = go v) ∧
      (¬ (s.hub.holder = none ∨ s.hub.holder = some .cond) → s.reclaim go other = other v) := by
  obtain ⟨holds, claimed⟩ := State.condClaim_cases hl hr
  refine ⟨(s.dropGrant.claimHub .cond).2, ?_, claimed _ rfl (by simp) ((State.claimHub_events _ _).trans rfl), fun h => if_pos (holds.2 h),
    fun h => if_neg (mt holds.1 h)⟩
  unfold State.claimHub
  (repeat' split) <;> rfl

/-- With the claim taken the conditioner holds the hub that was free or its own. -/
theorem State.claimed.holds {s t : State} (h : s.claimed t) (hh : s.hub.holder = none ∨ s.hub.holder = some .cond) :
    t.hub.holder = some .cond := by
  obtain ⟨-, -, held, free, -⟩ := h
  rcases hh with hh | hh
  · rw [free hh]
  · rw [held hh, hh]

/-- Behind another holder the claim waits. -/
theorem State.claimed.waits {s t : State} (h : s.claimed t) {y : Arm} (hh : s.hub.holder = some y) (hy : y ≠ .cond) :
    t.hub.holder = some y ∧ .cond ∈ t.hub.waitList := by
  obtain ⟨-, -, -, -, busy⟩ := h
  rw [busy (hh ▸ nofun) fun h => hy (Option.some.inj (hh.symm.trans h))]
  refine ⟨hh, ?_⟩
  show Arm.cond ∈ if .cond ∈ s.hub.waitList then s.hub.waitList else s.hub.waitList ++ [.cond]
  split
  · assumption
  · exact List.mem_append_right _ List.mem_cons_self

/-- A turn of the record leaves the claim as it is. -/
theorem State.claimed.congr {s t u : State} (h : s.claimed t) (hub : u.hub = t.hub) (links : u.links = t.links)
    (events : u.events = t.events) : s.claimed u := by
  unfold State.claimed
  rw [hub, links, events]
  exact h

/-- What the loss of a grant makes of a conditioner that needs the hub: it goes on with the grant it gets anew, and behind
another holder it turns to the record `waits` while its claim waits (R108). -/
theorem State.reclaim_lost {f : Conditioner → Conditioner} {s : State} (hl : s.hub.lawful)
    (hr : (s.arm .cond).referenced = true) :
    let t := s.reclaim id (·.modCond f)
    t = { s with cond := t.cond, hub := t.hub, events := t.events } ∧ s.claimed t ∧
      (s.hub.holder = none ∨ s.hub.holder = some .cond → t.hub.holder = some .cond ∧ t.cond = s.cond) ∧
      (∀ y, s.hub.holder = some y → y ≠ .cond → t.hub.holder = some y ∧ .cond ∈ t.hub.waitList ∧ t.cond = f s.cond) := by
  intro t
  obtain ⟨v, frame, claimed, goes, waits⟩ := State.reclaim_cases (go := id) (other := (·.modCond f)) hl hr
  have cond : v.cond = s.cond := by rw [frame]
  by_cases hh : s.hub.holder = none ∨ s.hub.holder = some .cond
  · have ht : t = v := goes hh
    rw [ht]
    refine ⟨?_, claimed, fun h => ⟨claimed.holds h, cond⟩, fun y hy hne => ?_⟩
    · rw [cond]
      exact frame
    · rcases hh with h | h
      · exact nomatch h.symm.trans hy
      · exact absurd (Option.some.inj (hy.symm.trans h)) hne
  · have ht : t = v.modCond f := waits hh
    rw [ht]
    refine ⟨?_, claimed.congr rfl rfl rfl, fun h => absurd h hh, fun y hy hne => ?_⟩
    · exact congrArg (fun u : State => { u with cond := f v.cond, hub := v.hub, events := v.events }) frame
    · obtain ⟨holder, waiting⟩ := claimed.waits hy hne
      exact ⟨holder, waiting, congrArg f cond⟩

/-! ### Each told event by the state it finds (R108, R115 to R117) -/

section
variable {s : State}

theorem State.condGrant_waitHub (h : s.cond.state = .waitHub) : s.condGrant = s.beginWork := by
  unfold State.condGrant
  rw [h]

theorem State.condGrant_kept (h : s.cond.state ∈ [.halted, .fault] ∨
    (s.cond.state = .lifting ∧ s.cond.liftPurpose = some .waitHub)) : s.condGrant = s := by
  simp only [List.mem_cons, List.not_mem_nil, or_false] at h
  unfold State.condGrant
  rcases h with (h | h) | ⟨h, hp⟩ <;> rw [h]
  exact if_pos hp

theorem State.condGrant_back (h : s.cond.state ∉ [.waitHub, .halted, .fault])
    (hp : s.cond.state = .lifting → s.cond.liftPurpose ≠ some .waitHub) : s.condGrant = (s.releaseHub .cond).2 := by
  simp only [List.mem_cons, List.not_mem_nil, or_false, not_or] at h
  obtain ⟨waitHub, halted, fault⟩ := h
  unfold State.condGrant
  split
  · next h => exact absurd h waitHub
  · next h => exact absurd h halted
  · next h => exact absurd h fault
  · next h => exact if_neg (hp h)
  · rfl

theorem State.condGrantLost_none (h : s.cond.state ∉ [.moving, .lowering, .sweeping]) : s.condGrantLost = s := by
  simp only [List.mem_cons, List.not_mem_nil, or_false, not_or] at h
  obtain ⟨moving, lowering, sweeping⟩ := h
  unfold State.condGrantLost
  split
  · next h => exact absurd h moving
  · next h => exact absurd h lowering
  · next h => exact absurd h sweeping
  · rfl

theorem State.condGrantLost_moving (h : s.cond.state = .moving) : s.condGrantLost =
    if (s.cond.target.map s.needsHub).getD false then s.reclaim id (·.condEnter .waitHub) else s := by
  unfold State.condGrantLost
  rw [h]

theorem State.condGrantLost_lowering (h : s.cond.state = .lowering) : s.condGrantLost =
    if s.cond.target = some .sweepResume ∧ s.needsHub .sweepStart = true then s.reclaim id (·.startLift .waitHub)
    else s := by
  unfold State.condGrantLost
  rw [h]

theorem State.condGrantLost_sweeping (h : s.cond.state = .sweeping) : s.condGrantLost =
    if s.cond.sweepDir = some .inward ∧ s.needsHub .sweepStart = true then s.startStroke .outward else s := by
  unfold State.condGrantLost
  rw [h]

theorem State.condTripHalt_down (h : s.cond.state ∈ [.lowering, .dwelling, .sweeping]) : s.condTripHalt = { s with cond :=
    { s.cond.enter .lifting with dfCommand := 0, clearNoted := false, liftPurpose := some .halt } } := by
  simp only [List.mem_cons, List.not_mem_nil, or_false] at h
  unfold State.condTripHalt
  rcases h with h | h | h <;> rw [h] <;> rfl

theorem State.condTripHalt_up (h : s.cond.state ∈ [.parked, .waitHub, .waitClear, .moving, .returning]) :
    s.condTripHalt = s.condEnter .halted := by
  simp only [List.mem_cons, List.not_mem_nil, or_false] at h
  unfold State.condTripHalt
  rcases h with h | h | h | h | h <;> rw [h]

theorem State.condTripHalt_lifting (h : s.cond.state = .lifting) : s.condTripHalt = { s with cond :=
    { s.cond with dfCommand := 0, clearNoted := false, liftPurpose := some .halt } } := by
  unfold State.condTripHalt
  rw [h]
  rfl

theorem State.condTripHalt_homing (h : s.cond.state = .homing) : s.condTripHalt = s.condEnter .unreferenced := by
  unfold State.condTripHalt
  rw [h]

theorem State.condTripHalt_none (h : s.cond.state ∈ [.unreferenced, .fault, .halted]) : s.condTripHalt = s := by
  simp only [List.mem_cons, List.not_mem_nil, or_false] at h
  unfold State.condTripHalt
  rcases h with h | h | h <;> rw [h]

theorem State.condTripClear_none (h : s.cond.state ∉ [.halted, .unreferenced, .lifting]) : s.condTripClear = s := by
  simp only [List.mem_cons, List.not_mem_nil, or_false, not_or] at h
  obtain ⟨halted, unreferenced, lifting⟩ := h
  unfold State.condTripClear
  split
  · next h => exact absurd h halted
  · next h => exact absurd h unreferenced
  · next h => exact absurd h lifting
  · rfl

theorem State.condTripClear_unreferenced (h : s.cond.state = .unreferenced) :
    s.condTripClear = if s.cond.mode = .off then s else s.beginHoming := by
  unfold State.condTripClear
  rw [h]

theorem State.condTripClear_lifting (h : s.cond.state = .lifting) : s.condTripClear =
    if s.cond.liftPurpose = some .halt then { s with cond := { s.cond with clearNoted := true } } else s := by
  unfold State.condTripClear
  rw [h]
  rfl

theorem State.condTripClear_halted (h : s.cond.state = .halted) : s.condTripClear = s.returnToPark := by
  unfold State.condTripClear
  rw [h]

end

/-- A stroke begins with its direction, and the settle timer where the steps are at their end (log 40). -/
theorem State.startStroke_stroke (d : SweepDir) (s : State) : s.stroke d (s.startStroke d) ∧
    s.startStroke d = { s with cond := (s.startStroke d).cond } := by
  set v := s.modCond fun c => { c.enter .sweeping with sweepDir := some d } with hv
  have cond : (s.startStroke d).cond = _ := v.startSettle_cond
  have radius : (s.startStroke d).strokeRadius = v.strokeRadius := v.startSettle_strokeRadius
  refine ⟨?_, v.startSettle_eq⟩
  rw [State.stroke, State.settleFrom, radius, cond]
  rfl

theorem condGrant_told {s u : State} (h : s.told Event.grantTold .condGrant u) :
    exec .condGrant s = .next u.condGrant := exec_told (e := .condGrant) h

theorem condGrantLost_told {s u : State} (h : s.told Event.grantTold .condGrantLost u) :
    exec .condGrantLost s = .next u.condGrantLost := exec_told (e := .condGrantLost) h

theorem condTripHalt_told {s u : State} (h : s.told Event.tripTold .condTripHalt u) :
    exec .condTripHalt s = .next u.condTripHalt := exec_told (e := .condTripHalt) h

theorem condTripClear_told {s u : State} (h : s.told Event.tripTold .condTripClear u) :
    exec .condTripClear s = .next u.condTripClear := exec_told (e := .condTripClear) h

/-- Settles O39: each told event by the state of the conditioner that takes it. -/
theorem condTold : Obligations.CondTold := by
  intro s u
  refine ⟨s.needsHubTrue_holds, fun h => ?_, fun h => ?_, fun h => ?_, fun h => ?_⟩
  · rw [condGrant_told h]
    obtain ⟨rest, rfl⟩ := State.told_events h
    refine ⟨fun hs => ?_, fun hs => congrArg _ (State.condGrant_kept hs), fun hs hp => ?_⟩
    · rw [State.condGrant_waitHub (s := { s with events := rest }) hs]
      obtain ⟨frame, turned, state, target⟩ := State.beginWork_turned { s with events := rest }
      exact ⟨_, rfl, frame, turned, state, target⟩
    · rw [State.condGrant_back (s := { s with events := rest }) hs hp]
      obtain ⟨holder, other⟩ := State.grantGivenBack { s with events := rest }
      exact ⟨fun hh => congrArg _ (holder hh), fun hh => congrArg _ (other hh)⟩
  · rw [condGrantLost_told h]
    obtain ⟨rest, rfl⟩ := State.told_events h
    set u : State := { s with events := rest } with hu
    have moving := State.condGrantLost_moving (s := u)
    have lowering := State.condGrantLost_lowering (s := u)
    have sweeping := State.condGrantLost_sweeping (s := u)
    refine ⟨fun hs => congrArg _ (State.condGrantLost_none (s := u) hs), fun hs hx => ?_, fun hs hx => ?_, fun hs hx => ?_,
      fun x hs ht hn hl hr => ⟨_, rfl, ?_⟩, fun hs ht hn hl hr => ⟨_, rfl, ?_⟩, fun hs hd hn => ⟨_, rfl, ?_⟩⟩
    · rw [moving hs, if_neg]
      cases ht : u.cond.target with
      | none => exact nofun
      | some x => exact fun h => Bool.false_ne_true ((hx x ht).symm.trans h)
    · rw [lowering hs, if_neg]
      exact fun ⟨ht, hn⟩ => hx.elim (fun h => h ht) fun h => Bool.false_ne_true (h.symm.trans hn)
    · rw [sweeping hs, if_neg]
      exact fun ⟨hd, hn⟩ => hx.elim (fun h => h hd) fun h => Bool.false_ne_true (h.symm.trans hn)
    · rw [moving hs, if_pos (by rw [show u.cond.target = some x from ht]; exact hn)]
      exact State.reclaim_lost (s := u) hl hr
    · rw [lowering hs, if_pos ⟨ht, hn⟩]
      exact State.reclaim_lost (s := u) hl hr
    · rw [sweeping hs, if_pos ⟨hd, hn⟩]
      exact (u.startStroke_stroke .outward).symm
  · rw [condTripHalt_told h]
    obtain ⟨rest, rfl⟩ := State.told_events h
    exact ⟨fun hs => congrArg _ (State.condTripHalt_down hs), fun hs => congrArg _ (State.condTripHalt_lifting hs),
      fun hs => congrArg _ (State.condTripHalt_up hs), fun hs => congrArg _ (State.condTripHalt_homing hs),
      fun hs => congrArg _ (State.condTripHalt_none hs)⟩
  · rw [condTripClear_told h]
    obtain ⟨rest, rfl⟩ := State.told_events h
    set u : State := { s with events := rest } with hu
    have unreferenced := State.condTripClear_unreferenced (s := u)
    have lifting := State.condTripClear_lifting (s := u)
    refine ⟨fun hs => ⟨_, rfl, ?_⟩, fun hs hm => ?_, fun hs hm => ?_, fun hs hp => ?_, fun hs hp => ?_,
      fun hs => congrArg _ (State.condTripClear_none (s := u) hs)⟩
    · rw [State.condTripClear_halted (s := u) hs]
      obtain ⟨state, target, -⟩ := u.returnToPark_turned
      obtain ⟨frame, filed, -, -⟩ := u.condMoved_returnToPark
      exact ⟨state, target, filed, fun hl => State.returned_returnToPark hl, frame⟩
    · rw [unreferenced hs, if_neg hm]
      rfl
    · rw [unreferenced hs, if_pos hm]
    · rw [lifting hs, if_pos hp]
    · rw [lifting hs, if_neg hp]

end Sys2Proof.Machine

/-!
The conditioner's arm and its faults: the radius it is stepped to, steps, homing steps, arrivals, and the faults by its
timers (O40, O41).
-/

namespace Sys2Proof.Machine
open Sys2Proof

/-! ### The radius of a stroke (R110, R115) -/

section
variable {s : State}

theorem State.strokeRadius_move (h : s.cond.state = .moving ∨ s.cond.state = .returning) :
    s.strokeRadius = s.cond.target.map s.targetRadius := by
  unfold State.strokeRadius
  rcases h with h | h <;> rw [h]

theorem State.strokeRadius_sweep (h : s.cond.state = .sweeping) : s.strokeRadius = s.cond.sweepDir.map fun d =>
    if d = .outward then s.settings.cond.sweepOuter else s.settings.cond.sweepInner := by
  unfold State.strokeRadius
  rw [h]
  refine congrArg (Option.map · _) (funext fun d => ?_)
  cases d <;> rfl

theorem State.strokeRadius_none (h : s.cond.state ∉ [.moving, .returning, .sweeping]) : s.strokeRadius = none := by
  unfold State.strokeRadius
  cases hs : s.cond.state with
  | moving | returning | sweeping => exact absurd (by rw [hs]; decide) h
  | _ => rfl

/-- The arm is stepped to a radius in three states alone, all of them followed (R118). -/
theorem State.state_of_strokeRadius {r : Nat} (h : s.strokeRadius = some r) :
    s.cond.state ∈ [.moving, .returning, .sweeping] := by
  by_contra hs
  exact nomatch (State.strokeRadius_none hs).symm.trans h

theorem State.arrivalDue_iff {r : Nat} (h : s.strokeRadius = some r) :
    s.arrivalDue = true ↔ ((s.arm .cond).count.toInt - r).natAbs ≤ 50 := by
  unfold State.arrivalDue
  rw [h]
  exact decide_eq_true_iff

/-! ### A step (R110) -/

theorem State.condStep_still (h : s.strokeRadius = none ∨
    ∃ r, s.strokeRadius = some r ∧ (s.arrivalDue = true ∨ s.cond.stepPos.toInt = r)) : s.condStep = s := by
  unfold State.condStep
  rcases h with h | ⟨r, h, still⟩ <;> rw [h]
  exact if_pos still

/-- A step counts, starts the settle timer at the radius, and is checked (R110, R118). -/
theorem State.condStep_steps {r : Nat} (h : s.strokeRadius = some r) (away : ¬ s.arrivalDue = true)
    (moves : s.cond.stepPos.toInt ≠ r) :
    let next := if s.cond.stepPos.toInt < r then s.cond.stepPos + 1 else s.cond.stepPos - 1
    s.condStep = State.followingCheck { s with cond := { s.cond with
      stepPos := next, settleTimer := if next.toInt = r then some 0 else s.cond.settleTimer } } := by
  intro next
  have stepped : s.stepArm (decide (s.cond.stepPos.toInt < r)) = { s with cond := { s.cond with stepPos := next } } := by
    unfold State.stepArm
    simp only [decide_eq_true_eq]
    rfl
  have radius : State.strokeRadius { s with cond := { s.cond with stepPos := next } } = some r := h
  unfold State.condStep
  simp only [h]
  rw [if_neg (not_or.2 ⟨away, moves⟩), stepped, State.startSettle_eq, State.startSettle_cond, radius]

end

/-! ### Arrivals (R109, R110, R115) -/

section
variable {s : State}

theorem State.moveArrival_none (h : ¬ s.arrivalDue = true) : s.moveArrival = s := if_neg h

theorem State.moveArrival_due (h : s.arrivalDue = true) :
    (s.cond.state = .moving → s.moveArrival = s.condEnter .lowering) ∧
    (s.cond.state = .returning → s.moveArrival = s.enterParked) ∧
    (∀ d, s.cond.state = .sweeping → s.cond.sweepDir = some d → s.moveArrival = s.strokeEnd d) := by
  unfold State.moveArrival
  rw [if_pos h]
  exact ⟨fun hs => by rw [hs], fun hs => by rw [hs], fun d hs hd => by rw [hs, hd]⟩

/-- The conditioner parks on its return: the hub given up, the motor stopped, then the mode acts (R109, R110). -/
theorem State.enterParked_returned {x : CondTarget} (ht : s.cond.target = some x) :
    ∃ w : State, w = { s with
        cond := { s.cond.enter .parked with target := none }, hub := w.hub, links := w.links, events := w.events } ∧
      s.onlyFiled s.enterParked ∧ (s.hub.lawful → s.gaveUp w ∧ w.modeActed s.enterParked) ∧
      (s.cond.mode = .off → s.enterParked = w) ∧
      s.enterParked = { s with
        cond := s.enterParked.cond, hub := s.enterParked.hub, links := s.enterParked.links,
        events := s.enterParked.events } := by
  have parked := s.parked_eq
  have acted := (s.dropTarget.condEnter .parked).condMoved_actOnMode
  have frame : s.dropTarget.condEnter .parked = { s with
      cond := { s.cond.enter .parked with target := none }, hub := (s.dropTarget.condEnter .parked).hub,
      links := (s.dropTarget.condEnter .parked).links, events := (s.dropTarget.condEnter .parked).events } := by
    rw [parked]
  rw [State.enterParked_eq]
  refine ⟨s.dropTarget.condEnter .parked, frame, s.onlyFiled_parked.trans acted.filed, fun hl => ⟨?_, ?_⟩, fun hm => ?_, ?_⟩
  · exact State.gaveUp_parked (c := s.cond) hl (ht ▸ nofun)
  · exact State.modeActed_actOnMode (State.parked_lawful hl)
  · exact State.actOnMode_off (by rw [parked]; exact hm)
  · exact acted.frame.trans (congrArg (fun u : State => { u with
      cond := (s.dropTarget.condEnter .parked).actOnMode.cond, hub := (s.dropTarget.condEnter .parked).actOnMode.hub,
      links := (s.dropTarget.condEnter .parked).actOnMode.links,
      events := (s.dropTarget.condEnter .parked).actOnMode.events }) frame)

/-- A claim leaves all but the hub and the grant event it overtakes. -/
theorem State.condClaim_frame (s : State) : (s.dropGrant.claimHub .cond).2 =
    { s with hub := (s.dropGrant.claimHub .cond).2.hub, events := (s.dropGrant.claimHub .cond).2.events } := by
  unfold State.claimHub
  (repeat' split) <;> rfl

/-- A change of the record alone, after a change of the hub and the events alone. -/
theorem State.frame_of_cond {v u : State} (hv : v = { s with hub := v.hub, events := v.events })
    (hu : u = { v with cond := u.cond }) : u = { s with cond := u.cond, hub := u.hub, events := u.events } := by
  have hub : u.hub = v.hub := by rw [hu]
  have events : u.events = v.events := by rw [hu]
  rw [hub, events]
  exact hu.trans (congrArg (fun w : State => { w with cond := u.cond }) hv)

/-- A stroke's end leaves all but the record, the hub and the grant event that a claim overtakes. -/
theorem State.strokeEnd_frame (d : SweepDir) (s : State) : s.strokeEnd d =
    { s with cond := (s.strokeEnd d).cond, hub := (s.strokeEnd d).hub, events := (s.strokeEnd d).events } := by
  have strokes (x : SweepDir) (v : State) (hv : v = { s with hub := v.hub, events := v.events }) :=
    State.frame_of_cond hv (v.startStroke_stroke x).2
  unfold State.strokeEnd State.reclaim
  simp only
  (repeat' split)
  · exact strokes _ s rfl
  · exact strokes _ _ s.condClaim_frame
  · exact State.frame_of_cond s.condClaim_frame rfl
  · exact strokes _ s rfl

/-- At a sweep's outer end with the hub needed and lost, the conditioner claims it: with the grant it sweeps inward, and
behind another holder it lifts the disk to wait (R115). -/
theorem State.strokeEnd_claims (hn : s.needsHub .sweepStart = true) (hl : s.hub.lawful)
    (hr : (s.arm .cond).referenced = true) (hh : s.hub.holder ≠ some .cond) :
    s.claimed (s.strokeEnd .outward) ∧ (s.hub.holder = none → s.stroke .inward (s.strokeEnd .outward)) ∧
      (∀ l : Lane, s.hub.holder = some l.arm →
        (s.strokeEnd .outward).cond = { s.cond.enter .lifting with liftPurpose := some .waitHub }) := by
  obtain ⟨v, frame, claimed, goes, waits⟩ := State.reclaim_cases (go := (·.startStroke .inward))
    (other := (·.startLift .waitHub)) hl hr
  have ends : s.strokeEnd .outward = s.reclaim (·.startStroke .inward) (·.startLift .waitHub) := if_pos ⟨hn, hh⟩
  have cond : v.cond = s.cond := by rw [frame]
  rw [ends]
  by_cases free : s.hub.holder = none
  · rw [goes (.inl free)]
    obtain ⟨stroke, own⟩ := v.startStroke_stroke .inward
    refine ⟨claimed.congr (by rw [own]) (by rw [own]) (by rw [own]), fun _ => ?_, fun l h => nomatch free.symm.trans h⟩
    rw [State.stroke] at stroke ⊢
    rw [stroke, cond]
  · rw [waits (not_or.2 ⟨free, hh⟩)]
    refine ⟨claimed.congr rfl rfl rfl, fun h => absurd h free, fun _ _ => ?_⟩
    exact congrArg (fun c : Conditioner => { c.enter .lifting with liftPurpose := some .waitHub }) cond

end

theorem exec_condStep {s₀ s : State} (hs : s₀.settled = s) : exec .condStep s₀ = .next s.condStep := by
  rw [← hs]
  rfl

theorem exec_homingStep {s₀ s : State} (hs : s₀.settled = s) (b : Bool) :
    exec (.homingStep b) s₀ = .next (s.homingStep b) := by
  rw [← hs]
  rfl

/-- Settles O40: a step, a homing step and an arrival by the state that the arm is in. -/
theorem condMotion : Obligations.CondMotion := by
  intro r s count arrived next settle
  have due : s.strokeRadius = some r → (s.arrivalDue = true ↔ arrived) := State.arrivalDue_iff
  refine ⟨s.needsHubTrue_holds, fun h => ?_, State.strokeRadius_sweep, State.strokeRadius_none, fun s₀ hs => ⟨fun hr ha hm hf => ?_,
    fun hr ha hm hf => ?_, fun hr h => ?_, fun h => ?_, fun active => ⟨fun h => ?_, fun h => ?_⟩⟩, fun h => ?_, fun hr ha => ?_,
    fun hr ha => ?_⟩
  · rw [State.strokeRadius_move h]
    refine congrArg (Option.map · _) (funext fun x => ?_)
    cases x <;> rfl
  · rw [exec_condStep hs, State.condStep_steps hr (mt (due hr).1 ha) hm, State.followingCheck_eq]
    exact congrArg _ (if_neg fun h => absurd h.2 (Nat.not_lt.2 hf))
  · rw [exec_condStep hs, State.condStep_steps hr (mt (due hr).1 ha) hm, State.followingCheck_eq]
    have followed : s.cond.state ∉ [.unreferenced, .homing, .fault] := by
      have := State.state_of_strokeRadius hr
      revert this
      cases s.cond.state <;> decide
    exact congrArg _ (if_pos ⟨followed, hf⟩)
  · rw [exec_condStep hs, State.condStep_still (.inr ⟨r, hr, h.imp_left (due hr).2⟩)]
  · rw [exec_condStep hs, State.condStep_still (.inl h)]
  · rw [exec_homingStep hs, State.homingStep, if_pos h]
    cases active <;> rfl
  · rw [exec_homingStep hs, State.homingStep, if_neg h]
  · refine congrArg _ (State.moveArrival_none ?_)
    unfold State.arrivalDue
    rw [h]
    exact nofun
  · exact congrArg _ (State.moveArrival_none (mt (due hr).1 ha))
  · obtain ⟨moving, returning, sweeping⟩ := State.moveArrival_due ((due hr).2 ha)
    refine ⟨fun h => congrArg _ (moving h), fun h => ?_, fun h => ?_⟩
    · obtain ⟨x, ht, -⟩ := Option.map_eq_some_iff.1 ((State.strokeRadius_move (.inr h)).symm.trans hr)
      obtain ⟨w, frame, filed, hub, off, whole⟩ := State.enterParked_returned ht
      exact ⟨w, s.enterParked, congrArg _ (returning h), frame, filed, hub, off, whole⟩
    · obtain ⟨d, hd, -⟩ := Option.map_eq_some_iff.1 ((State.strokeRadius_sweep h).symm.trans hr)
      have strokes : ∀ x, s.strokeEnd d = s.startStroke x → s.stroke x (s.strokeEnd d) ∧ (s.strokeEnd d).hub = s.hub ∧
          (s.strokeEnd d).events = s.events := fun x hx => by
        rw [hx]
        obtain ⟨stroke, own⟩ := s.startStroke_stroke x
        exact ⟨stroke, by rw [own], by rw [own]⟩
      refine ⟨s.strokeEnd d, congrArg _ (sweeping d h hd), State.strokeEnd_frame d s, fun k => ?_, fun k free => ?_,
        fun k hn hl href hh => ?_⟩ <;> obtain rfl := Option.some.inj (hd.symm.trans k)
      · exact strokes .outward rfl
      · refine strokes .inward (if_neg fun h => ?_)
        exact free.elim (fun hn => Bool.false_ne_true (hn.symm.trans h.1)) h.2
      · exact State.strokeEnd_claims hn hl href hh

/-! ### Faults by the timers (R118, R119) -/

/-- Settles O41: each timer's fault where it runs, and none in FAULT. -/
theorem condFaults : Obligations.CondFaults := by
  intro s₀ s hs
  have row : exec .settleTimeout s₀ = .next s.settleTimeout ∧ exec .liftTimeout s₀ = .next s.liftTimeout ∧
      exec .homingTimeout s₀ = .next s.homingTimeout ∧ exec .downforceFault s₀ = .next s.downforceFault := by
    rw [← hs]
    exact ⟨rfl, rfl, rfl, rfl⟩
  obtain ⟨settle, lift, homing, downforce⟩ := row
  rw [settle, lift, homing, downforce, exec_condStep hs]
  refine ⟨fun r hr far run => ?_, fun h run => ?_, fun h => ?_, fun h run => ?_, fun h => ?_⟩
  · have away : s.arrivalDue = false := by
      rw [← Bool.not_eq_true, State.arrivalDue_iff hr]
      exact Nat.not_le.2 far
    exact congrArg _ (if_pos ⟨by rw [hr]; rfl, run, away⟩)
  · exact congrArg _ (if_pos ⟨h, run⟩)
  · exact congrArg _ (if_pos h)
  · exact congrArg _ (if_pos ⟨h, run⟩)
  · have still : s.strokeRadius = none := State.strokeRadius_none (by rw [h]; decide)
    unfold State.settleTimeout State.liftTimeout State.homingTimeout State.downforceFault
    rw [State.condStep_still (.inl still), still, h]
    exact ⟨congrArg _ (if_neg fun k => Bool.false_ne_true k.1), congrArg _ (if_neg fun k => CondState.noConfusion k.1),
      congrArg _ (if_neg (CondState.noConfusion ·)), congrArg _ (if_neg fun k => k.1 rfl), rfl⟩

end Sys2Proof.Machine

/-!
Slurry delivery: a line's or a bar's record put and every flow recomputed, the requests that do so, and what a flow meter's
pulse, a stop timeout and a window's end make of the lines (O43, O44, O45).
-/

namespace Sys2Proof.Machine
open Sys2Proof

/-! ### One record put, and the recompute (R128, R137 to R139) -/

/-- From `s` to `t` the record of line `k` becomes what `f` makes of it and every flow is derived again; nothing else
moves. -/
structure State.lineChanged (s : State) (k : Line) (f : SupplyLine → SupplyLine) (t : State) : Prop where
  frame : t = { s with slurry := t.slurry }
  flows : t.slurry.flowsTrue s.settings.slurry
  windowMs : t.slurry.windowMs = s.slurry.windowMs
  self : State.lineKept (s.modLine k f) t k
  other : ∀ j, j ≠ k → s.lineKept t j
  bars : ∀ l, s.barKept t l ∧ s.rateKept t l

theorem State.lineChanged_recompute (k : Line) (f : SupplyLine → SupplyLine) (s : State) :
    s.lineChanged k f (s.modLine k f).recompute where
  frame := rfl
  flows := (s.modLine k f).recompute_flowsTrue
  windowMs := rfl
  self := (s.modLine k f).lineKept_recompute k
  other j hj := ((s.modLine k f).lineKept_recompute j).congr (by rw [State.modLine_line, if_neg hj]) rfl
  bars l := ⟨(s.modLine k f).barKept_recompute l, (s.modLine k f).rateKept_recompute l⟩

/-- From `s` to `t` the record of the bar of `l` becomes what `f` makes of it and every flow is derived again; nothing else
moves. -/
structure State.barChanged (s : State) (l : Lane) (f : Bar → Bar) (t : State) : Prop where
  frame : t = { s with slurry := t.slurry }
  flows : t.slurry.flowsTrue s.settings.slurry
  windowMs : t.slurry.windowMs = s.slurry.windowMs
  self : t.bar l = { f (s.bar l) with outlets := (t.bar l).outlets }
  other : ∀ x, x ≠ l → s.barKept t x ∧ s.rateKept t x
  lines : ∀ k, s.lineKept t k

theorem State.barChanged_recompute (l : Lane) (f : Bar → Bar) (s : State) :
    s.barChanged l f (s.modBar l f).recompute where
  frame := rfl
  flows := (s.modBar l f).recompute_flowsTrue
  windowMs := rfl
  self := by
    rw [State.recompute_bar, ← State.modBar_bar_self l f s]
    rfl
  other x hx := by
    have bar : (s.modBar l f).bar x = s.bar x := by rw [State.modBar_bar, if_neg hx]
    obtain ⟨feed, fallback, resume⟩ := (s.modBar l f).barKept_recompute x
    obtain ⟨rate, weights⟩ := (s.modBar l f).rateKept_recompute x
    rw [bar] at feed fallback resume rate weights
    exact ⟨⟨feed, fallback, resume⟩, rate, weights⟩
  lines k := (s.modBar l f).lineKept_recompute k

section
variable {s t : State} {l : Lane} {f : Bar → Bar} (h : s.barChanged l f t)
include h

/-- A change that leaves a bar's rate and weights leaves every bar's. -/
theorem State.barChanged.rateKept (rate : (f (s.bar l)).rate = (s.bar l).rate)
    (weights : (f (s.bar l)).weights = (s.bar l).weights) (x : Lane) : s.rateKept t x := by
  by_cases hx : x = l
  · subst hx
    unfold State.rateKept
    rw [h.self]
    exact ⟨rate, weights⟩
  · exact (h.other x hx).2

/-- A change that leaves a bar's feed, flag and record leaves every bar's. -/
theorem State.barChanged.barKept (feed : (f (s.bar l)).feed = (s.bar l).feed)
    (fallback : (f (s.bar l)).fallback = (s.bar l).fallback) (resume : (f (s.bar l)).resume = (s.bar l).resume) (x : Lane) :
    s.barKept t x := by
  by_cases hx : x = l
  · subst hx
    unfold State.barKept
    rw [h.self]
    exact ⟨feed, fallback, resume⟩
  · exact (h.other x hx).1

end

theorem State.lineKept.state {s t : State} {k : Line} (h : s.lineKept t k) : (t.line k).state = (s.line k).state := by
  rw [h.1]

/-! ### LINE START, LINE RESTART and LINE STOP (R125 to R127) -/

theorem feedOfCode_above {n : Nat} (h : 3 < n) : feedOfCode n = none := by
  obtain ⟨m, rfl⟩ := Nat.exists_eq_add_of_le' h
  rfl

theorem lineOfCode_none {n : Nat} (h : n = 0 ∨ 3 < n) : lineOfCode n = none := by
  rcases h with rfl | h
  · rfl
  · rw [lineOfCode, feedOfCode_above h]
    rfl

theorem decideLineStartFrom_range (st : LineState) {n : Nat} (s : State) (h : n = 0 ∨ 3 < n) :
    decideLineStartFrom st n s = refuse .range s := by
  rw [decideLineStartFrom, lineOfCode_none h]

theorem decideLineStop_range {n : Nat} (s : State) (h : n = 0 ∨ 3 < n) : decideLineStop n s = refuse .range s := by
  rw [decideLineStop, lineOfCode_none h]

section
variable {s : State} {k : Line}

theorem decideLineStartFrom_line (st : LineState) : decideLineStartFrom st (feedCode (some k)) s =
    if s.targetActive .slurryStop then refuse .held s
    else if (s.line k).state = st then s.startLine k
    else refuse .state s := by
  rw [decideLineStartFrom, lineOfCode_feedCode]

theorem State.startLine_unprimed (h : s.settings.slurry.primeCount.get k = 0) :
    s.startLine k = done (s.modLine k fun x => { x with state := .ready }).recompute := if_pos h

theorem State.startLine_primed (h : 0 < s.settings.slurry.primeCount.get k) : s.startLine k =
    { state := (s.modLine k fun x => { x with state := .priming, prime := 0, lastPulse := 0 }).recompute
      result := .accepted } := if_neg (Nat.ne_of_gt h)

theorem State.lineInUse_iff : s.lineInUse k = true ↔ ∃ l, (s.bar l).feed = some k := by
  rw [State.lineInUse, Bool.or_eq_true, decide_eq_true_iff, decide_eq_true_iff, Lane.exists_iff]

theorem decideLineStop_off (h : (s.line k).state = .off) : decideLineStop (feedCode (some k)) s = done s := by
  simp only [decideLineStop, lineOfCode_feedCode, h]

theorem decideLineStop_inUse (h : (s.line k).state = .priming ∨ (s.line k).state = .ready)
    (hf : ∃ l, (s.bar l).feed = some k) : decideLineStop (feedCode (some k)) s = refuse .inUse s := by
  rcases h with h | h <;> simp only [decideLineStop, lineOfCode_feedCode, h, if_pos (State.lineInUse_iff.2 hf)]

theorem decideLineStop_taken
    (h : (s.line k).state = .stopped ∨ ((s.line k).state ≠ .off ∧ ∀ l, (s.bar l).feed ≠ some k)) :
    decideLineStop (feedCode (some k)) s = done (s.modLine k SupplyLine.turnOff).recompute := by
  simp only [decideLineStop, lineOfCode_feedCode]
  rcases h with h | ⟨on, unfed⟩
  · rw [h]
  · have free : ¬ s.lineInUse k = true := fun hu => (State.lineInUse_iff.1 hu).elim unfed
    cases h : (s.line k).state with
    | off => exact absurd h on
    | stopped => rfl
    | priming | ready => exact if_neg free

end

/-- Settles O43: the refusals in their order, and an accepted request as one line's record put with every flow derived
again. -/
theorem lineRequests : Obligations.LineRequests := by
  intro k s₀ s hs code
  have start : ∀ {n : Nat} {t : State} {r : Result}, decideLineStartFrom .off n s = { state := t, result := r } →
      exec (.lineStart .s n) s₀ = .next (replied .s .lineStart r [] t) :=
    fun {n _ _} => exec_request_replied .s (.lineStart n) hs rfl rfl rfl
  have restart : ∀ {n : Nat} {t : State} {r : Result}, decideLineStartFrom .stopped n s = { state := t, result := r } →
      exec (.lineRestart .s n) s₀ = .next (replied .s .lineRestart r [] t) :=
    fun {n _ _} => exec_request_replied .s (.lineRestart n) hs rfl rfl rfl
  have stop : ∀ {n : Nat} {t : State} {r : Result}, decideLineStop n s = { state := t, result := r } →
      exec (.lineStop .s n) s₀ = .next (replied .s .lineStop r [] t) :=
    fun {n _ _} => exec_request_replied .s (.lineStop n) hs rfl rfl rfl
  refine ⟨fun n hn => ⟨start (decideLineStartFrom_range _ s hn), restart (decideLineStartFrom_range _ s hn),
    stop (decideLineStop_range s hn)⟩, fun held => ?held, fun free => ?free, fun off => stop (decideLineStop_off off),
    fun on fed => stop (decideLineStop_inUse on fed), fun h => ?stop⟩
  case held =>
    have refused : ∀ st, decideLineStartFrom st code s = refuse .held s := fun st =>
      (decideLineStartFrom_line st).trans (if_pos held)
    exact ⟨start (refused _), restart (refused _)⟩
  case free =>
    have decided : ∀ st, decideLineStartFrom st code s =
        if (s.line k).state = st then s.startLine k else refuse .state s := fun st =>
      (decideLineStartFrom_line st).trans (if_neg (Bool.eq_false_iff.1 free))
    have taken : ∀ {st : LineState}, (s.line k).state = st → decideLineStartFrom st code s = s.startLine k := fun h =>
      (decided _).trans (if_pos h)
    refine ⟨fun h => start ((decided _).trans (if_neg h)), fun h => restart ((decided _).trans (if_neg h)), ?_⟩
    rcases Nat.eq_zero_or_pos (s.settings.slurry.primeCount.get k) with zero | pos
    · have c := s.lineChanged_recompute k fun x => { x with state := .ready }
      have readied := State.startLine_unprimed zero
      exact ⟨_, c.frame, c.flows, c.windowMs, c.other, c.bars,
        fun _ => ⟨c.self, fun h => start ((taken h).trans readied), fun h => restart ((taken h).trans readied)⟩,
        fun pos => absurd zero (Nat.ne_of_gt pos)⟩
    · have c := s.lineChanged_recompute k fun x => { x with state := .priming, prime := 0, lastPulse := 0 }
      have primed := State.startLine_primed pos
      exact ⟨_, c.frame, c.flows, c.windowMs, c.other, c.bars, fun zero => absurd zero (Nat.ne_of_gt pos),
        fun _ => ⟨c.self, fun h => start ((taken h).trans primed), fun h => restart ((taken h).trans primed)⟩⟩
  case stop =>
    have c := s.lineChanged_recompute k SupplyLine.turnOff
    have off : ((s.modLine k SupplyLine.turnOff).recompute.line k).state = .off :=
      c.self.state.trans (congrArg SupplyLine.state (State.modLine_line_self k _ s))
    exact ⟨_, stop (decideLineStop_taken h), c.frame, c.flows, c.windowMs, (c.flows.off off).1, c.self, c.other, c.bars⟩

/-! ### FEED SELECT and RATE SET (R135, R136) -/

/-- The bar with a feed selected for it (R135). -/
def Bar.selected (feed : Option Line) (b : Bar) : Bar := { b with feed := feed, fallback := false, resume := none }

section
variable {s : State} {l : Lane}

theorem decideFeedSelect_range {n : Nat} (h : 3 < n) : decideFeedSelect l.port n s = refuse .range s := by
  simp only [decideFeedSelect, Lane.port_lane, feedOfCode_above h]

theorem decideFeedSelect_line (k : Line) : decideFeedSelect l.port (feedCode (some k)) s =
    if s.matrix.station = .tripped ∨ s.holdLevel l = .hard ∨ s.targetActive .slurryStop = true then refuse .held s
    else if (s.line k).state = .ready then done (s.modBar l (Bar.selected (some k))).recompute
    else refuse .notReady s := by
  simp only [decideFeedSelect, Lane.port_lane, feedOfCode_feedCode]
  rfl

theorem decideFeedSelect_none :
    decideFeedSelect l.port (feedCode none) s = done (s.modBar l (Bar.selected none)).recompute := by
  simp only [decideFeedSelect, Lane.port_lane, feedOfCode_feedCode]
  rfl

/-- A select of a line is not held in NORMAL with the lane not at HARD and no slurry stop (R135). -/
theorem State.not_feedHeld (normal : s.matrix.station = .normal) (level : s.holdLevel l ≠ .hard)
    (free : s.targetActive .slurryStop = false) :
    ¬ (s.matrix.station = .tripped ∨ s.holdLevel l = .hard ∨ s.targetActive .slurryStop = true) := by
  rw [normal, free]
  exact fun h => h.elim StationState.noConfusion fun h => h.elim level Bool.false_ne_true

theorem decideFeedSelect_taken {feed : Option Line} (h : ∀ k, feed = some k → s.matrix.station = .normal ∧
      s.holdLevel l ≠ .hard ∧ s.targetActive .slurryStop = false ∧ (s.line k).state = .ready) :
    decideFeedSelect l.port (feedCode feed) s = done (s.modBar l (Bar.selected feed)).recompute := by
  cases feed with
  | none => exact decideFeedSelect_none
  | some k =>
    obtain ⟨normal, level, free, ready⟩ := h k rfl
    rw [decideFeedSelect_line, if_neg (State.not_feedHeld normal level free), if_pos ready]

/-- The bar with the rate and the weights of an accepted RATE SET (R136). -/
def Bar.rated (rate : Nat) (weights : Three Nat) (b : Bar) : Bar := { b with rate := rate, weights := weights }

theorem decideRateSet_lane (rate : Nat) (w : Three Nat) : decideRateSet l.port rate w s =
    if 15 < w.inner ∨ 15 < w.middle ∨ 15 < w.outer then refuse .range s
    else if 65535 < rate then refuse .range s
    else
      { state := (s.modBar l (Bar.rated (min rate (s.settings.slurry.barMax.get l)) w)).recompute
        result := .ok
        clamped := decide (s.settings.slurry.barMax.get l < rate)
        noWeight := decide (w.inner + w.middle + w.outer = 0) } := by
  have heavy : (w.toList.any fun x => decide (15 < x)) = true ↔ 15 < w.inner ∨ 15 < w.middle ∨ 15 < w.outer := by
    simp [Three.toList]
  simp only [decideRateSet, Lane.port_lane, heavy]
  rfl

end

/-- Settles O44: the refusals in their order, and an accepted request as one bar's record put with every flow derived
again. -/
theorem feedAndRate : Obligations.FeedAndRate := by
  intro l s₀ s hs
  have select : ∀ {n : Nat} {t : State} {r : Result}, decideFeedSelect l.port n s = { state := t, result := r } →
      exec (.feedSelect l.port n) s₀ = .next (replied l.port .feedSelect r [] t) :=
    fun {n _ _} => exec_request_replied l.port (.feedSelect n) hs rfl (decide_eq_true (Lane.port_ne_s l)) rfl
  refine ⟨fun n hn => select (decideFeedSelect_range hn), fun k => ⟨fun held => select ?held,
    fun normal level free unready => select ?unready⟩, fun feed h => ?select, fun rate w => ⟨fun heavy => ?heavy,
    fun inner middle outer fits => ?rate⟩⟩
  case held => exact (decideFeedSelect_line k).trans (if_pos held)
  case unready => rw [decideFeedSelect_line, if_neg (State.not_feedHeld normal level free), if_neg unready]; rfl
  case select =>
    have c := s.barChanged_recompute l (Bar.selected feed)
    exact ⟨_, select (decideFeedSelect_taken h), c.frame, c.flows, congrArg Bar.feed c.self, congrArg Bar.fallback c.self,
      congrArg Bar.resume c.self, c.rateKept rfl rfl, fun x hx => (c.other x hx).1, c.lines, c.windowMs⟩
  case heavy =>
    refine exec_request_replied l.port (.rateSet rate w) hs rfl (decide_eq_true (Lane.port_ne_s l)) rfl ?_
    exact (decideRateSet_lane rate w).trans (if_pos heavy)
  case rate =>
    have light : ¬ (15 < w.inner ∨ 15 < w.middle ∨ 15 < w.outer) := by omega
    have c := s.barChanged_recompute l (Bar.rated (min rate (s.settings.slurry.barMax.get l)) w)
    have row := exec_request_heard l.port (.rateSet rate w) s₀ s hs rfl (decide_eq_true (Lane.port_ne_s l)) rfl
    have decided := (decideRateSet_lane (s := s) (l := l) rate w).trans ((if_neg light).trans (if_neg (Nat.not_lt.2 fits)))
    rw [decideRequest, decided] at row
    exact ⟨_, row, c.frame, c.flows, congrArg Bar.rate c.self, congrArg Bar.weights c.self, c.barKept rfl rfl rfl,
      fun x hx => (c.other x hx).2, c.lines, c.windowMs⟩

/-! ### Pulses, stops and windows (R129 to R132) -/

theorem State.modLine_modLine (k : Line) (f g : SupplyLine → SupplyLine) (s : State) :
    (s.modLine k f).modLine k g = s.modLine k fun y => g (f y) := by
  cases k <;> rfl

section
variable {s : State} {k : Line}

theorem State.flowPulse_undriven (h : (s.line k).duty = 0) : s.flowPulse k = s := if_pos h

theorem State.flowPulse_counts (run : 0 < (s.line k).duty) (h : (s.line k).state ≠ .priming) :
    s.flowPulse k = s.modLine k fun y => { y with lastPulse := 0, window := y.window + 1 } := by
  unfold State.flowPulse
  rw [if_neg (Nat.ne_of_gt run)]
  cases hx : (s.line k).state with
  | priming => exact absurd hx h
  | off | ready | stopped => rfl

theorem State.flowPulse_priming (run : 0 < (s.line k).duty) (h : (s.line k).state = .priming) : s.flowPulse k =
    if s.settings.slurry.primeCount.get k ≤ (s.line k).prime + 1 then
      State.file .s .lineReady (s.modLine k fun y =>
        { y with state := .ready, prime := y.prime + 1, window := y.window + 1, lastPulse := 0 }).recompute
    else s.modLine k fun y => { y with lastPulse := 0, window := y.window + 1, prime := y.prime + 1 } := by
  unfold State.flowPulse
  rw [if_neg (Nat.ne_of_gt run), h]
  simp only [State.modLine_modLine]
  rfl

theorem State.stopTimeout_driven (h : (s.line k).state = .priming ∨ (s.line k).state = .ready)
    (run : 0 < (s.line k).duty) : s.stopTimeout k = s.lineStops k := if_pos ((SupplyLine.timed_iff _).2 ⟨h, run⟩)

theorem State.stopTimeout_still (h : (s.line k).state = .off ∨ (s.line k).state = .stopped ∨ (s.line k).duty = 0) :
    s.stopTimeout k = s := by
  refine if_neg fun timed => ?_
  obtain ⟨driven, run⟩ := (SupplyLine.timed_iff _).1 timed
  rcases h with h | h | h <;> simp [h] at driven run

theorem State.windowEnd_line : s.windowEnd.line k = { s.line k with
    measured := (s.line k).window * 60000 / s.settings.slurry.pulsesPerLitre.get k, window := 0 } := by
  cases k <;> rfl

end

/-- Settles O45: a pulse by the line's duty, state and prime progress, the stop of a driven line, and the window's end. -/
theorem flowEvents : Obligations.FlowEvents := by
  intro k s₀ s hs x
  have rows : exec (.flowMeterPulse k) s₀ = .next (s.flowPulse k) ∧
      exec (.stopTimeoutExpiry k) s₀ = .next (s.stopTimeout k) ∧ exec .flowWindowEnd s₀ = .next s.windowEnd := by
    rw [← hs]
    exact ⟨rfl, rfl, rfl⟩
  obtain ⟨pulse, expiry, window⟩ := rows
  rw [pulse, expiry, window]
  refine ⟨fun still => congrArg _ (State.flowPulse_undriven still),
    fun run h => congrArg _ (State.flowPulse_counts run h), fun run h below => congrArg _ ?below, fun run h primed => ?ready,
    fun driven run => ?stop,
    fun h => congrArg _ (State.stopTimeout_still h), _, rfl, rfl, rfl, rfl, State.windowEnd_line⟩
  case below => exact (State.flowPulse_priming run h).trans (if_neg (Nat.not_le.2 below))
  case ready =>
    have c := s.lineChanged_recompute k fun y =>
      { y with state := .ready, prime := y.prime + 1, window := y.window + 1, lastPulse := 0 }
    exact ⟨_, congrArg _ ((State.flowPulse_priming run h).trans (if_pos primed)), rfl, c.self, c.flows, c.windowMs,
      (State.onlyFiled_of_links rfl).trans (State.onlyFiled_file _ _ _), (State.mem_file _ _ _ _ _).2 (.inl ⟨rfl, rfl⟩),
      c.bars, c.other⟩
  case stop =>
    have stopped := s.linesStopped_lineStops (D := fun _ => True) (k := k) trivial
    obtain ⟨kept, -, duty⟩ := s.lineStops_self k
    exact ⟨_, congrArg _ (State.stopTimeout_driven driven run), stopped.frame, kept, duty, s.mem_lineStops k,
      stopped.filed, s.lineStops_flowsTrue k, stopped.windowMs, fun j hj => State.lineStops_other hj s,
      s.barsMoved_lineStops k⟩

end Sys2Proof.Machine

/-!
RESUME: the causes that are still active, the reply that names them, and the resume step of a bar that comes down from HARD
(O47).
-/

namespace Sys2Proof.Machine
open Sys2Proof

/-! ### Conditions of targets and causes (R150, R152) -/

theorem State.targetActive_iff (s : State) (t : Target) : s.targetActive t = true ↔ ∃ i : InputIndex,
    (s.settings.matrix.masks.get t).getLsbD i = true ∧
      xor (s.matrix.input i).accepted (s.settings.matrix.invertMask.getLsbD i) = true := by
  simp only [State.targetActive, inputActive_eq, List.any_eq_true, List.mem_finRange, true_and, Bool.and_eq_true]

theorem Six.any_toList {α : Type} (x : Six α) (f : α → Bool) : x.toList.any f = true ↔ ∃ c, f (x.get c) = true := by
  simp only [Six.toList, List.any_cons, List.any_nil, Bool.or_false, Bool.or_eq_true]
  constructor
  · rintro (h | h | h | h | h | h)
    exacts [⟨.z1, h⟩, ⟨.z2, h⟩, ⟨.z3, h⟩, ⟨.z4, h⟩, ⟨.z5, h⟩, ⟨.ring, h⟩]
  · rintro ⟨c, h⟩
    cases c <;> simp only [Six.get] at h <;> simp only [h, true_or, or_true]

theorem State.pressureFault_iff (s : State) (l : Lane) :
    s.pressureFault l = true ↔ ∃ c, ((s.lane l).channels.get c).fault = true := Six.any_toList _ _

theorem Bar.wet_iff (b : Bar) : b.wet = true ↔ b.feed ≠ none ∧
    0 < (b.outlets.get .inner).served + (b.outlets.get .middle).served + (b.outlets.get .outer).served := by
  rw [Bar.wet, Bool.and_eq_true, decide_eq_true_iff, Option.isSome_iff_ne_none]
  rfl

/-- DRY's condition: the lane is down and its bar is not wet (R140, R152). -/
theorem State.causeActive_dry (s : State) (l : Lane) : s.causeActive l .dry = true ↔ (s.lane l).state ≠ .raised ∧
    ¬ ((s.bar l).feed ≠ none ∧ 0 < ((s.bar l).outlets.get .inner).served + ((s.bar l).outlets.get .middle).served +
      ((s.bar l).outlets.get .outer).served) := by
  rw [← Bar.wet_iff, ← LaneState.down_iff, Bool.not_eq_true, ← Bool.not_eq_true', ← Bool.and_eq_true]
  rfl

section
variable {s : State} {l : Lane}

theorem CauseKind.mem_all (k : CauseKind) : k ∈ CauseKind.all := by cases k <;> decide

theorem State.mem_activeCauses {k : CauseKind} :
    k ∈ s.activeCauses l ↔ (∃ e ∈ s.causes l, e.kind = k) ∧ s.causeActive l k = true := by
  simp only [State.activeCauses, List.mem_filter, CauseKind.mem_all, true_and, Bool.and_eq_true, List.any_eq_true,
    decide_eq_true_iff]

theorem State.activeCauses_ne_nil : s.activeCauses l ≠ [] ↔ ∃ e ∈ s.causes l, s.causeActive l e.kind = true := by
  constructor
  · intro h
    obtain ⟨k, hk⟩ := List.exists_mem_of_ne_nil _ h
    obtain ⟨⟨e, he, rfl⟩, active⟩ := State.mem_activeCauses.1 hk
    exact ⟨e, he, active⟩
  · rintro ⟨e, he, active⟩
    exact List.ne_nil_of_mem (State.mem_activeCauses.2 ⟨⟨e, he, rfl⟩, active⟩)

/-- The hold level is NONE exactly with an empty cause set (R153). -/
theorem State.holdLevel_none : s.holdLevel l = .none ↔ s.causes l = [] := by
  refine ⟨fun h => List.eq_nil_iff_forall_not_mem.2 fun e he => levelOf_ne_none he h, fun h => ?_⟩
  rw [State.holdLevel, h]
  rfl

end

/-- A set of up to eight members in one byte: bit i is member i (10.1). -/
theorem setBytes_one (members : List Bool) : ∃ b : Byte, setBytes 1 members = [b] ∧
    ∀ i < 8, b.getLsbD i = members.getD i false := by
  refine ⟨_, rfl, fun i hi => ?_⟩
  rw [← testBit_setBytes (w := 1) members hi]
  exact congrArg (Nat.testBit · i) (Nat.zero_add _).symm

/-- The byte that names a list of cause kinds (10.1). -/
theorem causeKindBytes_named (kinds : List CauseKind) : ∃ named : Byte, causeKindBytes kinds = [named] ∧
    ∀ k : CauseKind, named.getLsbD (CauseKind.all.idxOf k) = true ↔ k ∈ kinds := by
  obtain ⟨named, bytes, bits⟩ := setBytes_one (CauseKind.all.map fun k => decide (k ∈ kinds))
  refine ⟨named, bytes, fun k => ?_⟩
  have place : CauseKind.all.idxOf k < 8 := by cases k <;> decide
  have member : CauseKind.all[CauseKind.all.idxOf k]? = some k := by cases k <;> rfl
  rw [bits _ place, List.getD_eq_getElem?_getD, List.getElem?_map, member]
  exact decide_eq_true_iff

/-! ### The resume step (R142) -/

/-- The resume record of a bar, if its line is READY. -/
def State.restorable (s : State) (l : Lane) : Option ResumeRecord :=
  (s.bar l).resume.filter fun r => decide ((s.line r.line).state = .ready)

/-- The bar after its resume step: without a record, and on the feed of the one that is restored (R142). -/
def Bar.resumed (b : Bar) : Option ResumeRecord → Bar
  | none => { b with resume := none }
  | some r => { b with feed := some r.line, fallback := r.fallback, resume := none }

section
variable {s : State} {l : Lane}

theorem State.restorable_none (h : (s.bar l).resume = none) : s.restorable l = none := by
  rw [State.restorable, h]
  rfl

theorem State.restorable_ready {r : ResumeRecord} (h : (s.bar l).resume = some r) (ready : (s.line r.line).state = .ready) :
    s.restorable l = some r := by
  rw [State.restorable, h, Option.filter_some, if_pos (decide_eq_true ready)]

theorem State.restorable_unready {r : ResumeRecord} (h : (s.bar l).resume = some r)
    (unready : (s.line r.line).state ≠ .ready) : s.restorable l = none := by
  rw [State.restorable, h, Option.filter_some, if_neg (by simpa using unready)]

/-- The resume step puts one bar's record and derives every flow again; the feed is lost where a record is not restored. -/
theorem State.resumeBar_eq (l : Lane) (s : State) : s.resumeBar l =
    ((s.modBar l (Bar.resumed · (s.restorable l))).recompute, (s.bar l).resume.isSome && (s.restorable l).isNone) := by
  unfold State.resumeBar
  cases hr : (s.bar l).resume with
  | none =>
    have still : (s.bar l).resumed none = id (s.bar l) := by
      rw [Bar.resumed, ← hr]
      rfl
    rw [State.restorable_none hr, State.modBar_of_eq (f := (Bar.resumed · none)) still, State.modBar_id]
    rfl
  | some r =>
    by_cases ready : (s.line r.line).state = .ready
    · rw [State.restorable_ready hr ready]
      cases l <;> exact if_pos ready
    · rw [State.restorable_unready hr ready]
      exact if_neg ready

end

@[simp] theorem Bar.resumed_resume (b : Bar) (r : Option ResumeRecord) : (b.resumed r).resume = none := by cases r <;> rfl
@[simp] theorem Bar.resumed_rate (b : Bar) (r : Option ResumeRecord) : (b.resumed r).rate = b.rate := by cases r <;> rfl
@[simp] theorem Bar.resumed_weights (b : Bar) (r : Option ResumeRecord) : (b.resumed r).weights = b.weights := by
  cases r <;> rfl

/-! ### RESUME (R156) -/

section
variable {s : State} {l : Lane}

theorem State.resume_soft (h : s.holdLevel l = .soft) : s.resume l =
    ({ s with matrix := { s.matrix with causes := s.matrix.causes.set l [] }, events := s.events ++ [.softHoldCap l] },
      false) := by
  rw [State.resume, h]
  rfl

theorem State.resume_hard (h : s.holdLevel l = .hard) : s.resume l =
    ({ s with
        slurry := (s.resumeBar l).1.slurry, matrix := { s.matrix with causes := s.matrix.causes.set l [] }
        events := s.events ++ [.softHoldCap l] }, (s.resumeBar l).2) := by
  have level : (s.setCauses l []).resumeFeed l .hard = (s.setCauses l []).resumeBar l := rfl
  rw [State.resume, h, level, State.resumeBar_eq, State.resumeBar_eq]
  rfl

variable {p : Port} {code : Option Nat}

/-- The port may name the lane: port S by its code, a carrier port by no code (R156, R169). -/
theorem requestLane_named (h : (p = .s ∧ code = some (laneCode l)) ∨ (p = l.port ∧ code = none)) :
    requestLane p code = some l ∧ lengthOk p (.resume code) = true := by
  rcases h with ⟨rfl, rfl⟩ | ⟨rfl, rfl⟩ <;> cases l <;> exact ⟨rfl, rfl⟩

variable (h : requestLane p code = some l)
include h

theorem decideResume_state (free : s.causes l = []) : decideResume p code s = refuse .state s := by
  rw [decideResume, h]
  exact if_pos (State.holdLevel_none.2 free)

theorem decideResume_active (active : s.activeCauses l ≠ []) : decideResume p code s =
    { state := s, result := .causeActive, payload := causeKindBytes (s.activeCauses l) } := by
  obtain ⟨e, he, -⟩ := State.activeCauses_ne_nil.1 active
  rw [decideResume, h]
  exact (if_neg fun free => List.ne_nil_of_mem he (State.holdLevel_none.1 free)).trans (if_pos active)

theorem decideResume_accepted (held : s.causes l ≠ []) (ended : ¬ s.activeCauses l ≠ []) : decideResume p code s =
    { state := (s.resume l).1, result := .ok, feedNotRestored := (s.resume l).2 } := by
  rw [decideResume, h]
  exact (if_neg (mt State.holdLevel_none.1 held)).trans (if_neg ended)

end

/-- Settles O47: refused at level NONE and while a cause is active, else the set emptied and, from HARD, the bar resumed. -/
theorem resumeByCases : Obligations.ResumeByCases := by
  intro l p code s₀ s hs hp input wet active
  obtain ⟨lane, length⟩ := requestLane_named hp
  have row := exec_request_heard p (.resume code) s₀ s hs rfl rfl length
  rw [decideRequest] at row
  have active_iff : ∀ k, s.causeActive l k = true ↔ active k
    | .input => s.targetActive_iff _
    | .remote => Option.isSome_iff_ne_none
    | .pressureFault => s.pressureFault_iff l
    | .dry => s.causeActive_dry l
    | .linkSilent => Bool.and_eq_true_iff
    | .supplyLow => Iff.rfl
    | .trip => decide_eq_true_iff
  have some_active : s.activeCauses l ≠ [] ↔ ∃ e ∈ s.causes l, active e.kind := by
    simp only [State.activeCauses_ne_nil, active_iff]
  refine ⟨s.targetActive_iff, fun free => ?free, fun lasting => ?active, fun held ended => ?accepted⟩
  case free =>
    rw [decideResume_state lane free] at row
    exact row
  case active =>
    obtain ⟨named, bytes, bits⟩ := causeKindBytes_named (s.activeCauses l)
    rw [decideResume_active lane (some_active.2 lasting), bytes] at row
    exact ⟨named, row, fun k => by rw [bits, State.mem_activeCauses, active_iff]⟩
  case accepted =>
    have none_active : ¬ s.activeCauses l ≠ [] := fun h =>
      (some_active.1 h).elim fun e he => ended e he.1 he.2
    rw [decideResume_accepted lane held none_active] at row
    refine ⟨(s.resume l).1, (s.resume l).2, row, ?_⟩
    cases level : s.holdLevel l with
    | none => exact absurd (State.holdLevel_none.1 level) held
    | soft =>
      rw [State.resume_soft level]
      exact ⟨rfl, fun _ => ⟨rfl, rfl⟩, nofun⟩
    | hard =>
      rw [State.resume_hard level, State.resumeBar_eq]
      have c := s.barChanged_recompute l (Bar.resumed · (s.restorable l))
      refine ⟨rfl, nofun, fun _ => ⟨c.flows, (congrArg Bar.resume c.self).trans (Bar.resumed_resume _ _), c.windowMs,
        c.lines, c.rateKept (Bar.resumed_rate _ _) (Bar.resumed_weights _ _), fun x hx => (c.other x hx).1,
        fun unrecorded => ?_, fun r recorded => ⟨fun ready => ?_, fun unready => ?_⟩⟩⟩
      · rw [State.restorable_none unrecorded] at c ⊢
        exact ⟨c.barKept rfl rfl unrecorded.symm l, by rw [unrecorded]; rfl⟩
      · rw [State.restorable_ready recorded ready] at c ⊢
        exact ⟨congrArg Bar.feed c.self, congrArg Bar.fallback c.self, Bool.and_false _⟩
      · rw [State.restorable_unready recorded unready] at c ⊢
        exact ⟨(congrArg Bar.feed c.self).trans rfl, (congrArg Bar.fallback c.self).trans rfl, by rw [recorded]; rfl⟩

end Sys2Proof.Machine

/-!
The moves of the interlock matrix: the few operations that change what its laws speak of, and the paths that the matrix
takes by them.
-/

namespace Sys2Proof.Machine
open Sys2Proof

/-! ### The moves -/

/-- The matrix with a cause added to a lane's set (R152). -/
def Matrix.withCause (l : Lane) (e : CauseEntry) (m : Matrix) : Matrix :=
  { m with causes := m.causes.set l (addEntry e (m.causes.get l)) }

/-- The matrix with a trip cause whose condition becomes active: both lanes take TRIP where the station was NORMAL (R157,
R158). -/
def Matrix.trippedBy (c : TripCause) (m : Matrix) : Matrix :=
  let joined := { m with tripCauses := insertTrip c m.tripCauses, station := .tripped }
  match m.station with
  | .tripped => joined
  | .normal => (joined.withCause .a (causeEntry .trip .hard)).withCause .b (causeEntry .trip .hard)

/-- The moves of the matrix in a step that takes only requests of kinds `allowed`; a move aside leaves the cause sets and
the trips. -/
inductive MatrixMove (allowed : Kind → Prop) : Matrix → Matrix → Prop
  | aside {m n : Matrix} (inputs : n.inputs.length = m.inputs.length) (causes : n.causes = m.causes)
      (station : n.station = m.station) (trips : n.tripCauses = m.tripCauses)
      (counts : ∀ l, m.dryCount.get l ≤ 8 → n.dryCount.get l ≤ 8) : MatrixMove allowed m n
  | caused (l : Lane) (e : CauseEntry) (m : Matrix) : MatrixMove allowed m (m.withCause l e)
  | tripped (c : TripCause) (m : Matrix) : MatrixMove allowed m (m.trippedBy c)
  | tripCleared (m : Matrix) : MatrixMove allowed m { m with station := .normal, tripCauses := [] }
  | resumed (l : Lane) (m : Matrix) : allowed .resume → (m.station = .tripped → ∀ e ∈ m.causes.get l, e.kind ≠ .trip) →
      MatrixMove allowed m { m with causes := m.causes.set l [] }
  | restarted (m : Matrix) : allowed .stationRestart → MatrixMove allowed m m.restarted

/-- From `s` to `t` the matrix moves by its moves alone. -/
def State.matrixPath (allowed : Kind → Prop) (s t : State) : Prop :=
  Relation.ReflTransGen (MatrixMove allowed) s.matrix t.matrix

section
variable {allowed : Kind → Prop}

theorem State.matrixPath.refl (s : State) : s.matrixPath allowed s := Relation.ReflTransGen.refl

theorem State.matrixPath.trans {s t u : State} (h : s.matrixPath allowed t) (k : t.matrixPath allowed u) :
    s.matrixPath allowed u :=
  Relation.ReflTransGen.trans h k

theorem MatrixMove.path {s t : State} (h : MatrixMove allowed s.matrix t.matrix) : s.matrixPath allowed t := .single h

/-- What leaves the matrix as it is moves it nowhere. -/
theorem State.matrixPath_of_eq {s t : State} (h : t.matrix = s.matrix) : s.matrixPath allowed t := by
  rw [State.matrixPath, h]

/-- What every move of the matrix keeps, a path of moves keeps. -/
theorem State.matrixPath.keeps {P : Matrix → Prop} (hmove : ∀ m n, MatrixMove allowed m n → P m → P n) {s t : State}
    (h : s.matrixPath allowed t) (hs : P s.matrix) : P t.matrix := by
  unfold State.matrixPath at h
  generalize t.matrix = n at h ⊢
  induction h with
  | refl => exact hs
  | tail _ hm ih => exact hmove _ _ hm ih

/-! ### Causes and trips -/

theorem State.addCause_matrix (l : Lane) (e : CauseEntry) (s : State) :
    (s.addCause l e).matrix = s.matrix.withCause l e := by
  unfold State.addCause State.addCauseWith
  simp only
  split
  · rfl
  · rw [State.holdEntered_matrix]; rfl

theorem State.tripCause_matrix (c : TripCause) (s : State) : (s.tripCause c).matrix = s.matrix.trippedBy c := by
  unfold State.tripCause Matrix.trippedBy
  cases s.matrix.station
  · simp only [State.raise_matrix, State.addCauseBoth, State.addCause_matrix, State.fileAll_matrix]
    rfl
  · rfl

theorem State.matrixPath_addCause (l : Lane) (e : CauseEntry) (s : State) : s.matrixPath allowed (s.addCause l e) :=
  MatrixMove.path (s.addCause_matrix l e ▸ .caused l e _)

theorem State.matrixPath_tripCause (c : TripCause) (s : State) : s.matrixPath allowed (s.tripCause c) :=
  MatrixMove.path (s.tripCause_matrix c ▸ .tripped c _)

theorem State.matrixPath_addCauseBoth (e : CauseEntry) (s : State) : s.matrixPath allowed (s.addCauseBoth e) :=
  (s.matrixPath_addCause .a e).trans (State.matrixPath_addCause .b e _)

theorem State.matrixPath_onRise (b a : Bool) {f : State → State} {s : State} (h : s.matrixPath allowed (f s)) :
    s.matrixPath allowed (s.onRise b a f) := by
  unfold State.onRise
  split
  · exact h
  · exact .refl s

theorem State.matrixPath_takeTargets (before s : State) : s.matrixPath allowed (s.takeTargets before) := by
  have hold : ∀ b a l e (u : State), u.matrixPath allowed (u.onRise b a (·.addCause l e)) := fun b a l e u =>
    State.matrixPath_onRise b a (u.matrixPath_addCause l e)
  exact (((hold _ _ _ _ _).trans (hold _ _ _ _ _)).trans
    (State.matrixPath_onRise _ _ (State.matrixPath_tripCause _ _))).trans (State.matrixPath_onRise _ _ (.refl _))

/-! ### Inputs, dry revolutions and silence -/

theorem State.matrixPath_modInput (i : InputIndex) (f : InterlockInput → InterlockInput) (s : State) :
    s.matrixPath allowed (s.modInput i f) :=
  MatrixMove.path (.aside List.length_set rfl rfl rfl fun _ => id)

theorem State.matrixPath_acceptLevel (i : InputIndex) (s : State) : s.matrixPath allowed (s.acceptLevel i) :=
  (s.matrixPath_modInput _ _).trans (State.matrixPath_takeTargets _ _)

theorem State.matrixPath_debounceExpiry (i : InputIndex) (s : State) : s.matrixPath allowed (s.debounceExpiry i) := by
  unfold State.debounceExpiry
  split
  · exact .refl s
  · exact s.matrixPath_acceptLevel i

theorem State.matrixPath_pinChange (i : InputIndex) (b : Bool) (s : State) : s.matrixPath allowed (s.pinChange i b) := by
  unfold State.pinChange
  simp only
  (repeat' split)
  · exact .refl s
  · exact (s.matrixPath_modInput _ _).trans (State.matrixPath_acceptLevel _ _)
  · exact s.matrixPath_modInput _ _

theorem dryCountAfter_le (dry : Bool) (n : Nat) : dryCountAfter dry n ≤ 8 := by
  unfold dryCountAfter
  split
  · exact Nat.min_le_left _ _
  · exact Nat.zero_le _

theorem State.matrixPath_dryUpdate (l : Lane) (u : MapUpdated) (s : State) : s.matrixPath allowed (s.dryUpdate l u) := by
  have counted : s.matrixPath allowed (s.modMatrix fun m =>
      { m with dryCount := m.dryCount.set l (dryCountAfter (u.dry.get l) (s.matrix.dryCount.get l)) }) := by
    refine MatrixMove.path (.aside rfl rfl rfl rfl fun j hj => ?_)
    show (s.matrix.dryCount.set l _).get j ≤ 8
    rw [Lanes.get_set]
    split
    · exact dryCountAfter_le _ _
    · exact hj
  exact counted.trans (State.matrixPath_onRise _ _ (State.matrixPath_addCause _ _ _))

theorem State.matrixPath_silenceExpiry (l : Lane) (s : State) : s.matrixPath allowed (s.silenceExpiry l) := by
  have silent : ∀ f, s.matrixPath allowed (s.modSilence l f) := fun _ => State.matrixPath_of_eq rfl
  unfold State.silenceExpiry State.goSilent
  split
  · exact .refl s
  · exact (silent _).trans (State.matrixPath_onRise _ _ (State.matrixPath_addCause _ _ _))

/-! ### Taking what is outstanding -/

theorem State.matrixPath_hubEntry (m : Arm) (s : State) : s.matrixPath allowed (s.hubEntry m) := by
  have intruder : ∀ f, s.matrixPath allowed (s.modHub f) := fun _ => State.matrixPath_of_eq rfl
  unfold State.hubEntry
  split
  · exact .refl s
  · exact (intruder _).trans (State.matrixPath_onRise _ _ (State.matrixPath_tripCause _ _))

theorem State.hubExit_matrix (m : Arm) (s : State) : (s.hubExit m).matrix = s.matrix := by
  unfold State.hubExit
  (repeat' split) <;> simp

theorem State.condMapUpdated_matrix (u : MapUpdated) (s : State) : (s.condMapUpdated u).matrix = s.matrix := by
  unfold State.condMapUpdated State.updatedWork State.dwellTest State.countDiskLife State.rebuild
  (repeat' split) <;> simp

theorem State.applyAtIndex_matrix (l : Lane) (s : State) : (s.applyAtIndex l).matrix = s.matrix := by
  unfold State.applyAtIndex
  split <;> simp

theorem State.condTold_matrix (s : State) : s.condTripHalt.matrix = s.matrix ∧ s.condTripClear.matrix = s.matrix ∧
    s.condGrant.matrix = s.matrix ∧ s.condGrantLost.matrix = s.matrix := by
  refine ⟨?_, ?_, ?_, ?_⟩
  · unfold State.condTripHalt
    (repeat' split) <;> simp
  · unfold State.condTripClear State.beginHoming
    (repeat' split) <;> simp
  · unfold State.condGrant
    (repeat' split) <;> simp
  · unfold State.condGrantLost State.reclaim
    simp only
    (repeat' split) <;> simp

theorem State.matrixPath_take (e : Event) (s : State) : s.matrixPath allowed (s.take e) := by
  cases e with
  | hubEntry m => exact s.matrixPath_hubEntry m
  | dryCountUpdate u => exact (s.matrixPath_dryUpdate .a u).trans (State.matrixPath_dryUpdate .b u _)
  | hubExit m => exact State.matrixPath_of_eq (s.hubExit_matrix m)
  | condMapUpdated u => exact State.matrixPath_of_eq (s.condMapUpdated_matrix u)
  | indexProfileApply =>
    exact State.matrixPath_of_eq ((State.applyAtIndex_matrix .b _).trans (s.applyAtIndex_matrix .a))
  | condTripHalt => exact State.matrixPath_of_eq s.condTold_matrix.1
  | condTripClear => exact State.matrixPath_of_eq s.condTold_matrix.2.1
  | condGrant => exact State.matrixPath_of_eq s.condTold_matrix.2.2.1
  | condGrantLost => exact State.matrixPath_of_eq s.condTold_matrix.2.2.2
  | gainRecompute | hardHoldVent | softHoldCap | hardHoldBarEmpty | hardHoldWithdraw | tripBarEmpty | mapReplaced
  | slurryStop => exact State.matrixPath_of_eq (by simp [State.take, State.emptyQueue])

theorem State.moveArrival_matrix (s : State) : s.moveArrival.matrix = s.matrix := by
  unfold State.moveArrival State.strokeEnd State.reclaim
  simp only
  (repeat' split) <;> simp

theorem State.matrixPath_settled (s : State) : s.matrixPath allowed s.settled := by
  refine keeps_settled (P := s.matrixPath allowed) (fun t e rest _ ht => ?_)
    (fun t ht => ht.trans (State.matrixPath_of_eq t.moveArrival_matrix)) (.refl s)
  have taken : t.matrixPath allowed (t.modEvents fun _ => rest) := State.matrixPath_of_eq rfl
  exact (ht.trans taken).trans (State.matrixPath_take e _)

theorem State.matrixPath_settledFor (k : Option Kind) (s : State) : s.matrixPath allowed (s.settledFor k) := by
  have told : ∀ f (u : State), u.matrixPath allowed (u.modEvents f) := fun _ _ => State.matrixPath_of_eq rfl
  unfold State.settledFor State.settledBeforeMap
  split
  · exact ((told _ _).trans (State.matrixPath_settled _)).trans (told _ _)
  · exact s.matrixPath_settled

theorem matrixPath_eventRow {e : Event} {s t : State} (h : exec e.command s = .next t) : s.matrixPath allowed t := by
  rcases exec_event_cases h with rfl | ⟨x, -, rfl⟩
  · exact .refl t
  · have taken : s.matrixPath allowed (s.modEvents (·.erase x)) := State.matrixPath_of_eq rfl
    exact taken.trans (State.matrixPath_take x _)

end

end Sys2Proof.Machine

/-!
Every step moves the interlock matrix by its moves alone, of a RESUME and of a STATION RESTART only where it takes one.
-/

namespace Sys2Proof.Machine
open Sys2Proof

section
variable {allowed : Kind → Prop}

/-! ### The platen and the arms -/

theorem State.matrixPath_trackerChanged (before : TrackerState) (s : State) :
    s.matrixPath allowed (s.trackerChanged before) := by
  have filed : ∀ n, s.matrixPath allowed (s.fileAll n) := fun _ => State.matrixPath_of_eq rfl
  unfold State.trackerChanged
  simp only
  (repeat' split)
  · exact .refl s
  · exact (filed _).trans (State.matrixPath_tripCause _ _)
  · exact (filed _).trans (State.matrixPath_tripCause _ _)
  · exact filed _
  · exact filed _

theorem State.matrixPath_indexEvent (k : IndexKind) (s : State) : s.matrixPath allowed (s.indexEvent k) := by
  have closed : s.matrixPath allowed ((s.closedAt k).modTracker (·.beginNext k)) :=
    State.matrixPath_of_eq (State.closedAt_matrix k s)
  have raised : ∀ u : State, u.matrixPath allowed (u.raise .indexProfileApply) := fun _ => State.matrixPath_of_eq rfl
  exact (closed.trans (State.matrixPath_trackerChanged _ _)).trans (raised _)

theorem State.matrixPath_indexEdge (n : Nat) (s : State) : s.matrixPath allowed (s.indexEdge n) := by
  have moved : ∀ f (u : State), u.matrixPath allowed (u.modTracker f) := fun _ _ => State.matrixPath_of_eq rfl
  have started : s.matrixPath allowed s.startRevolution := State.matrixPath_of_eq rfl
  unfold State.indexEdge
  split
  · exact (started.trans (moved _ _)).trans (State.matrixPath_trackerChanged _ _)
  · exact (moved _ s).trans (State.matrixPath_indexEvent _ _)

theorem State.matrixPath_platenCount (e : PlatenEdge) (s : State) : s.matrixPath allowed (s.platenCount e) := by
  unfold State.platenCount
  split
  · exact .refl s
  · unfold State.forwardCount State.sectorMark
    (repeat' split)
    · exact s.matrixPath_indexEvent _
    · exact State.matrixPath_of_eq rfl
    · exact State.matrixPath_of_eq rfl
  · unfold State.reverseCount State.reverseCrossing
    simp only
    (repeat' split)
    · exact s.matrixPath_indexEvent _
    · exact State.matrixPath_of_eq rfl
    · exact State.matrixPath_of_eq rfl
    · exact State.matrixPath_of_eq rfl
  · exact State.matrixPath_of_eq rfl

theorem State.matrixPath_enterStalled (s : State) : s.matrixPath allowed s.enterStalled := by
  have stalled : s.matrixPath allowed
      (s.disturb.modTracker fun t => { t with state := .stalled, stallTimer := none }) := State.matrixPath_of_eq rfl
  unfold State.enterStalled
  split
  · exact stalled.trans (State.matrixPath_trackerChanged _ _)
  · exact stalled.trans (State.matrixPath_trackerChanged _ _)
  · exact .refl s
  · exact .refl s

theorem State.matrixPath_stallExpiry (s : State) : s.matrixPath allowed s.stallExpiry := by
  unfold State.stallExpiry
  split
  · exact s.matrixPath_enterStalled
  · exact .refl s

theorem State.armCount_matrix (m : Arm) (e : ArmEdge) (s : State) : (s.armCount m e).matrix = s.matrix := by
  unfold State.armCount
  simp only
  split <;> simp

theorem State.condHomeEdge_matrix (s : State) : s.condHomeEdge.matrix = s.matrix := by
  unfold State.condHomeEdge
  simp only
  split <;> simp

theorem State.matrixPath_cross (m : Arm) (s : State) : s.matrixPath allowed (s.cross m) := by
  have moved : ∀ f, s.matrixPath allowed (s.modArm m f) := fun _ => State.matrixPath_of_eq rfl
  unfold State.cross
  simp only
  (repeat' split)
  · exact moved _
  · exact (moved _).trans (State.matrixPath_hubEntry _ _)
  · exact (moved _).trans (State.matrixPath_of_eq (State.hubExit_matrix _ _))

theorem State.matrixPath_homeEdge (m : Arm) (s : State) : s.matrixPath allowed (s.homeEdge m) := by
  have loaded : ∀ f, s.matrixPath allowed (s.modArm m f) := fun _ => State.matrixPath_of_eq rfl
  have inside : ∀ u : State, u.matrixPath allowed (u.evaluateInside m) := fun u =>
    State.matrixPath_of_eq (u.evaluateInside_matrix m)
  have edge : ∀ u : State, u.matrixPath allowed u.condHomeEdge := fun u => State.matrixPath_of_eq u.condHomeEdge_matrix
  unfold State.homeEdge
  simp only
  (repeat' split)
  · exact (loaded _).trans (inside _)
  · exact ((loaded _).trans (State.matrixPath_cross m _)).trans (edge _)
  · exact ((loaded _).trans (inside _)).trans (edge _)

/-! ### Head pressure -/

theorem State.matrixPath_reportSupply (b : Bool) (s : State) : s.matrixPath allowed (s.reportSupply b) := by
  have put : ∀ f, s.matrixPath allowed (s.modPress f) := fun _ => State.matrixPath_of_eq rfl
  exact (put _).trans (State.matrixPath_onRise _ _ (State.matrixPath_addCauseBoth _ _))

theorem State.matrixPath_reportFault (l : Lane) (b : Bool) (s : State) : s.matrixPath allowed (s.reportFault l b) :=
  State.matrixPath_onRise _ _ (State.matrixPath_addCause _ _ _)

theorem State.touchdownDone_matrix (l : Lane) (s : State) : (s.touchdownDone l).matrix = s.matrix := by
  unfold State.touchdownDone
  split <;> simp

theorem State.releaseDone_matrix (l : Lane) (s : State) : (s.releaseDone l).matrix = s.matrix := by
  unfold State.releaseDone
  split <;> simp

theorem State.matrixPath_pressureUpdate (adc : Lanes (Six (BitVec 12))) (supply : BitVec 12) (s : State) :
    s.matrixPath allowed (s.pressureUpdate adc supply) := by
  have completed : ∀ low, s.matrixPath allowed
      (((((s.updateLane .a low adc.a).updateLane .b low adc.b).touchdownDone .a).touchdownDone .b).releaseDone .a
        |>.releaseDone .b) := fun low => State.matrixPath_of_eq (by
    rw [State.releaseDone_matrix, State.releaseDone_matrix, State.touchdownDone_matrix, State.touchdownDone_matrix]
    rfl)
  have supplied : ∀ f (u : State), u.matrixPath allowed (u.modPress f) := fun _ _ => State.matrixPath_of_eq rfl
  exact (((completed _).trans (State.matrixPath_reportFault .a _ _)).trans (State.matrixPath_reportFault .b _ _)).trans
    ((supplied _ _).trans (State.matrixPath_reportSupply _ _))

theorem State.matrixPath_supplyTimeExpiry (s : State) : s.matrixPath allowed s.supplyTimeExpiry := by
  have put : ∀ f, s.matrixPath allowed (s.modPress f) := fun _ => State.matrixPath_of_eq rfl
  unfold State.supplyTimeExpiry
  split
  · exact .refl s
  · exact (put _).trans (State.matrixPath_reportSupply _ _)

theorem State.matrixPath_deviationExpiry (l : Lane) (c : Chan) (s : State) :
    s.matrixPath allowed (s.deviationExpiry l c) := by
  have put : ∀ f, s.matrixPath allowed (s.modLane l f) := fun _ => State.matrixPath_of_eq rfl
  unfold State.deviationExpiry
  split
  · exact .refl s
  · exact (put _).trans (State.matrixPath_reportFault _ _ _)

/-! ### The conditioner's motion, and slurry -/

theorem State.condStep_matrix (s : State) : s.condStep.matrix = s.matrix := by
  unfold State.condStep State.stepArm
  (repeat' split) <;> simp

theorem State.homingStep_matrix (b : Bool) (s : State) : (s.homingStep b).matrix = s.matrix := by
  unfold State.homingStep State.stepArm
  split <;> simp

theorem State.loweringComplete_matrix (s : State) : s.loweringComplete.matrix = s.matrix := by
  unfold State.loweringComplete
  (repeat' split) <;> simp

theorem State.liftComplete_matrix (s : State) : s.liftComplete.matrix = s.matrix := by
  unfold State.liftComplete State.afterLift
  (repeat' split) <;> simp

theorem State.condTimeouts_matrix (s : State) : s.settleTimeout.matrix = s.matrix ∧ s.liftTimeout.matrix = s.matrix ∧
    s.homingTimeout.matrix = s.matrix ∧ s.downforceFault.matrix = s.matrix := by
  unfold State.settleTimeout State.liftTimeout State.homingTimeout State.downforceFault
  refine ⟨?_, ?_, ?_, ?_⟩ <;> split <;> simp

theorem State.downforceUpdate_matrix (adc : BitVec 12) (b : Bool) (s : State) :
    (s.downforceUpdate adc b).matrix = s.matrix := by
  have sampled : (s.updateDownforce adc).matrix = s.matrix := rfl
  unfold State.downforceUpdate
  simp only
  (repeat' split)
  · rw [State.condFault_matrix, sampled]
  · rw [State.loweringComplete_matrix, sampled]
  · rw [State.liftComplete_matrix, sampled]
  · exact sampled
  · exact sampled

theorem State.flowPulse_matrix (k : Line) (s : State) : (s.flowPulse k).matrix = s.matrix := by
  unfold State.flowPulse
  simp only
  (repeat' split) <;> simp

theorem State.stopTimeout_matrix (k : Line) (s : State) : (s.stopTimeout k).matrix = s.matrix := by
  unfold State.stopTimeout
  split <;> simp

theorem State.windowEnd_matrix (s : State) : s.windowEnd.matrix = s.matrix := rfl

/-! ### A millisecond -/

theorem State.matrixPath_tickPlaten (s : State) : s.matrixPath allowed s.tickPlaten := by
  have timed : ∀ f, s.matrixPath allowed (s.modTracker f) := fun _ => State.matrixPath_of_eq rfl
  unfold State.tickPlaten
  simp only
  (repeat' split)
  · exact .refl s
  · exact (timed _).trans (State.matrixPath_stallExpiry _)
  · exact timed _
  · exact timed _

theorem State.matrixPath_tickSilence (l : Lane) (s : State) : s.matrixPath allowed (s.tickSilence l) := by
  have timed : ∀ f, s.matrixPath allowed (s.modSilence l f) := fun _ => State.matrixPath_of_eq rfl
  unfold State.tickSilence
  simp only
  (repeat' split)
  · exact .refl s
  · exact (timed _).trans (State.matrixPath_silenceExpiry l _)
  · exact timed _

theorem State.matrixPath_tickInputs (is : List InputIndex) (s : State) :
    s.matrixPath allowed (is.foldl State.tickInput s) := by
  have input : ∀ i (u : State), u.matrixPath allowed (u.tickInput i) := fun i u => by
    unfold State.tickInput
    simp only
    (repeat' split)
    · exact .refl u
    · exact (u.matrixPath_modInput _ _).trans (State.matrixPath_debounceExpiry i _)
    · exact u.matrixPath_modInput _ _
  induction is generalizing s with
  | nil => exact .refl s
  | cons i rest ih => exact (input i s).trans (ih _)

theorem State.matrixPath_tick (s : State) : s.matrixPath allowed s.tick := by
  have linked : s.matrixPath allowed s.tickedLinks :=
    (s.matrixPath_tickPlaten.trans (State.matrixPath_tickSilence .a _)).trans (State.matrixPath_tickSilence .b _)
  have lined : s.tickedLinks.matrixPath allowed s.tickedLines := State.matrixPath_of_eq (by rw [s.tickedLines_kept.1])
  have inputs : s.tickedLines.matrixPath allowed s.tickedInputs := State.matrixPath_tickInputs _ _
  exact ((linked.trans lined).trans inputs).trans (State.matrixPath_of_eq s.tick_matrix)

/-! ### Requests -/

theorem Item.matrixPath_changed (item : Item) (before s : State) : s.matrixPath allowed (item.changed before s) := by
  have silence : ∀ l (u : State), u.matrixPath allowed (u.silenceTimeChanged l) := fun l u => by
    unfold State.silenceTimeChanged
    split
    · exact u.matrixPath_silenceExpiry l
    · exact .refl u
  cases item with
  | stallLimit =>
    simp only [Item.changed, State.stallLimitChanged]
    (repeat' split)
    · exact s.matrixPath_enterStalled
    · exact .refl s
    · exact .refl s
  | stopTimeout k =>
    simp only [Item.changed, State.stopTimeoutChanged]
    split
    · exact State.matrixPath_of_eq (s.lineStops_matrix k)
    · exact .refl s
  | invertMask | mask => exact State.matrixPath_takeTargets _ _
  | linkSilence => exact (silence .a _).trans (silence .b _)
  | windowLower | windowUpper => exact State.matrixPath_of_eq s.evaluateWindow_matrix
  | hubSize | laneReach | condReach => exact State.matrixPath_of_eq s.evaluateAllInside_matrix
  | diskLifeLimit => exact State.matrixPath_of_eq (s.evaluateSpent.actIfParked_matrix.trans s.evaluateSpent_matrix)
  | limit | softHold | downforceLimit | maxFlow | recirculation | primeFlow | barMax | outletMax =>
    exact State.matrixPath_of_eq rfl
  | _ => exact .refl s

theorem State.matrixPath_applySetting (item : Item) (v : Nat) (s : State) :
    s.matrixPath allowed (s.applySetting item v) := by
  have put : ∀ f, s.matrixPath allowed (s.modSettings f) := fun _ => State.matrixPath_of_eq rfl
  unfold State.applySetting
  split
  · exact .refl s
  · exact (put _).trans (item.matrixPath_changed s _)

theorem State.addCauseUntold_matrix (l : Lane) (e : CauseEntry) (s : State) :
    (s.addCauseUntold l e).matrix = s.matrix.withCause l e := by
  unfold State.addCauseUntold State.addCauseWith
  simp only
  split
  · rfl
  · rw [State.fileHold_matrix]; rfl

theorem State.matrixPath_reevaluateLane (l : Lane) (s : State) : s.matrixPath allowed (s.reevaluateLane l) := by
  have untold : ∀ e (u : State), u.matrixPath allowed (u.addCauseUntold l e) := fun e u =>
    MatrixMove.path (u.addCauseUntold_matrix l e ▸ .caused l e _)
  exact (State.matrixPath_onRise _ _ (untold _ _)).trans (State.matrixPath_onRise _ _ (untold _ _))

theorem State.matrixPath_stationRestart (h : allowed .stationRestart) (s : State) :
    s.matrixPath allowed s.stationRestart := by
  have restarted : s.restarted.matrix = s.matrix.restarted := by
    obtain ⟨_, frame⟩ := s.restarted_frame
    rw [frame]
  have first : s.matrixPath allowed s.restarted := MatrixMove.path (restarted ▸ .restarted _ h)
  exact (first.trans (State.matrixPath_reevaluateLane .a _)).trans (State.matrixPath_reevaluateLane .b _)

theorem State.resume_matrix (l : Lane) (s : State) :
    (s.resume l).1.matrix = { s.matrix with causes := s.matrix.causes.set l [] } := by
  have fed : ∀ level (u : State), (u.resumeFeed l level).1.matrix = u.matrix := fun level u => by
    unfold State.resumeFeed State.resumeBar
    simp only
    (repeat' split) <;> rfl
  exact fed _ _

/-- A RESUME that is accepted finds no active cause in the set, and so no TRIP in a TRIPPED station (R152, R156). -/
theorem State.matrixPath_resume (h : allowed .resume) {l : Lane} {s : State} (ended : s.activeCauses l = []) :
    s.matrixPath allowed (s.resume l).1 := by
  refine MatrixMove.path (s.resume_matrix l ▸ .resumed l _ h fun station e he kind => ?_)
  refine State.activeCauses_ne_nil.2 ⟨e, he, ?_⟩ ended
  rw [kind]
  exact decide_eq_true station

/-- The kinds whose requests the matrix takes, and SET. -/
def changesMatrix : Kind → Bool
  | .set | .remoteHold | .remoteTrip | .resume | .tripClear | .stationRestart => true
  | _ => false

theorem decideRequest_matrix (p : Port) (r : Request) (s : State) (h : changesMatrix r.kind = false) :
    (decideRequest p s r).state.matrix = s.matrix := by
  cases r with
  | identRead | noticesRead => rfl
  | statusRead | noteSend | noteTake | get | mapRead =>
    simp only [decideRequest, decideStatusRead, decideNoteSend, decideNoteTake, decideGet, decideMapRead]
    (repeat' split) <;> rfl
  | mapRestore =>
    simp only [decideRequest, decideMapRestore, State.mapRestore]
    (repeat' split) <;> rfl
  | padReset | chordLoad =>
    simp only [decideRequest, decidePadReset, decideChordLoad]
    (repeat' split) <;> rfl
  | hubClaim | hubRelease | hubForceRelease =>
    simp only [decideRequest, decideHubClaim, decideHubRelease, decideHubForceRelease]
    (repeat' split) <;> simp [refuse]
  | profileStage | touchdown | release | gainLoad =>
    simp only [decideRequest, decideProfileStage, decideTouchdown, State.touchdown, decideRelease, decideGainLoad]
    (repeat' split) <;> rfl
  | lineStart | lineRestart | lineStop | feedSelect | rateSet =>
    simp only [decideRequest, decideLineStart, decideLineRestart, decideLineStartFrom, State.startLine, decideLineStop,
      decideFeedSelect, decideRateSet]
    (repeat' split) <;> rfl
  | condMode | condReset | diskReset =>
    simp only [decideRequest, decideCondMode, State.modeChanged, State.beginHoming, decideCondReset, decideDiskReset]
    (repeat' split) <;> simp [refuse, done]
  | set | remoteHold | remoteTrip | resume | tripClear | stationRestart => cases h

theorem State.matrixPath_request (p : Port) (r : Request) (h : allowed r.kind) (s : State) :
    s.matrixPath allowed (decideRequest p s r).state := by
  cases hk : changesMatrix r.kind with
  | false => exact State.matrixPath_of_eq (decideRequest_matrix p r s hk)
  | true =>
    cases r with
    | set id inst v =>
      simp only [decideRequest, decideSet]
      (repeat' split)
      · exact .refl s
      · exact .refl s
      · exact s.matrixPath_applySetting _ _
    | remoteHold =>
      have held : ∀ l h, s.matrixPath allowed (s.modMatrix fun m => { m with remoteHold := m.remoteHold.set l h }) :=
        fun _ _ => MatrixMove.path (.aside rfl rfl rfl rfl fun _ => id)
      simp only [decideRequest, decideRemoteHold, State.setRemoteHold]
      (repeat' split)
      · exact (held _ _).trans (State.matrixPath_addCause _ _ _)
      · exact held _ _
      · exact held _ _
      · exact .refl s
    | remoteTrip =>
      have told : ∀ b, s.matrixPath allowed (s.modMatrix fun m => { m with remoteTrip := b }) :=
        fun _ => MatrixMove.path (.aside rfl rfl rfl rfl fun _ => id)
      simp only [decideRequest, decideRemoteTrip]
      split
      · exact (told _).trans (State.matrixPath_onRise _ _ (State.matrixPath_tripCause _ _))
      · exact told _
      · exact .refl s
    | resume =>
      simp only [decideRequest, decideResume]
      (repeat' split)
      · exact .refl s
      · exact .refl s
      · exact .refl s
      · next ended => exact State.matrixPath_resume h (not_not.1 ended)
    | tripClear =>
      simp only [decideRequest, decideTripClear]
      (repeat' split)
      · exact .refl s
      · exact .refl s
      · exact MatrixMove.path (.tripCleared _)
    | stationRestart =>
      simp only [decideRequest, decideStationRestart]
      (repeat' split)
      · exact .refl s
      · exact .refl s
      · exact s.matrixPath_stationRestart h
    | _ => cases hk

/-! ### Requests as rows, in frames and from slots -/

theorem State.matrixPath_modPort (p : Port) (f : PortLink → PortLink) (s : State) :
    s.matrixPath allowed (s.modPort p f) := State.matrixPath_of_eq rfl

theorem State.matrixPath_hearFrame (p : Port) (s : State) : s.matrixPath allowed (s.hearFrame p) := by
  unfold State.hearFrame
  split
  · exact State.matrixPath_of_eq rfl
  · exact .refl s

theorem State.matrixPath_answerRequest (p : Port) (r : Request) (h : allowed r.kind) (s : State) :
    s.matrixPath allowed (answerRequest p r s) := by
  have heard : s.matrixPath allowed (s.heardFor p r.kind) :=
    (s.matrixPath_hearFrame p).trans (State.matrixPath_settledFor _ _)
  refine .trans ?_ (State.matrixPath_modPort p _ _)
  rcases dispatch_cases p r (s.heardFor p r.kind) with hd | hd
  · rw [hd]
    exact heard
  · rw [hd]
    exact heard.trans (State.matrixPath_request p r h _)

theorem State.matrixPath_takeRequest (p : Port) (q : SlotRequest) (h : ∀ k : Kind, q.kind = k.byte → allowed k)
    (s : State) : s.matrixPath allowed (s.takeRequest p q) := by
  have found : s.matrixPath allowed
      ((s.modPort p fun k => { k with inProcess := some q }).settledFor (Kind.ofByte q.kind)) :=
    (s.matrixPath_modPort p _).trans (State.matrixPath_settledFor _ _)
  refine .trans (.trans ?_ (State.matrixPath_modPort p _ _)) (State.matrixPath_modPort p _ _)
  rcases dispatchBytes_cases p q.kind q.payload
    ((s.modPort p fun k => { k with inProcess := some q }).settledFor (Kind.ofByte q.kind)) with hd | ⟨r, hr, hd⟩
  · rw [hd]
    exact found
  · rw [hd]
    exact found.trans (State.matrixPath_request p r (h _ hr) _)

theorem State.matrixPath_frame (p : Port) (q : SlotRequest) (crc : BitVec 16) {s : State}
    (h : (s.port p).inProcess = none → q.payload.length ≤ 60 → crc = requestCrc q.tag q.kind q.payload →
      ∀ k : Kind, q.kind = k.byte → allowed k) : s.matrixPath allowed (s.frame p q crc) := by
  unfold State.frame
  split
  · exact s.matrixPath_modPort p _
  · next hf =>
    obtain ⟨hlen, hcrc⟩ := not_or.1 hf
    set u := (s.modPort p fun k => { k with collecting := false }).hearFrame p with hu
    have hp : (u.port p).inProcess = (s.port p).inProcess := by
      rw [hu]; cases p <;> rfl
    have heard : s.matrixPath allowed u := (s.matrixPath_modPort p _).trans (State.matrixPath_hearFrame p _)
    unfold State.handToSlots
    split
    · next hn => exact heard.trans (State.matrixPath_takeRequest p q (h (hp ▸ hn) (by omega) (not_not.1 hcrc)) _)
    · exact heard.trans (State.matrixPath_modPort p _ _)
    · exact heard.trans (State.matrixPath_modPort p _ _)

theorem State.matrixPath_replySent (p : Port) {s : State} (h : ∀ q, (s.port p).sending.isSome = true →
    (s.port p).waiting = some q → ∀ k : Kind, q.kind = k.byte → allowed k) : s.matrixPath allowed (s.replySent p) := by
  unfold State.replySent
  simp only
  split
  · next sent =>
    split
    · next q hw => exact (s.matrixPath_modPort p _).trans (State.matrixPath_takeRequest p q (h q sent hw) _)
    · exact s.matrixPath_modPort p _
  · exact .refl s

end

/-! ### Commands and steps -/

/-- Every command but a hard reset moves the matrix by its moves. -/
theorem exec_matrixPath {allowed : Kind → Prop} {c : Instr} {s t : State} (hc : c ≠ .hardReset)
    (hk : ∀ k, s.takesBy c k → allowed k) (h : exec c s = .next t) : s.matrixPath allowed t := by
  have row : ∀ {f : State → State}, (∀ u, State.matrixPath allowed u (f u)) →
      (.next (f s.settled) : Host.Outcome State Fault Refusal) = .next t → s.matrixPath allowed t := fun hf ht =>
    Host.Outcome.next.inj ht ▸ s.matrixPath_settled.trans (hf _)
  have still : ∀ {f : State → State}, (∀ u : State, (f u).matrix = u.matrix) →
      (.next (f s.settled) : Host.Outcome State Fault Refusal) = .next t → s.matrixPath allowed t := fun hf =>
    row fun u => State.matrixPath_of_eq (hf u)
  have event : ∀ e : Event, exec e.command s = .next t → s.matrixPath allowed t := fun e he => matrixPath_eventRow he
  cases hq : c.request? with
  | some pr =>
    obtain ⟨p, r⟩ := pr
    have hr := Instr.eq_command hq
    have ht : answerRequest p r s = t := Host.Outcome.next.inj (by rw [← exec_request, ← hr, h])
    exact ht ▸ s.matrixPath_answerRequest p r (hk _ (.inl ⟨p, r, hr, rfl⟩))
  | none =>
    cases c with
    | hardReset => exact absurd rfl hc
    | validFrame p tag kind payload crc =>
      cases h
      refine State.matrixPath_frame p _ crc fun hp hl he k byte => hk k (.inr (.inl ⟨p, tag, payload, hp, hl, ?_⟩))
      simp only at byte he
      rw [he, byte]
    | replySent p =>
      cases h
      exact State.matrixPath_replySent p fun q sent waits k byte => hk k (.inr (.inr ⟨p, q, rfl, sent, waits, byte⟩))
    | frameError | syncByte | resetAsserted => cases h; exact State.matrixPath_of_eq rfl
    | interByteTimeout p =>
      cases h
      unfold State.interByteTimeout
      split
      · exact State.matrixPath_of_eq rfl
      · exact .refl s
    | hubEntry m => exact event (.hubEntry m) h
    | hubExit m => exact event (.hubExit m) h
    | condMapUpdated => exact event (.condMapUpdated default) h
    | gainRecompute => exact event (.gainRecompute default) h
    | dryCountUpdate => exact event (.dryCountUpdate default) h
    | indexProfileApply => exact event .indexProfileApply h
    | hardHoldVent l => exact event (.hardHoldVent l) h
    | softHoldCap l => exact event (.softHoldCap l) h
    | hardHoldBarEmpty l => exact event (.hardHoldBarEmpty l) h
    | hardHoldWithdraw l => exact event (.hardHoldWithdraw l) h
    | tripBarEmpty => exact event .tripBarEmpty h
    | condTripHalt => exact event .condTripHalt h
    | condTripClear => exact event .condTripClear h
    | mapReplaced => exact event .mapReplaced h
    | condGrant => exact event .condGrant h
    | condGrantLost => exact event .condGrantLost h
    | slurryStop => exact event .slurryStop h
    | moveArrival => cases h; exact State.matrixPath_of_eq s.moveArrival_matrix
    | platenEncoderCount e => exact row (State.matrixPath_platenCount e) h
    | indexEdge n => exact row (State.matrixPath_indexEdge n) h
    | stallTimerExpiry => exact row State.matrixPath_stallExpiry h
    | homeSwitchEdge m => exact row (State.matrixPath_homeEdge m) h
    | silenceTimerExpiry l => exact row (State.matrixPath_silenceExpiry l) h
    | pressureUpdate adc supply => exact row (State.matrixPath_pressureUpdate adc supply) h
    | supplyTimeExpiry => exact row State.matrixPath_supplyTimeExpiry h
    | deviationTimeExpiry l c => exact row (State.matrixPath_deviationExpiry l c) h
    | interlockPinChange i b => exact row (State.matrixPath_pinChange i b) h
    | debounceExpiry i => exact row (State.matrixPath_debounceExpiry i) h
    | armEncoderCount m e => exact still (State.armCount_matrix m e) h
    | touchdownDone l => exact still (State.touchdownDone_matrix l) h
    | releaseDone l => exact still (State.releaseDone_matrix l) h
    | condStep => exact still State.condStep_matrix h
    | settleTimeout => exact still (fun u => u.condTimeouts_matrix.1) h
    | liftTimeout => exact still (fun u => u.condTimeouts_matrix.2.1) h
    | homingTimeout => exact still (fun u => u.condTimeouts_matrix.2.2.1) h
    | downforceFault => exact still (fun u => u.condTimeouts_matrix.2.2.2) h
    | downforceUpdate adc up => exact still (State.downforceUpdate_matrix adc up) h
    | loweringComplete => exact still State.loweringComplete_matrix h
    | liftComplete => exact still State.liftComplete_matrix h
    | flowMeterPulse k => exact still (State.flowPulse_matrix k) h
    | stopTimeoutExpiry k => exact still (State.stopTimeout_matrix k) h
    | flowWindowEnd => exact still State.windowEnd_matrix h
    | homingStep b => exact still (State.homingStep_matrix b) h
    | _ => cases hq

/-- Every step but a hard reset moves the matrix by its moves. -/
theorem step_matrixPath {s t : State} (hr : s.pending.head? ≠ some .hardReset) (h : step s = .next t) :
    s.matrixPath s.takes t := by
  rcases step_cases h with ⟨c, rest, hp, hx⟩ | ⟨e, _, _, _, hx⟩ | ⟨_, _, ht⟩
  · have hc : c ≠ .hardReset := fun hc => hr (by rw [hp, hc]; rfl)
    have queue : s.matrixPath s.takes { s with pending := rest } := State.matrixPath_of_eq rfl
    exact queue.trans (exec_matrixPath hc (fun k hk => ⟨c, rest, hp, hk⟩) hx)
  · exact matrixPath_eventRow hx
  · rw [ht]
    exact s.matrixPath_settled.trans (State.matrixPath_tick _)

end Sys2Proof.Machine

/-!
The laws of the interlock matrix: each move keeps the cause sets and the trip state consistent (O55), and no move but a
RESUME and a STATION RESTART lowers a hold level (O59).
-/

namespace Sys2Proof.Machine
open Sys2Proof

/-! ### One entry a kind (R152) -/

/-- A cause joins an entry of its kind, or is a new entry at the end. -/
theorem addEntry_kinds (e : CauseEntry) (c : List CauseEntry) : (addEntry e c).map (·.kind) =
    if e.kind ∈ c.map (·.kind) then c.map (·.kind) else c.map (·.kind) ++ [e.kind] := by
  induction c with
  | nil => rfl
  | cons x rest ih =>
    rw [addEntry]
    by_cases hk : x.kind = e.kind
    · simp [hk]
    · rw [if_neg hk, List.map_cons, ih]
      simp only [List.map_cons, List.mem_cons, Ne.symm hk, false_or]
      split <;> rfl

theorem addEntry_nodup {e : CauseEntry} {c : List CauseEntry} (h : (c.map (·.kind)).Nodup) :
    ((addEntry e c).map (·.kind)).Nodup := by
  rw [addEntry_kinds]
  split
  · exact h
  · next new => exact List.concat_eq_append ▸ h.concat new

theorem insertTrip_nodup {c : TripCause} {set : List TripCause} (h : set.Nodup) : (insertTrip c set).Nodup := by
  unfold insertTrip
  split
  · exact h
  · next new => exact List.concat_eq_append ▸ h.concat new

theorem insertTrip_ne_nil (c : TripCause) (set : List TripCause) : insertTrip c set ≠ [] := by
  unfold insertTrip
  split
  · next hc => exact List.ne_nil_of_mem hc
  · exact List.append_ne_nil_of_right_ne_nil _ (List.cons_ne_nil _ _)

/-! ### The sets after a cause and after a trip -/

/-- Lane `l` holds the HARD cause TRIP (R157). -/
def Matrix.tripHeld (m : Matrix) (l : Lane) : Prop := ∃ e ∈ m.causes.get l, e.kind = .trip ∧ e.severity = .hard

theorem Matrix.withCause_get (l j : Lane) (e : CauseEntry) (m : Matrix) : (m.withCause l e).causes.get j =
    if j = l then addEntry e (m.causes.get l) else m.causes.get j := Lanes.get_set _ _ _ _

/-- A cause that is added keeps each entry, its severity never lowered. -/
theorem Matrix.withCause_keeps {l j : Lane} {e x : CauseEntry} {m : Matrix} (hx : x ∈ m.causes.get j) :
    ∃ y ∈ (m.withCause l e).causes.get j, y.kind = x.kind ∧ (x.severity = .hard → y.severity = .hard) := by
  rw [Matrix.withCause_get]
  split
  · next hj => exact addEntry_keeps (hj ▸ hx)
  · exact ⟨x, hx, rfl, id⟩

theorem Matrix.tripHeld_withCause {l j : Lane} {e : CauseEntry} {m : Matrix} (h : m.tripHeld j) :
    (m.withCause l e).tripHeld j := by
  obtain ⟨x, hx, kind, sev⟩ := h
  obtain ⟨y, hy, ykind, hard⟩ := Matrix.withCause_keeps (l := l) (e := e) hx
  exact ⟨y, hy, ykind.trans kind, hard sev⟩

theorem Matrix.tripHeld_added (l : Lane) (m : Matrix) : (m.withCause l (causeEntry .trip .hard)).tripHeld l := by
  obtain ⟨y, hy, kind, hard⟩ := mem_addEntry (causeEntry .trip .hard) (m.causes.get l)
  exact ⟨y, by rwa [Matrix.withCause_get, if_pos rfl], kind, hard rfl⟩

theorem Matrix.nodup_withCause {l : Lane} {e : CauseEntry} {m : Matrix}
    (h : ∀ j, ((m.causes.get j).map (·.kind)).Nodup) (j : Lane) :
    (((m.withCause l e).causes.get j).map (·.kind)).Nodup := by
  rw [Matrix.withCause_get]
  split
  · exact addEntry_nodup (h l)
  · exact h j

/-! ### Each move keeps the law -/

theorem Matrix.lawful_withCause (l : Lane) (e : CauseEntry) {m : Matrix} (h : m.lawful) : (m.withCause l e).lawful := by
  obtain ⟨inputs, kinds, held, trips, nodup, counts⟩ := h
  exact ⟨inputs, Matrix.nodup_withCause kinds, fun ht j => Matrix.tripHeld_withCause (held ht j), trips, nodup, counts⟩

theorem Matrix.lawful_trippedBy (c : TripCause) {m : Matrix} (h : m.lawful) : (m.trippedBy c).lawful := by
  obtain ⟨inputs, kinds, held, -, nodup, counts⟩ := h
  have joined : insertTrip c m.tripCauses = [] ↔ StationState.tripped = .normal :=
    iff_of_false (insertTrip_ne_nil _ _) nofun
  unfold Matrix.trippedBy
  cases hs : m.station with
  | tripped => exact ⟨inputs, kinds, fun _ => held hs, joined, insertTrip_nodup nodup, counts⟩
  | normal =>
    refine ⟨inputs, Matrix.nodup_withCause (Matrix.nodup_withCause kinds), fun _ l => ?_, joined, insertTrip_nodup nodup,
      counts⟩
    cases l with
    | a => exact Matrix.tripHeld_withCause (Matrix.tripHeld_added .a _)
    | b => exact Matrix.tripHeld_added .b _

theorem Matrix.lawful_restarted {m : Matrix} (h : m.lawful) : m.restarted.lawful :=
  ⟨h.1, fun l => by cases l <;> exact List.nodup_nil, nofun, iff_of_true rfl rfl, List.nodup_nil,
    fun l => by cases l <;> exact Nat.zero_le _⟩

theorem Matrix.lawful_hardReset (m : Matrix) : m.hardReset.lawful :=
  ⟨rfl, fun l => by cases l <;> exact List.nodup_nil, nofun, iff_of_true rfl rfl, List.nodup_nil,
    fun l => by cases l <;> exact Nat.zero_le _⟩

theorem MatrixMove.keeps_lawful {allowed : Kind → Prop} {m n : Matrix} (h : MatrixMove allowed m n) (hm : m.lawful) :
    n.lawful := by
  cases h with
  | caused l e => exact Matrix.lawful_withCause l e hm
  | tripped c => exact Matrix.lawful_trippedBy c hm
  | restarted => exact Matrix.lawful_restarted hm
  | aside inputs causes station trips counts =>
    obtain ⟨hinputs, hkinds, hheld, htrips, hnodup, hcounts⟩ := hm
    unfold Matrix.lawful
    rw [causes, station, trips]
    exact ⟨inputs.trans hinputs, hkinds, hheld, htrips, hnodup, fun l => counts l (hcounts l)⟩
  | tripCleared =>
    obtain ⟨inputs, kinds, -, -, -, counts⟩ := hm
    exact ⟨inputs, kinds, nofun, iff_of_true rfl rfl, List.nodup_nil, counts⟩
  | resumed l _ _ free =>
    obtain ⟨inputs, kinds, held, trips, nodup, counts⟩ := hm
    refine ⟨inputs, fun j => ?_, fun station => ?_, trips, nodup, counts⟩
    · show (((m.causes.set l []).get j).map (·.kind)).Nodup
      rw [Lanes.get_set]
      split
      · exact List.nodup_nil
      · exact kinds j
    · obtain ⟨e, he, kind, -⟩ := held station l
      exact absurd kind (free station e he)

/-- Settles O55: every move of the matrix keeps its law, and a hard reset obeys it. -/
theorem matrixStaysLawful : Obligations.MatrixStaysLawful := by
  intro s t hs h
  by_cases hr : s.pending.head? = some .hardReset
  · obtain ⟨rest, hp⟩ := List.head?_eq_some_iff.1 hr
    rw [step_cons hp] at h
    cases h
    exact Matrix.lawful_hardReset _
  · exact (step_matrixPath hr h).keeps (P := Matrix.lawful) (fun _ _ => MatrixMove.keeps_lawful) hs

/-! ### Hold levels (R153) -/

/-- A set that keeps each entry, its severity never lowered, has at least the level. -/
theorem levelOf_rank_le {c d : List CauseEntry}
    (h : ∀ x ∈ c, ∃ y ∈ d, x.severity = .hard → y.severity = .hard) : (levelOf c).rank ≤ (levelOf d).rank := by
  cases c with
  | nil => exact Nat.zero_le _
  | cons x rest =>
    obtain ⟨y, hy, -⟩ := h x List.mem_cons_self
    have held : levelOf d ≠ .none := levelOf_ne_none hy
    by_cases hc : (x :: rest).any (fun e => decide (e.severity = .hard)) = true
    · obtain ⟨e, he, hard⟩ := List.any_eq_true.1 hc
      obtain ⟨z, hz, raised⟩ := h e he
      have hd : d.any (fun e => decide (e.severity = .hard)) = true :=
        List.any_eq_true.2 ⟨z, hz, decide_eq_true (raised (of_decide_eq_true hard))⟩
      rw [levelOf, levelOf, if_pos hc, if_pos hd]
    · have soft : levelOf (x :: rest) = .soft := if_neg hc
      rw [soft]
      cases hd : levelOf d with
      | none => exact absurd hd held
      | soft => exact Nat.le_refl 1
      | hard => exact Nat.le_succ 1

theorem Matrix.withCause_rank (l j : Lane) (e : CauseEntry) (m : Matrix) :
    (levelOf (m.causes.get j)).rank ≤ (levelOf ((m.withCause l e).causes.get j)).rank :=
  levelOf_rank_le fun _ hx => (Matrix.withCause_keeps hx).imp fun _ hy => ⟨hy.1, hy.2.2⟩

theorem Matrix.trippedBy_rank (c : TripCause) (j : Lane) (m : Matrix) :
    (levelOf (m.causes.get j)).rank ≤ (levelOf ((m.trippedBy c).causes.get j)).rank := by
  unfold Matrix.trippedBy
  cases m.station with
  | tripped => exact Nat.le_refl _
  | normal =>
    have first := Matrix.withCause_rank .a j (causeEntry .trip .hard)
      { m with tripCauses := insertTrip c m.tripCauses, station := .tripped }
    exact first.trans (Matrix.withCause_rank .b j _ _)

/-- Only a RESUME and a STATION RESTART lower a level. -/
theorem MatrixMove.rank_le {allowed : Kind → Prop} (hresume : ¬ allowed .resume) (hrestart : ¬ allowed .stationRestart)
    {m n : Matrix} (h : MatrixMove allowed m n) (j : Lane) :
    (levelOf (m.causes.get j)).rank ≤ (levelOf (n.causes.get j)).rank := by
  cases h with
  | aside _ causes => rw [causes]
  | caused l e => exact Matrix.withCause_rank l j e m
  | tripped c => exact Matrix.trippedBy_rank c j m
  | tripCleared => exact Nat.le_refl _
  | resumed _ _ hk => exact absurd hk hresume
  | restarted _ hk => exact absurd hk hrestart

/-- Settles O59: a step that takes no RESUME and no STATION RESTART makes none of the moves that lower a level. -/
theorem holdLevelNeverFalls : Obligations.HoldLevelNeverFalls := by
  intro l s t hresume hrestart hr h
  exact (step_matrixPath hr h).keeps (P := fun m => (s.holdLevel l).rank ≤ (levelOf (m.causes.get l)).rank)
    (fun _ _ hm hle => hle.trans (hm.rank_le hresume hrestart l)) (Nat.le_refl _)

end Sys2Proof.Machine

/-!
REMOTE HOLD, REMOTE TRIP and TRIP CLEAR (O46): what a remote hold and the remote trip bit make of the matrix, and the trip
conditions that a refused TRIP CLEAR names.
-/

namespace Sys2Proof.Machine
open Sys2Proof

/-! ### REMOTE HOLD (R151) -/

/-- A lane's remote hold put, with no cause added. -/
def State.putRemoteHold (l : Lane) (h : Option Severity) (s : State) : State :=
  { s with matrix := { s.matrix with remoteHold := s.matrix.remoteHold.set l h } }

theorem remoteRises_iff (old : Option Severity) (sev : Severity) :
    remoteRises old (some sev) = true ↔ old = none ∨ (old = some .soft ∧ sev = .hard) := by
  cases old with
  | none => exact iff_of_true rfl (.inl rfl)
  | some x => cases x <;> cases sev <;> decide

section
variable {l : Lane} {sev : Severity} {s : State}

theorem State.setRemoteHold_rises (h : remoteRises (s.matrix.remoteHold.get l) (some sev) = true) :
    s.setRemoteHold l (some sev) = (s.putRemoteHold l (some sev)).addCause l (causeEntry .remote sev) := if_pos h

theorem State.setRemoteHold_still (h : ¬ remoteRises (s.matrix.remoteHold.get l) (some sev) = true) :
    s.setRemoteHold l (some sev) = s.putRemoteHold l (some sev) := if_neg h

/-- REMOTE is added with the severity of the hold that is set (R152). -/
theorem State.takesCauses_setRemoteHold (l : Lane) (sev : Severity) (s : State) :
    (s.putRemoteHold l (some sev)).takesCauses (s.setRemoteHold l (some sev)) := by
  by_cases h : remoteRises (s.matrix.remoteHold.get l) (some sev) = true
  · rw [State.setRemoteHold_rises h]
    exact State.takesCauses_addCause _ _ _ (Lanes.get_set_self _ _ _)
  · rw [State.setRemoteHold_still h]
    exact .refl _

theorem State.setRemoteHold_matrix (l : Lane) (sev : Severity) (s : State) : (s.setRemoteHold l (some sev)).matrix =
    { s.matrix with
      remoteHold := s.matrix.remoteHold.set l (some sev)
      causes := s.matrix.causes.set l ((s.setRemoteHold l (some sev)).causes l) } := by
  by_cases h : remoteRises (s.matrix.remoteHold.get l) (some sev) = true
  · rw [State.setRemoteHold_rises h, State.addCause_causes, if_pos rfl, State.addCause_matrix]
    rfl
  · have causes : s.matrix.causes.set l (s.causes l) = s.matrix.causes := Lanes.set_get_self _ _
    rw [State.setRemoteHold_still h]
    exact congrArg (fun c => { s.matrix with remoteHold := s.matrix.remoteHold.set l (some sev), causes := c }) causes.symm

theorem State.setRemoteHold_causes (h : remoteRises (s.matrix.remoteHold.get l) (some sev) = true) :
    (s.setRemoteHold l (some sev)).causes l = addEntry (causeEntry .remote sev) (s.causes l) := by
  rw [State.setRemoteHold_rises h, State.addCause_causes, if_pos rfl]
  rfl

variable {p : Port} {code : Option Nat} (h : requestLane p code = some l)
include h

theorem decideRemoteHold_set (sev : Severity) :
    decideRemoteHold p code sev.code s = done (s.setRemoteHold l (some sev)) := by
  rw [decideRemoteHold, h]
  cases sev <;> rfl

theorem decideRemoteHold_clear : decideRemoteHold p code 2 s = done (s.putRemoteHold l none) := by
  rw [decideRemoteHold, h]
  rfl

end

theorem holdActionOfCode_above {n : Nat} (h : 2 < n) : holdActionOfCode n = none := by
  obtain ⟨m, rfl⟩ := Nat.exists_eq_add_of_le' h
  rfl

theorem decideRemoteHold_badAction {p : Port} {code : Option Nat} {n : Nat} (s : State) (h : 2 < n) :
    decideRemoteHold p code n s = refuse .range s := by
  rw [decideRemoteHold, holdActionOfCode_above h]
  cases requestLane p code <;> rfl

theorem decideRemoteHold_badLane {n : Nat} (a : Nat) (s : State) (h : 1 < n) :
    decideRemoteHold .s (some n) a s = refuse .range s := by
  have lane : requestLane .s (some n) = none := laneOfCode_above h
  rw [decideRemoteHold, lane]

/-! ### REMOTE TRIP (R151, R157, R158) -/

/-- The remote trip bit put, with no trip. -/
def State.putRemoteTrip (b : Bool) (s : State) : State := { s with matrix := { s.matrix with remoteTrip := b } }

/-- The state after REMOTE TRIP SET: the bit is set, and its condition that becomes active is a trip cause. -/
def State.setRemoteTrip (s : State) : State :=
  (s.putRemoteTrip true).onRise s.matrix.remoteTrip true (·.tripCause .remote)

theorem State.takesCauses_setRemoteTrip (s : State) : (s.putRemoteTrip true).takesCauses s.setRemoteTrip :=
  State.takesCauses_onRise _ _ fun _ _ => State.takesCauses_tripCause _ _

theorem State.setRemoteTrip_bit (s : State) : s.setRemoteTrip.matrix.remoteTrip = true := by
  have frame := s.takesCauses_setRemoteTrip.caused.1
  rw [frame]
  rfl

theorem State.setRemoteTrip_rises {s : State} (h : s.matrix.remoteTrip = false) : s.tripsTo .remote s.setRemoteTrip := by
  have trips : s.setRemoteTrip = (s.putRemoteTrip true).tripCause .remote := State.onRise_of h rfl
  rw [trips]
  exact State.tripCause_tripsTo (s.putRemoteTrip true) .remote

theorem State.setRemoteTrip_still {s : State} (h : s.matrix.remoteTrip = true) : s.setRemoteTrip = s := by
  have quiet : s.setRemoteTrip = s.putRemoteTrip true := State.onRise_of_not fun hx => by rw [h] at hx; cases hx.1
  rw [quiet, ← h]
  rfl

theorem decideRemoteTrip_above {n : Nat} (s : State) (h : 1 < n) : decideRemoteTrip n s = refuse .range s := by
  obtain ⟨m, rfl⟩ := Nat.exists_eq_add_of_le' h
  rfl

/-! ### TRIP CLEAR (R159) -/

theorem Hub.intrusion_iff (h : Hub) : h.intrusion = true ↔ ∃ m, h.intruders.get m = true :=
  ⟨Hub.exists_intruder, fun ⟨_, hm⟩ => Hub.intrusion_of hm⟩

theorem TripCause.mem_all (c : TripCause) : c ∈ TripCause.all := by cases c <;> decide

theorem State.activeTrips_ne_nil {s : State} : s.activeTrips ≠ [] ↔ ∃ c, s.tripActive c = true := by
  constructor
  · intro h
    obtain ⟨c, hc⟩ := List.exists_mem_of_ne_nil _ h
    exact ⟨c, (List.mem_filter.1 hc).2⟩
  · rintro ⟨c, hc⟩
    exact List.ne_nil_of_mem (List.mem_filter.2 ⟨c.mem_all, hc⟩)

/-- The byte that names the trip causes with a property (10.1). -/
theorem tripBytes_named (f : TripCause → Bool) : ∃ named : Byte, setBytes 1 (TripCause.all.map f) = [named] ∧
    ∀ c : TripCause, named.getLsbD (TripCause.all.idxOf c) = f c := by
  obtain ⟨named, bytes, bits⟩ := setBytes_one (TripCause.all.map f)
  refine ⟨named, bytes, fun c => ?_⟩
  have place : TripCause.all.idxOf c < 8 := by cases c <;> decide
  have member : TripCause.all[TripCause.all.idxOf c]? = some c := by cases c <;> rfl
  rw [bits _ place, List.getD_eq_getElem?_getD, List.getElem?_map, member]
  rfl

section
variable {s : State}

theorem decideTripClear_normal (h : s.matrix.station = .normal) : decideTripClear s = refuse .state s := by
  rw [decideTripClear, h]

variable (h : s.matrix.station = .tripped)
include h

theorem decideTripClear_active (active : ∃ c, s.tripActive c = true) : decideTripClear s =
    { state := s, result := .causeActive, payload := setBytes 1 (TripCause.all.map s.tripActive) } := by
  rw [decideTripClear, h]
  exact if_pos (State.activeTrips_ne_nil.2 active)

theorem decideTripClear_ended (ended : ¬ ∃ c, s.tripActive c = true) : decideTripClear s = done
    { s with
      matrix := { s.matrix with station := .normal, tripCauses := [] }
      events := s.events ++ [.condTripClear] } := by
  rw [decideTripClear, h]
  exact if_neg (mt State.activeTrips_ne_nil.1 ended)

end

/-- Settles O46: a remote hold or trip that appears or rises is a cause taken, and a TRIP CLEAR goes by the active trip
conditions. -/
theorem remoteAndTripClear : Obligations.RemoteAndTripClear := by
  refine ⟨fun l p code s₀ s hs hp => ?hold, ?station⟩
  case hold =>
    obtain ⟨lane, length⟩ := requestLane_named hp
    have row : ∀ {n : Nat} {t : State} {r : Result}, decideRemoteHold p code n s = { state := t, result := r } →
        exec (.remoteHold p code n) s₀ = .next (replied p .remoteHold r [] t) := fun {n} _ _ h =>
      exec_request_replied p (.remoteHold code n) hs rfl rfl length h
    refine ⟨fun sev => ⟨_, row (decideRemoteHold_set lane sev), s.setRemoteHold_matrix l sev, ?_⟩,
      row (decideRemoteHold_clear lane), fun n hn => row (decideRemoteHold_badAction s hn)⟩
    have takes := s.takesCauses_setRemoteHold l sev
    refine ⟨takes.caused, takes.filed, takes.told, takes.frame, fun rising => ?_, fun steady => ?_⟩
    · have rises := (remoteRises_iff _ _).2 rising
      have causes := State.setRemoteHold_causes rises
      obtain ⟨e, he, kind, hard⟩ := mem_addEntry (causeEntry .remote sev) (s.causes l)
      rw [State.holdLevel, causes]
      exact ⟨⟨e, he, kind, hard⟩, fun free => by rw [free]; rfl, fun h => levelOf_addEntry_hard _ _ h, levelOf_ne_none he⟩
    · have still : ¬ remoteRises (s.matrix.remoteHold.get l) (some sev) = true := by
        rcases steady with held | held <;> rw [held] <;> cases sev <;> decide
      rw [State.setRemoteHold_still still]
      exact ⟨rfl, rfl, rfl⟩
  case station =>
    intro s₀ s hs input active
    have hold : ∀ {n a : Nat} {t : State} {r : Result}, decideRemoteHold .s (some n) a s = { state := t, result := r } →
        exec (.remoteHold .s (some n) a) s₀ = .next (replied .s .remoteHold r [] t) := fun {n a} _ _ h =>
      exec_request_replied .s (.remoteHold (some n) a) hs rfl rfl rfl h
    have trip : ∀ {n : Nat} {t : State} {r : Result}, decideRemoteTrip n s = { state := t, result := r } →
        exec (.remoteTrip .s n) s₀ = .next (replied .s .remoteTrip r [] t) := fun {n} _ _ h =>
      exec_request_replied .s (.remoteTrip n) hs rfl rfl rfl h
    have clear : ∀ {t : State} {r : Result} {bytes : List Byte},
        decideTripClear s = { state := t, result := r, payload := bytes } →
        exec (.tripClear .s) s₀ = .next (replied .s .tripClear r bytes t) :=
      exec_request_replied .s .tripClear hs rfl rfl rfl
    have active_iff : ∀ c, s.tripActive c = true ↔ active c
      | .input => s.targetActive_iff _
      | .remote => Iff.rfl
      | .hubIntrusion => s.hub.intrusion_iff
      | .platenStall | .platenLost => decide_eq_true_iff
    have takes := s.takesCauses_setRemoteTrip
    refine ⟨fun n a hn => hold (decideRemoteHold_badLane a s hn),
      ⟨s.setRemoteTrip, trip rfl, s.setRemoteTrip_bit, State.setRemoteTrip_rises, State.setRemoteTrip_still, takes.filed,
        takes.caused, takes.frame⟩,
      trip rfl, fun n hn => trip (decideRemoteTrip_above s hn), fun normal => clear (decideTripClear_normal normal),
      fun tripped => ⟨fun ⟨c, hc⟩ => ?_, fun ended => clear (decideTripClear_ended tripped ?_)⟩⟩
    · obtain ⟨named, bytes, bits⟩ := tripBytes_named s.tripActive
      have refused := decideTripClear_active tripped ⟨c, (active_iff c).2 hc⟩
      rw [bytes] at refused
      exact ⟨named, clear refused, fun x => by rw [bits, active_iff]⟩
    · rintro ⟨c, hc⟩
      exact ended c ((active_iff c).1 hc)

end Sys2Proof.Machine

/-!
Interlock pins, dry-revolution counts and the silence timer (O49).
-/

namespace Sys2Proof.Machine
open Sys2Proof

/-! ### Pins and their acceptance (R149, R150) -/

section
variable {i : InputIndex} {level : Bool} {s : State}

/-- The input as a pin's change leaves it: its timer starts with the debounce time in force (R149, log 21). -/
def InterlockInput.pinAt (level : Bool) (limit : Nat) (x : InterlockInput) : InterlockInput :=
  { x with pin := level, timer := 0, limit := limit }

theorem State.pinChange_same (h : (s.matrix.input i).pin = level) : s.pinChange i level = s := if_pos h

theorem State.pinChange_timed (h : (s.matrix.input i).pin ≠ level)
    (run : (s.matrix.input i).accepted = level ∨ 0 < s.settings.matrix.debounceTime) :
    s.pinChange i level = s.modInput i (InterlockInput.pinAt level s.settings.matrix.debounceTime) :=
  (if_neg h).trans (if_neg fun now => run.elim (fun same => now.1 same.symm) fun pos => pos.ne' now.2)

theorem State.pinChange_accepted (h : (s.matrix.input i).pin ≠ level) (differs : (s.matrix.input i).accepted ≠ level)
    (now : s.settings.matrix.debounceTime = 0) : s.pinChange i level =
      (s.modInput i (InterlockInput.pinAt level s.settings.matrix.debounceTime)).acceptLevel i :=
  (if_neg h).trans (if_pos ⟨differs.symm, now⟩)

theorem State.debounceExpiry_same (h : (s.matrix.input i).pin = (s.matrix.input i).accepted) : s.debounceExpiry i = s :=
  if_pos h

theorem State.debounceExpiry_accepted (h : (s.matrix.input i).pin ≠ (s.matrix.input i).accepted) :
    s.debounceExpiry i = s.acceptLevel i := if_neg h

end

theorem State.not_rises {before s : State} {x : Target}
    (h : before.targetActive x = true ∨ s.targetActive x = false) : ¬ before.rises s x := by
  rintro ⟨off, on⟩
  rcases h with h | h
  · rw [off] at h; cases h
  · rw [on] at h; cases h

/-- The level that an input accepts brings the targets that become active by it, and nothing else (R150). -/
theorem State.targetsTaken_acceptLevel (i : InputIndex) (s : State) :
    s.targetsTaken (s.modInput i fun x => { x with accepted := x.pin, timer := 0 }) (s.acceptLevel i) :=
  State.targetsTaken_takeTargets s _

/-! ### Dry-revolution counts (R154) -/

/-- The dry-revolution counts put. -/
def State.putDryCounts (counts : Lanes Nat) (s : State) : State :=
  { s with matrix := { s.matrix with dryCount := counts } }

/-- A lane's count is at a limit that is in force. -/
def State.dryLimited (s : State) (l : Lane) : Prop :=
  0 < s.settings.matrix.dryLimit ∧ s.settings.matrix.dryLimit ≤ s.matrix.dryCount.get l

/-- The DRY cause of a lane whose count is at the limit (R154). -/
def State.holdIfDry (l : Lane) (s : State) : State :=
  s.onRise false (decide (0 < s.settings.matrix.dryLimit) && decide (s.settings.matrix.dryLimit ≤ s.matrix.dryCount.get l))
    (·.addCause l (causeEntry .dry .soft))

section
variable {l : Lane} {s : State}

theorem State.holdIfDry_limited (h : s.dryLimited l) : s.holdIfDry l = s.addCause l (causeEntry .dry .soft) :=
  State.onRise_of rfl (Bool.and_eq_true_iff.2 ⟨decide_eq_true h.1, decide_eq_true h.2⟩)

theorem State.holdIfDry_below (h : ¬ s.dryLimited l) : s.holdIfDry l = s :=
  State.onRise_of_not fun hx => h ⟨of_decide_eq_true (Bool.and_eq_true_iff.1 hx.2).1,
    of_decide_eq_true (Bool.and_eq_true_iff.1 hx.2).2⟩

theorem State.takesCauses_holdIfDry (l : Lane) (s : State) : s.takesCauses (s.holdIfDry l) :=
  State.takesCauses_onRise _ _ fun _ _ => s.takesCauses_addCause l _ rfl

theorem State.holdIfDry_matrix (l : Lane) (s : State) :
    (s.holdIfDry l).matrix = { s.matrix with causes := (s.holdIfDry l).matrix.causes } := by
  by_cases h : s.dryLimited l
  · rw [State.holdIfDry_limited h, State.addCause_matrix]
    rfl
  · rw [State.holdIfDry_below h]

theorem State.holdIfDry_causes (h : s.dryLimited l) (j : Lane) : (s.holdIfDry l).causes j =
    if j = l then addEntry (causeEntry .dry .soft) (s.causes l) else s.causes j := by
  rw [State.holdIfDry_limited h, State.addCause_causes]

theorem State.holdIfDry_other {j : Lane} (h : j ≠ l) : (s.holdIfDry l).causes j = s.causes j := by
  by_cases hd : s.dryLimited l
  · rw [State.holdIfDry_causes hd, if_neg h]
  · rw [State.holdIfDry_below hd]

end

/-- The counts have no part in what a cause brings. -/
theorem State.addCause_putDryCounts (counts : Lanes Nat) (l : Lane) (e : CauseEntry) (s : State) :
    (s.putDryCounts counts).addCause l e = (s.addCause l e).putDryCounts counts := by
  have told : ∀ v (u : State), (u.putDryCounts counts).holdEntered l v = (u.holdEntered l v).putDryCounts counts :=
    fun v u => by cases v <;> rfl
  set u := s.putDryCounts counts
  by_cases h : (s.setCauses l (addEntry e (s.causes l))).holdLevel l = s.holdLevel l
  · have put : u.addCause l e = u.setCauses l (addEntry e (s.causes l)) := if_pos h
    have bare : s.addCause l e = s.setCauses l (addEntry e (s.causes l)) := if_pos h
    rw [put, bare]
    rfl
  · have put : u.addCause l e = (u.setCauses l (addEntry e (s.causes l))).holdEntered l _ := if_neg h
    have bare : s.addCause l e = (s.setCauses l (addEntry e (s.causes l))).holdEntered l _ := if_neg h
    rw [put, bare]
    exact told ((s.setCauses l (addEntry e (s.causes l))).holdLevel l) (s.setCauses l (addEntry e (s.causes l)))

theorem State.holdIfDry_putDryCounts {counts : Lanes Nat} {l : Lane} {s : State}
    (h : counts.get l = s.matrix.dryCount.get l) :
    (s.putDryCounts counts).holdIfDry l = (s.holdIfDry l).putDryCounts counts := by
  have limited : (s.putDryCounts counts).dryLimited l ↔ s.dryLimited l := by
    show (_ ∧ _ ≤ counts.get l) ↔ _
    rw [h]
    rfl
  by_cases hd : s.dryLimited l
  · rw [State.holdIfDry_limited hd, State.holdIfDry_limited (limited.2 hd), State.addCause_putDryCounts]
  · rw [State.holdIfDry_below hd, State.holdIfDry_below (mt limited.1 hd)]

/-- The counts after a map updated event (R154). -/
def MapUpdated.dryCounts (e : MapUpdated) (counts : Lanes Nat) : Lanes Nat :=
  ⟨dryCountAfter e.dry.a counts.a, dryCountAfter e.dry.b counts.b⟩

theorem MapUpdated.dryCounts_get (e : MapUpdated) (counts : Lanes Nat) (l : Lane) :
    (e.dryCounts counts).get l = if e.dry.get l then min 8 (counts.get l + 1) else 0 := by
  cases l <;> rfl

/-- A map updated event puts both counts, and then holds the lanes at the limit. -/
theorem State.dryUpdate_both (e : MapUpdated) (s : State) : (s.dryUpdate .a e).dryUpdate .b e =
    ((s.putDryCounts (e.dryCounts s.matrix.dryCount)).holdIfDry .a).holdIfDry .b := by
  set first := s.putDryCounts (s.matrix.dryCount.set .a (dryCountAfter e.dry.a s.matrix.dryCount.a)) with hfirst
  have counts : (first.holdIfDry .a).matrix.dryCount = first.matrix.dryCount := by rw [State.holdIfDry_matrix]
  have second : (s.dryUpdate .a e).dryUpdate .b e =
      ((first.holdIfDry .a).putDryCounts ((first.holdIfDry .a).matrix.dryCount.set .b
        (dryCountAfter e.dry.b ((first.holdIfDry .a).matrix.dryCount.get .b)))).holdIfDry .b := rfl
  have both : first.matrix.dryCount.set .b (dryCountAfter e.dry.b (first.matrix.dryCount.get .b)) =
      e.dryCounts s.matrix.dryCount := rfl
  have count : (e.dryCounts s.matrix.dryCount).get .a = first.matrix.dryCount.get .a := rfl
  have early : (first.holdIfDry .a).putDryCounts (e.dryCounts s.matrix.dryCount) =
      (first.putDryCounts (e.dryCounts s.matrix.dryCount)).holdIfDry .a := (State.holdIfDry_putDryCounts count).symm
  rw [second, counts, both, early]
  rfl

/-- What a map updated event makes of the matrix, the notices and the outstanding events (R154). -/
structure State.dryCounted (s : State) (e : MapUpdated) (t : State) : Prop where
  takes : (s.putDryCounts t.matrix.dryCount).takesCauses t
  matrix : t.matrix = { s.matrix with dryCount := t.matrix.dryCount, causes := t.matrix.causes }
  count : ∀ l, t.matrix.dryCount.get l = if e.dry.get l then min 8 (s.matrix.dryCount.get l + 1) else 0
  limited : ∀ l, (s.putDryCounts t.matrix.dryCount).dryLimited l →
    t.causes l = addEntry (causeEntry .dry .soft) (s.causes l)
  below : ∀ l, ¬ (s.putDryCounts t.matrix.dryCount).dryLimited l → t.causes l = s.causes l

theorem State.dryCounted_dryUpdate (e : MapUpdated) (s : State) :
    s.dryCounted e ((s.dryUpdate .a e).dryUpdate .b e) := by
  rw [State.dryUpdate_both]
  set v := s.putDryCounts (e.dryCounts s.matrix.dryCount)
  have first : (v.holdIfDry .a).matrix.dryCount = v.matrix.dryCount := by rw [State.holdIfDry_matrix]
  have counts : ((v.holdIfDry .a).holdIfDry .b).matrix.dryCount = e.dryCounts s.matrix.dryCount := by
    rw [State.holdIfDry_matrix, first]
    rfl
  have settings : (v.holdIfDry .a).settings = v.settings := by rw [(v.takesCauses_holdIfDry .a).frame]
  have limited_b : (v.holdIfDry .a).dryLimited .b ↔ v.dryLimited .b := by
    rw [State.dryLimited, settings, first]
    rfl
  have kept_a : ∀ u : State, (u.holdIfDry .b).causes .a = u.causes .a := fun u => State.holdIfDry_other nofun
  have kept_b : (v.holdIfDry .a).causes .b = v.causes .b := State.holdIfDry_other nofun
  constructor <;> rw [counts]
  case takes => exact (v.takesCauses_holdIfDry .a).trans (State.takesCauses_holdIfDry .b _)
  case matrix =>
    rw [State.holdIfDry_matrix, State.holdIfDry_matrix]
    rfl
  case count => exact e.dryCounts_get _
  case limited =>
    intro l h
    cases l with
    | a => rw [kept_a, State.holdIfDry_causes h, if_pos rfl]; rfl
    | b => rw [State.holdIfDry_causes (limited_b.2 h), if_pos rfl, kept_b]; rfl
  case below =>
    intro l h
    cases l with
    | a => rw [kept_a, State.holdIfDry_below h]; rfl
    | b => rw [State.holdIfDry_below (mt limited_b.1 h), kept_b]; rfl

/-! ### The silence timer (R155, R177) -/

theorem State.silenceExpiry_silent {l : Lane} {s : State} (h : (s.links.silence.get l).silent = true) :
    s.silenceExpiry l = s := if_pos h

theorem State.silenceExpiry_heard {l : Lane} {s : State} (h : (s.links.silence.get l).silent = false) :
    s.silenceExpiry l = s.goSilent l := if_neg (Bool.eq_false_iff.1 h)

theorem Lanes.eq_set {α : Type} {x y : Lanes α} {l : Lane} {v : α} (own : y.get l = v)
    (other : ∀ j, j ≠ l → y.get j = x.get j) : y = x.set l v := by
  refine Lanes.ext_get fun j => ?_
  rw [Lanes.get_set]
  split
  · next h => rw [h, own]
  · next h => exact other j h

/-- Settles O49: an accepted level takes its targets, a map updated event counts and holds, and an expiry silences a
link. -/
theorem pinsDryAndSilence : Obligations.PinsDryAndSilence := by
  refine ⟨?pins, fun l s => ⟨fun e u told => ?dry, fun s₀ hs => ⟨fun silent => ?_, fun heard => ?silence⟩⟩⟩
  case pins =>
    intro i level s₀ s hs _ x changed u accepted
    have rows : exec (.interlockPinChange i level) s₀ = .next (s.pinChange i level) ∧
        exec (.debounceExpiry i) s₀ = .next (s.debounceExpiry i) := by
      rw [← hs]
      exact ⟨rfl, rfl⟩
    obtain ⟨pin, expiry⟩ := rows
    have accept : ∀ b : State, accepted b (b.acceptLevel i) := fun b => by
      obtain ⟨takes, held, untripped, tripped, stopped, still⟩ := b.targetsTaken_acceptLevel i
      refine ⟨takes.caused, takes.filed, takes.told, takes.frame, fun l before after => held l ⟨before, after⟩,
        fun l calm => ?_, fun before after => tripped ⟨before, after⟩, fun before after => stopped ⟨before, after⟩,
        fun none => still fun x => State.not_rises (or_iff_not_imp_right.2 fun h => none x (Bool.not_eq_false _ ▸ h))⟩
      have causes := untripped (State.not_rises calm) l
      refine ⟨fun quiet => ?_, fun before after free => ?_⟩
      · rw [causes, if_neg fun h => State.not_rises quiet ⟨h.2, h.1⟩]
        rfl
      · have bare : State.causes (b.modInput i fun x => { x with accepted := x.pin, timer := 0 }) l = [] := free
        rw [causes, if_pos ⟨after, before⟩, bare]
        rfl
    rw [pin, expiry]
    exact ⟨fun same => congrArg _ (State.pinChange_same same), fun h run => congrArg _ (State.pinChange_timed h run),
      fun h differs now => ⟨_, congrArg _ (State.pinChange_accepted h differs now), accept u⟩,
      fun same => congrArg _ (State.debounceExpiry_same same),
      fun h => ⟨_, congrArg _ (State.debounceExpiry_accepted h), accept s⟩⟩
  case dry =>
    have row : exec .dryCountUpdate s = .next ((u.dryUpdate .a e).dryUpdate .b e) := by
      show execDryCountUpdate s = _
      rw [execDryCountUpdate, State.takeKind_told told]
    obtain ⟨takes, matrix, counted, limited, below⟩ := u.dryCounted_dryUpdate e
    have same : u.matrix = s.matrix := by rw [State.told_frame told]
    have settings : u.settings = s.settings := by rw [State.told_frame told]
    have causes : u.causes l = s.causes l := congrArg (fun m => m.causes.get l) same
    have count := counted l
    rw [same] at count
    refine ⟨_, row, takes.frame, takes.filed, takes.told, takes.caused, matrix, count, fun pos reached => ?_,
      fun short => ?_⟩
    · rw [← settings] at pos reached
      have held := limited l ⟨pos, reached.trans_eq count.symm⟩
      obtain ⟨x, hx, kind, -⟩ := mem_addEntry (causeEntry .dry .soft) (u.causes l)
      rw [← held] at hx
      refine ⟨⟨x, hx, kind⟩, levelOf_ne_none hx, fun free => ?_⟩
      rw [held, causes, free]
      rfl
    · rw [← settings, ← count] at short
      exact (below l fun ⟨pos, reached⟩ => short.elim pos.ne' (Nat.not_lt.2 reached)).trans causes
  case silence =>
    obtain ⟨tells, frame, matrix, other, silence, down, up⟩ := s.silenced_goSilent l
    have causes : (s.goSilent l).matrix.causes = s.matrix.causes.set l ((s.goSilent l).causes l) :=
      Lanes.eq_set rfl fun j hj => (other j hj).2
    rw [causes] at matrix
    refine ⟨_, ?_, Lanes.eq_set silence fun j hj => (other j hj).1, frame, tells.filed, tells.caused, matrix, tells.told,
      fun raised => ?_, down⟩
    · rw [← State.silenceExpiry_heard heard, ← hs]
      rfl
    · obtain ⟨-, still, events, ports⟩ := up raised
      exact ⟨still, events, fun p => congrArg (·.get p) ports⟩
  · rw [← State.silenceExpiry_silent silent, ← hs]
    rfl

end Sys2Proof.Machine

/-!
Filings (R171): the operations that change the ports by filing notices alone. The matrix, the hub and the conditioner.
-/

namespace Sys2Proof.Machine
open Sys2Proof

/-! ### Filings -/

/-- From `k` to `m` names are filed in the port's notice set, none twice, and nothing else of the port changes (R171). -/
def PortLink.files (k m : PortLink) : Prop :=
  m = { k with notices := m.notices } ∧ (k.notices.Nodup → m.notices.Nodup)

/-- From `s` to `t` the ports change by filings alone (R171). -/
def State.files (s t : State) : Prop := ∀ p, (s.port p).files (t.port p)

theorem State.files.refl (s : State) : s.files s := fun _ => ⟨rfl, id⟩

theorem State.files.trans {s t u : State} (h : s.files t) (k : t.files u) : s.files u := fun p => by
  obtain ⟨first, nodup⟩ := h p
  obtain ⟨second, nodup'⟩ := k p
  refine ⟨?_, nodup' ∘ nodup⟩
  rw [second, first]

theorem State.files_of_links {s t : State} (h : t.links = s.links) : s.files t := fun p => by
  have port : t.port p = s.port p := congrArg (fun k => k.ports.get p) h
  rw [port]
  exact ⟨rfl, id⟩

theorem State.files.raise {s t : State} (e : Event) (h : s.files t) : s.files (t.raise e) := h

/-- Filings keep the law of every port. -/
theorem State.files.lawful {s t : State} (h : s.files t) (hs : s.linksLawful) : t.linksLawful := fun p => by
  obtain ⟨frame, nodup⟩ := h p
  obtain ⟨once, box, slots⟩ := hs p
  refine ⟨nodup once, ?_, ?_⟩ <;> rw [frame]
  · exact box
  · exact slots

theorem State.files_file (p : Port) (n : Notice) (s : State) : s.files (s.file p n) := fun q => by
  rw [State.file_port]
  split
  · next h => exact h ▸ ⟨rfl, nodup_fileInto n _⟩
  · exact ⟨rfl, id⟩

theorem State.files_fileAll (n : Notice) (s : State) : s.files (s.fileAll n) :=
  ((s.files_file .s n).trans (State.files_file .a n _)).trans (State.files_file .b n _)

theorem State.files_fileHold (l : Lane) (s : State) : s.files (s.fileHold l) :=
  (s.files_file _ _).trans (State.files_file _ _ _)

theorem State.files_onRise (b a : Bool) {f : State → State} {s : State} (h : s.files (f s)) : s.files (s.onRise b a f) := by
  unfold State.onRise
  split
  · exact h
  · exact .refl s

/-! ### Causes and trips -/

theorem State.files_addCauseWith (rise : HoldLevel → State → State) (l : Lane) (e : CauseEntry) (s : State)
    (hr : ∀ v u, State.files u (rise v u)) : s.files (s.addCauseWith rise l e) := by
  have put : s.files (s.setCauses l (addEntry e (s.causes l))) := .refl s
  unfold State.addCauseWith
  simp only
  split
  · exact put
  · exact put.trans (hr _ _)

theorem State.files_holdEntered (l : Lane) (v : HoldLevel) (s : State) : s.files (s.holdEntered l v) :=
  (s.files_fileHold l).trans (State.files_of_links ((s.fileHold l).tellLevel_links l v))

theorem State.files_addCause (l : Lane) (e : CauseEntry) (s : State) : s.files (s.addCause l e) :=
  State.files_addCauseWith (State.holdEntered l) l e s fun v u => u.files_holdEntered l v

theorem State.files_addCauseUntold (l : Lane) (e : CauseEntry) (s : State) : s.files (s.addCauseUntold l e) :=
  State.files_addCauseWith (fun _ => State.fileHold l) l e s fun _ u => u.files_fileHold l

theorem State.files_addCauseBoth (e : CauseEntry) (s : State) : s.files (s.addCauseBoth e) :=
  (s.files_addCause .a e).trans (State.files_addCause .b e _)

theorem State.files_tripCause (c : TripCause) (s : State) : s.files (s.tripCause c) := by
  unfold State.tripCause
  simp only
  split
  · exact .refl s
  · set tripped := s.modMatrix fun m => { m with tripCauses := insertTrip c m.tripCauses, station := .tripped }
    have filed : s.files (tripped.fileAll .tripEntered) := tripped.files_fileAll _
    exact State.files.raise _ (State.files.raise _ (filed.trans (State.files_addCauseBoth _ _)))

theorem State.files_takeTargets (before s : State) : s.files (s.takeTargets before) := by
  have hold : ∀ b a l e (u : State), u.files (u.onRise b a (·.addCause l e)) := fun b a l e u =>
    State.files_onRise b a (u.files_addCause l e)
  exact (((hold _ _ _ _ _).trans (hold _ _ _ _ _)).trans (State.files_onRise _ _ (State.files_tripCause _ _))).trans
    (State.files_onRise _ _ (.refl _))

/-! ### The hub -/

theorem State.files_tellGrant (m : Arm) (s : State) : s.files (s.tellGrant m) := by
  unfold State.tellGrant
  split
  · exact s.files_file _ _
  · exact .refl s

theorem State.files_tellLoss (m : Arm) (s : State) : s.files (s.tellLoss m) := by
  unfold State.tellLoss
  split
  · exact s.files_file _ _
  · exact .refl s

theorem State.files_endGrant (s : State) : s.files s.endGrant := by
  unfold State.endGrant
  split
  · exact .refl s
  · next m rest _ => exact ((s.modHub fun h => { h with waitList := rest }).grantHub m).files_tellGrant m

theorem State.files_releaseHub (m : Arm) (s : State) : s.files (s.releaseHub m).2 := by
  unfold State.releaseHub
  (repeat' split)
  · exact .refl s
  · exact s.files_endGrant
  · exact .refl s
  · exact .refl s

theorem State.files_hubEntry (m : Arm) (s : State) : s.files (s.hubEntry m) := by
  unfold State.hubEntry
  split
  · exact .refl s
  · exact State.files_onRise (s := s.modHub _) _ _ (State.files_tripCause _ _)

theorem State.files_hubExit (m : Arm) (s : State) : s.files (s.hubExit m) := by
  unfold State.hubExit
  (repeat' split)
  · exact s.files_endGrant
  · exact .refl s
  · exact .refl s

/-! ### The conditioner -/

theorem State.files_condGiveUp (s : State) : s.files s.condGiveUp := s.dropGrant.files_releaseHub .cond

theorem State.files_dealFor (x : CondTarget) (s : State) : s.files (s.dealFor x) := by
  have given : s.files (s.setTarget (some x)).condGiveUp.beginWork :=
    (s.setTarget (some x)).files_condGiveUp.trans (State.files_of_links (State.beginWork_links _))
  unfold State.dealFor
  simp only
  (repeat' split)
  · exact State.files_of_links (by simp)
  · exact State.files_of_links (by simp)
  · exact given

theorem State.files_returnToPark (s : State) : s.files s.returnToPark :=
  (s.setTarget (some .park)).files_condGiveUp.trans (State.files_of_links (State.startMove_links _ _))

theorem State.files_goIdle (s : State) : s.files s.goIdle := by
  unfold State.goIdle
  split
  · exact .refl s
  · exact s.files_returnToPark

theorem State.files_select (s : State) : s.files s.select := by
  unfold State.select
  (repeat' split)
  · exact s.files_goIdle
  · exact s.files_dealFor _
  · exact (s.setTarget none).files_condGiveUp
  · exact s.files_goIdle

theorem State.files_sweepStart (s : State) : s.files s.sweepStart := by
  unfold State.sweepStart
  split
  · exact s.files_goIdle
  · exact s.files_dealFor _

theorem State.files_actOnMode (s : State) : s.files s.actOnMode := by
  unfold State.actOnMode
  split
  · exact .refl s
  · exact s.files_select
  · exact s.files_sweepStart

theorem State.files_enterParked (s : State) : s.files s.enterParked := by
  have dropped : s.files s.dropTarget := by
    unfold State.dropTarget
    split
    · exact (s.setTarget none).files_condGiveUp
    · exact .refl s
  exact dropped.trans (State.files_actOnMode (s.dropTarget.condEnter .parked))

theorem State.files_modeActs (s : State) : s.files s.modeActs := by
  unfold State.modeActs
  split
  · exact s.files_returnToPark
  · exact s.files_select
  · exact s.files_sweepStart

theorem State.files_modeChanged (s : State) : s.files s.modeChanged := by
  unfold State.modeChanged
  cases s.cond.state with
  | parked => exact s.files_actOnMode
  | waitHub | waitClear | moving | returning => exact s.files_modeActs
  | unreferenced | lifting => simp only; split <;> exact .refl s
  | lowering | dwelling | sweeping | homing | halted | fault => exact .refl s

theorem State.files_evaluateSpent (s : State) : s.files s.evaluateSpent :=
  State.files_onRise (s := s.modCond _) _ _ (State.files_file _ _ _)

theorem State.files_actIfParked (s : State) : s.files s.actIfParked := by
  unfold State.actIfParked
  split
  · exact s.files_actOnMode
  · exact .refl s

theorem State.files_condMapUpdated (u : MapUpdated) (s : State) : s.files (s.condMapUpdated u) := by
  have rebuilt : s.files s.rebuild := by
    unfold State.rebuild
    split <;> exact .refl s
  have counted : ∀ v : State, v.files (v.countDiskLife u.diskCut) := fun v => by
    unfold State.countDiskLife
    split
    · exact State.files_evaluateSpent (v.modCond _)
    · exact .refl v
  have worked : ∀ v : State, v.files v.updatedWork := fun v => by
    have selected : v.files (if v.cond.mode = .map then v.select else v) := by
      split
      · exact v.files_select
      · exact .refl v
    unfold State.updatedWork
    cases v.cond.state with
    | dwelling =>
      simp only [State.dwellTest]
      (repeat' split) <;> exact .refl v
    | waitHub | waitClear | parked => exact selected
    | sweeping =>
      simp only
      split <;> exact .refl v
    | unreferenced | lifting | moving | returning | lowering | homing | halted | fault => exact .refl v
  exact (rebuilt.trans (counted _)).trans (worked _)

theorem State.files_condGrant (s : State) : s.files s.condGrant := by
  unfold State.condGrant
  (repeat' split)
  · exact State.files_of_links s.beginWork_links
  · exact .refl s
  · exact .refl s
  · exact .refl s
  · exact s.files_releaseHub .cond
  · exact s.files_releaseHub .cond

theorem State.reclaim_links (goOn otherwise : State → State) (s : State) (hg : ∀ u, (goOn u).links = u.links)
    (ho : ∀ u, (otherwise u).links = u.links) : (s.reclaim goOn otherwise).links = s.links := by
  unfold State.reclaim
  simp only
  split
  · rw [hg, State.claimHub_links, State.dropGrant_links]
  · rw [ho, State.claimHub_links, State.dropGrant_links]

theorem State.condGrantLost_links (s : State) : s.condGrantLost.links = s.links := by
  unfold State.condGrantLost
  (repeat' split)
  · exact State.reclaim_links _ _ s (fun _ => rfl) fun _ => rfl
  · rfl
  · exact State.reclaim_links _ _ s (fun _ => rfl) fun _ => rfl
  · rfl
  · exact s.startStroke_links _
  · rfl
  · rfl

theorem State.files_condFault (k : FaultKind) (s : State) : s.files (s.condFault k) :=
  State.files_file .s .condFault (State.withdrawClaim .cond (s.modCond _))

theorem State.files_followingCheck (s : State) : s.files s.followingCheck := by
  unfold State.followingCheck
  split
  · exact s.files_condFault _
  · exact .refl s

theorem State.files_settleTimeout (s : State) : s.files s.settleTimeout := by
  unfold State.settleTimeout
  split
  · exact s.files_condFault _
  · exact .refl s

theorem State.files_liftTimeout (s : State) : s.files s.liftTimeout := by
  unfold State.liftTimeout
  split
  · exact s.files_condFault _
  · exact .refl s

theorem State.files_homingTimeout (s : State) : s.files s.homingTimeout := by
  unfold State.homingTimeout
  split
  · exact s.files_condFault _
  · exact .refl s

theorem State.files_downforceFault (s : State) : s.files s.downforceFault := by
  unfold State.downforceFault
  split
  · exact State.files_condFault _ (s.modCond _)
  · exact .refl s

theorem State.files_condStep (s : State) : s.files s.condStep := by
  unfold State.condStep
  (repeat' split)
  · exact .refl s
  · exact .refl s
  · next r _ _ =>
    have stepped : s.files (s.stepArm (decide (s.cond.stepPos.toInt < r))).startSettle :=
      State.files_of_links (State.startSettle_links _)
    exact stepped.trans (State.files_followingCheck _)

theorem State.files_moveArrival (s : State) : s.files s.moveArrival := by
  have stroke : ∀ d, s.files (s.strokeEnd d) := fun d => State.files_of_links (by
    unfold State.strokeEnd
    (repeat' split)
    · exact s.startStroke_links _
    · exact State.reclaim_links _ _ s (fun u => u.startStroke_links _) fun _ => rfl
    · exact s.startStroke_links _)
  unfold State.moveArrival
  (repeat' split)
  · exact .refl s
  · exact s.files_enterParked
  · exact stroke _
  · exact .refl s
  · exact .refl s

theorem State.loweringComplete_links (s : State) : s.loweringComplete.links = s.links := by
  unfold State.loweringComplete
  (repeat' split)
  · rfl
  · exact s.startStroke_links _
  · exact s.startStroke_links _
  · rfl
  · rfl

theorem State.files_liftComplete (s : State) : s.files s.liftComplete := by
  have lifted : ∀ p, s.files (s.afterLift p) := fun p => by
    cases p with
    | select => exact s.files_select
    | sweep => exact s.files_sweepStart
    | waitHub => exact s.files_dealFor _
    | returnToPark => exact s.files_returnToPark
    | halt =>
      simp only [State.afterLift]
      split
      · exact State.files_returnToPark (s.modCond _)
      · exact .refl s
  unfold State.liftComplete
  (repeat' split)
  · exact lifted _
  · exact .refl s
  · exact .refl s

theorem State.files_downforceUpdate (adc : BitVec 12) (b : Bool) (s : State) : s.files (s.downforceUpdate adc b) := by
  have sampled : s.files (s.updateDownforce adc) := .refl s
  unfold State.downforceUpdate
  simp only
  (repeat' split)
  · exact sampled.trans (State.files_condFault _ _)
  · exact sampled.trans (State.files_of_links (State.loweringComplete_links _))
  · exact sampled.trans (State.files_liftComplete _)
  · exact sampled
  · exact sampled

theorem State.condTripHalt_links (s : State) : s.condTripHalt.links = s.links := by
  unfold State.condTripHalt
  cases s.cond.state <;> rfl

theorem State.files_condTripClear (s : State) : s.files s.condTripClear := by
  unfold State.condTripClear
  cases s.cond.state with
  | halted => exact s.files_returnToPark
  | unreferenced | lifting => simp only; split <;> exact .refl s
  | _ => exact .refl s

theorem State.files_condHomeEdge (s : State) : s.files s.condHomeEdge := by
  unfold State.condHomeEdge
  simp only
  split
  · exact State.files_enterParked (s.modCond _)
  · exact State.files_of_links (State.startSettle_links (s.modCond _))

end Sys2Proof.Machine

/-!
Filings (R171), second part: pressure, slurry, the interlock inputs, the platen, what is outstanding, and a millisecond.
-/

namespace Sys2Proof.Machine
open Sys2Proof

/-! ### The pressure controller and the slurry unit -/

theorem State.files_touchdownDone (l : Lane) (s : State) : s.files (s.touchdownDone l) := by
  unfold State.touchdownDone
  split
  · exact State.files_file _ _ (State.deriveDrive l (s.modLane l _))
  · exact .refl s

theorem State.files_releaseDone (l : Lane) (s : State) : s.files (s.releaseDone l) := by
  unfold State.releaseDone
  split
  · exact State.files_file _ _ (State.deriveDrive l (s.modLane l _))
  · exact .refl s

theorem State.files_reportFault (l : Lane) (b : Bool) (s : State) : s.files (s.reportFault l b) :=
  State.files_onRise _ _ (s.files_addCause _ _)

theorem State.files_reportSupply (b : Bool) (s : State) : s.files (s.reportSupply b) :=
  State.files_onRise (s := s.modPress _) _ _ (State.files_addCauseBoth _ _)

theorem State.files_pressureUpdate (adc : Lanes (Six (BitVec 12))) (supply : BitVec 12) (s : State) :
    s.files (s.pressureUpdate adc supply) := by
  set low := decide (supplyOf supply < s.settings.press.supplyMin)
  have stepped : s.files ((s.updateLane .a low adc.a).updateLane .b low adc.b) := .refl s
  have completed := (((stepped.trans (State.files_touchdownDone .a _)).trans (State.files_touchdownDone .b _)).trans
    (State.files_releaseDone .a _)).trans (State.files_releaseDone .b _)
  have reported := (completed.trans (State.files_reportFault .a (s.pressureFault .a) _)).trans
    (State.files_reportFault .b (s.pressureFault .b) _)
  exact reported.trans (State.files_reportSupply _ (State.modPress _ _))

theorem State.files_supplyTimeExpiry (s : State) : s.files s.supplyTimeExpiry := by
  unfold State.supplyTimeExpiry
  split
  · exact .refl s
  · exact State.files_reportSupply _ (s.modPress _)

theorem State.files_deviationExpiry (l : Lane) (c : Chan) (s : State) : s.files (s.deviationExpiry l c) := by
  unfold State.deviationExpiry
  split
  · exact .refl s
  · exact State.files_reportFault l _ (s.modLane l _)

theorem State.files_applyAtIndex (l : Lane) (s : State) : s.files (s.applyAtIndex l) := by
  unfold State.applyAtIndex
  split
  · exact (s.applyProfile l).files_file _ _
  · exact .refl s

theorem State.files_moveBar (k : Line) (l : Lane) (s : State) : s.files (s.moveBar k l) := by
  unfold State.moveBar
  (repeat' split)
  · exact State.files_file _ _ (s.setFeed l _ _)
  · exact State.files_file _ _ (s.setFeed l _ _)
  · exact .refl s

theorem State.files_lineStops (k : Line) (s : State) : s.files (s.lineStops k) := by
  have stopped : ∀ f, s.files (s.modLine k f) := fun _ => .refl s
  have moved := ((stopped fun x =>
    { x with state := .stopped, duty := 0, prime := if x.state = .priming then 0 else x.prime }).trans
      (State.files_moveBar k .a _)).trans (State.files_moveBar k .b _)
  exact (moved.trans (State.files_file .s .lineStopped _)).trans (State.files_of_links (State.recompute_links _))

theorem State.files_stopTimeout (k : Line) (s : State) : s.files (s.stopTimeout k) := by
  unfold State.stopTimeout
  split
  · exact s.files_lineStops k
  · exact .refl s

theorem State.files_flowPulse (k : Line) (s : State) : s.files (s.flowPulse k) := by
  unfold State.flowPulse
  simp only
  (repeat' split)
  · exact .refl s
  · exact State.files_file .s .lineReady (State.modLine k _ (State.modLine k _ (s.modLine k _)))
  · exact .refl s
  · exact .refl s

/-! ### Silence, dry revolutions and pins -/

theorem State.files_modSilence (l : Lane) (f : Silence → Silence) (s : State) : s.files (s.modSilence l f) :=
  fun _ => ⟨rfl, id⟩

theorem State.files_silenceExpiry (l : Lane) (s : State) : s.files (s.silenceExpiry l) := by
  unfold State.silenceExpiry State.goSilent
  split
  · exact .refl s
  · exact (s.files_modSilence l _).trans (State.files_onRise _ _ (State.files_addCause _ _ _))

theorem State.files_hearFrame (p : Port) (s : State) : s.files (s.hearFrame p) := by
  unfold State.hearFrame
  split
  · exact s.files_modSilence _ _
  · exact .refl s

theorem State.files_dryUpdate (l : Lane) (u : MapUpdated) (s : State) : s.files (s.dryUpdate l u) :=
  State.files_onRise (s := s.modMatrix _) _ _ (State.files_addCause _ _ _)

theorem State.files_acceptLevel (i : InputIndex) (s : State) : s.files (s.acceptLevel i) :=
  State.files_takeTargets s (s.modInput i _)

theorem State.files_debounceExpiry (i : InputIndex) (s : State) : s.files (s.debounceExpiry i) := by
  unfold State.debounceExpiry
  split
  · exact .refl s
  · exact s.files_acceptLevel i

theorem State.files_pinChange (i : InputIndex) (b : Bool) (s : State) : s.files (s.pinChange i b) := by
  unfold State.pinChange
  simp only
  (repeat' split)
  · exact .refl s
  · exact State.files_acceptLevel i (s.modInput i _)
  · exact .refl s

/-! ### Taking what is outstanding -/

theorem State.files_take (e : Event) (s : State) : s.files (s.take e) := by
  cases e with
  | hubEntry m => exact s.files_hubEntry m
  | hubExit m => exact s.files_hubExit m
  | condMapUpdated u => exact s.files_condMapUpdated u
  | dryCountUpdate u => exact (s.files_dryUpdate .a u).trans (State.files_dryUpdate .b u _)
  | indexProfileApply => exact (s.files_applyAtIndex .a).trans (State.files_applyAtIndex .b _)
  | condTripHalt => exact State.files_of_links s.condTripHalt_links
  | condTripClear => exact s.files_condTripClear
  | condGrant => exact s.files_condGrant
  | condGrantLost => exact State.files_of_links s.condGrantLost_links
  | gainRecompute | hardHoldVent | softHoldCap | hardHoldBarEmpty | hardHoldWithdraw | tripBarEmpty | mapReplaced
  | slurryStop => exact State.files_of_links (by simp [State.take, State.emptyQueue])

theorem State.files_settled (s : State) : s.files s.settled := by
  refine keeps_settled (P := s.files) (fun t e rest _ h => ?_) (fun t h => h.trans t.files_moveArrival) (.refl s)
  have taken : t.files (t.modEvents fun _ => rest) := .refl t
  exact (h.trans taken).trans (State.files_take e _)

theorem State.files_settledFor (k : Option Kind) (s : State) : s.files (s.settledFor k) :=
  keeps_settledFor (P := s.files) (fun t h => h.trans t.files_settled)
    (fun t f h => h.trans (State.files_of_links (t.modEvents_links f))) k (.refl s)

theorem files_eventRow {e : Event} {s t : State} (h : exec e.command s = .next t) : s.files t := by
  rcases exec_event_cases h with rfl | ⟨x, -, rfl⟩
  · exact .refl t
  · exact State.files_take x (s.modEvents (·.erase x))

/-! ### The platen and the arms -/

theorem State.files_trackerChanged (before : TrackerState) (s : State) : s.files (s.trackerChanged before) := by
  have told := s.files_fileAll .platenState
  unfold State.trackerChanged
  simp only
  (repeat' split)
  · exact .refl s
  · exact told.trans (State.files_tripCause _ _)
  · exact told.trans (State.files_tripCause _ _)
  · exact told
  · exact told

theorem State.files_evaluateWindow (s : State) : s.files s.evaluateWindow := by
  unfold State.evaluateWindow
  simp only
  split
  · exact .refl s
  · exact State.files_fileAll _ (s.modTracker _)

theorem State.files_measureSpeed (period : Nat) (s : State) : s.files (s.measureSpeed period) :=
  State.files_evaluateWindow (s.modTracker _)

theorem State.files_closeNotices (old : PadMap) (s : State) : s.files (s.closeNotices old) := by
  have filed : ∀ b p n (u : State), u.files (u.onRise false b (·.file p n)) := fun _ p n u =>
    State.files_onRise _ _ (u.files_file p n)
  exact (((filed _ _ _ _).trans (filed _ _ _ _)).trans (filed _ _ _ _)).trans
    (State.files_onRise _ _ (State.files_fileAll _ _))

theorem State.files_closeRevolution (v o : Bool) (s : State) : s.files (s.closeRevolution v o) := by
  unfold State.closeRevolution
  simp only
  split
  · exact .refl s
  · exact State.files_closeNotices s.accrue.map (s.accrue.modMap _)

theorem State.files_closedAt (k : IndexKind) (s : State) : s.files (s.closedAt k) := by
  have closed := s.files_closeRevolution (s.tracker.verdictSuspect k) (s.tracker.stateAfter k).outside
  unfold State.closedAt
  simp only
  split
  · exact closed.trans (State.files_measureSpeed _ _)
  · exact closed

theorem State.files_indexEvent (k : IndexKind) (s : State) : s.files (s.indexEvent k) :=
  ((s.files_closedAt k).trans (State.files_trackerChanged _ (State.modTracker _ _))).raise _

theorem State.files_indexEdge (n : Nat) (s : State) : s.files (s.indexEdge n) := by
  unfold State.indexEdge
  split
  · exact State.files_trackerChanged _ (s.startRevolution.modTracker _)
  · exact State.files_indexEvent _ (s.modTracker _)

theorem State.files_platenCount (e : PlatenEdge) (s : State) : s.files (s.platenCount e) := by
  unfold State.platenCount
  split
  · exact .refl s
  · unfold State.forwardCount State.sectorMark
    (repeat' split)
    · exact s.files_indexEvent _
    · exact .refl s
    · exact .refl s
  · unfold State.reverseCount State.reverseCrossing
    simp only
    (repeat' split)
    · exact s.files_indexEvent _
    · exact .refl s
    · exact State.files_file _ _ (State.modTracker _ (State.disturb (s.modTracker _)))
    · exact .refl s
  · exact .refl s

theorem State.files_enterStalled (s : State) : s.files s.enterStalled := by
  unfold State.enterStalled
  split
  · exact State.files_trackerChanged _ (s.disturb.modTracker _)
  · exact State.files_trackerChanged _ (s.disturb.modTracker _)
  · exact .refl s
  · exact .refl s

theorem State.files_stallExpiry (s : State) : s.files s.stallExpiry := by
  unfold State.stallExpiry
  split
  · exact s.files_enterStalled
  · exact .refl s

theorem State.files_armCount (m : Arm) (e : ArmEdge) (s : State) : s.files (s.armCount m e) := by
  have counted : ∀ f, s.files ((s.modArm m f).evaluateInside m) := fun _ =>
    State.files_of_links (State.evaluateInside_links _ _)
  unfold State.armCount
  simp only
  split
  · exact (counted _).trans (State.files_followingCheck _)
  · exact counted _

theorem State.files_cross (m : Arm) (s : State) : s.files (s.cross m) := by
  unfold State.cross
  simp only
  (repeat' split)
  · exact .refl s
  · exact State.files_hubEntry m (s.modArm m _)
  · exact State.files_hubExit m (s.modArm m _)

theorem State.files_homeEdge (m : Arm) (s : State) : s.files (s.homeEdge m) := by
  have loaded : ∀ f, s.files (s.modArm m f) := fun _ => .refl s
  have inside : ∀ u : State, u.files (u.evaluateInside m) := fun u => State.files_of_links (u.evaluateInside_links m)
  unfold State.homeEdge
  simp only
  (repeat' split)
  · exact (loaded _).trans (inside _)
  · exact ((loaded _).trans (State.files_cross m _)).trans (State.files_condHomeEdge _)
  · exact ((loaded _).trans (inside _)).trans (State.files_condHomeEdge _)

/-! ### A millisecond -/

theorem State.files_tickPlaten (s : State) : s.files s.tickPlaten := by
  unfold State.tickPlaten
  simp only
  (repeat' split)
  · exact .refl s
  · exact State.files_stallExpiry (s.modTracker _)
  · exact .refl s
  · exact .refl s

theorem State.files_tickSilence (l : Lane) (s : State) : s.files (s.tickSilence l) := by
  unfold State.tickSilence
  simp only
  (repeat' split)
  · exact .refl s
  · exact (s.files_modSilence l _).trans (State.files_silenceExpiry l _)
  · exact s.files_modSilence l _

theorem State.files_tickLines (s : State) : s.files s.tickLines := by
  have stop : ∀ (b : Bool) k (u : State), u.files (if b then u.stopTimeout k else u) := fun b k u => by
    split
    · exact u.files_stopTimeout k
    · exact .refl u
  have timed : ∀ f, s.files (s.modSlurry f) := fun _ => .refl s
  exact (((timed _).trans (stop _ .l1 _)).trans (stop _ .l2 _)).trans (stop _ .l3 _)

theorem State.tickWindow_links (s : State) : s.tickWindow.links = s.links := by
  unfold State.tickWindow
  simp only
  split <;> rfl

theorem State.files_tickInputs (is : List InputIndex) (s : State) : s.files (is.foldl State.tickInput s) := by
  have input : ∀ i (u : State), u.files (u.tickInput i) := fun i u => by
    unfold State.tickInput
    simp only
    (repeat' split)
    · exact .refl u
    · exact State.files_debounceExpiry i (u.modInput i _)
    · exact .refl u
  induction is generalizing s with
  | nil => exact .refl s
  | cons i rest ih => exact (input i s).trans (ih _)

theorem State.files_tickCond (s : State) : s.files s.tickCond := by
  unfold State.tickCond
  simp only
  (repeat' split)
  · exact State.files_settleTimeout (s.modCond _)
  · exact State.files_liftTimeout (s.modCond _)
  · exact State.files_homingTimeout (s.modCond _)
  · exact .refl s

theorem State.files_tick (s : State) : s.files s.tick := by
  have linked := (s.files_tickPlaten.trans (State.files_tickSilence .a _)).trans (State.files_tickSilence .b _)
  have lined := (linked.trans (State.files_tickLines _)).trans (State.files_of_links (State.tickWindow_links _))
  exact (lined.trans (State.files_tickInputs (List.finRange 8) _)).trans (State.files_tickCond _)

end Sys2Proof.Machine

/-!
The payloads of requests both ways (10.1): a well-formed request's payload reads back as the request, and what a payload
spells has a length that its kind allows.
-/

namespace Sys2Proof.Machine
open Sys2Proof

/-! ### Numbers in bytes -/

theorem fitsByte_iff {n : Nat} : fitsByte n = true ↔ n < 256 := decide_eq_true_iff
theorem fitsWord_iff {n : Nat} : fitsWord n = true ↔ n < 65536 := decide_eq_true_iff

/-- A number that fits its bytes reads back. -/
theorem beNat_beBytes_of_lt {w n : Nat} (h : n < 256 ^ w) : beNat (beBytes w n) = n := by
  rw [beNat_beBytes, Nat.mod_eq_of_lt h]

theorem toNat_ofNat_of_fitsByte {n : Nat} (h : fitsByte n = true) : (BitVec.ofNat 8 n).toNat = n := by
  rw [BitVec.toNat_ofNat, Nat.mod_eq_of_lt (fitsByte_iff.1 h)]

theorem beNat_of_fitsWord {n : Nat} (h : fitsWord n = true) : beNat [BitVec.ofNat 8 (n / 256), BitVec.ofNat 8 n] = n :=
  beNat_beBytes_of_lt (w := 2) (fitsWord_iff.1 h)

/-! ### Runs of numbers -/

theorem map_toNat_flatMap {ns : List Nat} (h : ns.all fitsByte = true) :
    (ns.flatMap (beBytes 1)).map BitVec.toNat = ns := by
  induction ns with
  | nil => rfl
  | cons n rest ih =>
    obtain ⟨first, others⟩ := Bool.and_eq_true_iff.1 h
    show (BitVec.ofNat 8 n).toNat :: (rest.flatMap (beBytes 1)).map BitVec.toNat = n :: rest
    rw [ih others, toNat_ofNat_of_fitsByte first]

theorem beWords_flatMap {ns : List Nat} (h : ns.all fitsWord = true) : beWords (ns.flatMap (beBytes 2)) = ns := by
  induction ns with
  | nil => rfl
  | cons n rest ih =>
    obtain ⟨first, others⟩ := Bool.and_eq_true_iff.1 h
    show beNat [BitVec.ofNat 8 (n / 256), BitVec.ofNat 8 n] :: beWords (rest.flatMap (beBytes 2)) = n :: rest
    rw [ih others, beNat_of_fitsWord first]

/-- The five bytes of an entry of a MAP RESTORE (10.1). -/
def RestoreEntry.bytes (e : RestoreEntry) : List Byte := beBytes 1 e.band ++ beBytes 2 e.wear ++ beBytes 2 e.heightUm

/-- The entry fits its five bytes. -/
def RestoreEntry.fits (e : RestoreEntry) : Bool := fitsByte e.band && fitsWord e.wear && fitsWord e.heightUm

theorem restoreEntries_flatMap {es : List RestoreEntry} (h : es.all RestoreEntry.fits = true) :
    restoreEntries (es.flatMap RestoreEntry.bytes) = es := by
  induction es with
  | nil => rfl
  | cons e rest ih =>
    obtain ⟨first, others⟩ := Bool.and_eq_true_iff.1 h
    obtain ⟨band_wear, height⟩ := Bool.and_eq_true_iff.1 first
    obtain ⟨band, wear⟩ := Bool.and_eq_true_iff.1 band_wear
    show RestoreEntry.mk (BitVec.ofNat 8 e.band).toNat (beNat [BitVec.ofNat 8 (e.wear / 256), BitVec.ofNat 8 e.wear])
      (beNat [BitVec.ofNat 8 (e.heightUm / 256), BitVec.ofNat 8 e.heightUm]) ::
        restoreEntries (rest.flatMap RestoreEntry.bytes) = e :: rest
    rw [ih others, toNat_ofNat_of_fitsByte band, beNat_of_fitsWord wear, beNat_of_fitsWord height]

theorem flatMap_length_eq {α : Type} {f : α → List Byte} {w : Nat} (h : ∀ x, (f x).length = w) (xs : List α) :
    (xs.flatMap f).length = w * xs.length := by
  rw [List.length_flatMap, List.map_congr_left fun x _ => h x, List.map_const', List.sum_replicate, smul_eq_mul,
    Nat.mul_comm]

theorem beWords_length {bs : List Byte} {n : Nat} (h : bs.length = 2 * n) : (beWords bs).length = n := by
  induction n generalizing bs with
  | zero => rw [List.length_eq_zero_iff.1 h]; rfl
  | succ n ih =>
    match bs, h with
    | _ :: _ :: rest, h =>
      have shorter : rest.length = 2 * n := by simp only [List.length_cons] at h; omega
      exact congrArg (· + 1) (ih shorter)
    | [], h | [_], h => simp only [List.length_cons, List.length_nil] at h; omega

theorem restoreEntries_length {bs : List Byte} {n : Nat} (h : bs.length = 5 * n) : (restoreEntries bs).length = n := by
  induction n generalizing bs with
  | zero => rw [List.length_eq_zero_iff.1 h]; rfl
  | succ n ih =>
    match bs, h with
    | _ :: _ :: _ :: _ :: _ :: rest, h =>
      have shorter : rest.length = 5 * n := by simp only [List.length_cons] at h; omega
      exact congrArg (· + 1) (ih shorter)
    | [], h | [_], h | [_, _], h | [_, _, _], h | [_, _, _, _], h =>
      simp only [List.length_cons, List.length_nil] at h; omega

/-! ### Payloads (10.1) -/

/-- On a carrier port a payload names no lane (10.1, RESUME and REMOTE HOLD). -/
theorem laneCode_absent {p : Port} (h : p.lane?.isSome = true) :
    decide ((none : Option Nat).isSome = p.lane?.isNone) = true := by
  rw [← Option.not_isSome, h]
  rfl

/-- On port S a payload names the lane. -/
theorem laneCode_present {p : Port} {l : Nat} (h : p.lane?.isSome = false) :
    decide ((some l).isSome = p.lane?.isNone) = true := by
  rw [← Option.not_isSome, h]
  rfl

/-- What a payload spells has a length that its kind allows, and the payload fits a frame (R166, R169). -/
theorem Request.ofPayload_fits {p : Port} {k : Kind} {bs : List Byte} {r : Request}
    (h : Request.ofPayload p k bs = some r) : lengthOk p r = true ∧ bs.length ≤ 60 := by
  cases k with
  | identRead | noticesRead | noteTake | padReset | hubClaim | hubRelease | hubForceRelease | touchdown | release
  | condReset | tripClear | stationRestart =>
    cases bs <;> cases h
    exact ⟨rfl, Nat.zero_le _⟩
  | statusRead => rcases bs with _ | ⟨_, _ | _⟩ <;> cases h <;> exact ⟨rfl, Nat.le_of_ble_eq_true rfl⟩
  | condMode | lineStart | lineRestart | lineStop | feedSelect | remoteTrip =>
    rcases bs with _ | ⟨_, _ | _⟩ <;> cases h
    exact ⟨rfl, Nat.le_of_ble_eq_true rfl⟩
  | get | mapRead =>
    rcases bs with _ | ⟨_, _ | ⟨_, _ | _⟩⟩ <;> cases h
    exact ⟨rfl, Nat.le_of_ble_eq_true rfl⟩
  | diskReset =>
    rcases bs with _ | ⟨_, _ | ⟨_, _ | ⟨_, _ | _⟩⟩⟩ <;> cases h
    exact ⟨rfl, Nat.le_of_ble_eq_true rfl⟩
  | rateSet =>
    rcases bs with _ | ⟨_, _ | ⟨_, _ | ⟨_, _ | ⟨_, _ | ⟨_, _ | _⟩⟩⟩⟩⟩ <;> cases h
    exact ⟨rfl, Nat.le_of_ble_eq_true rfl⟩
  | set =>
    rcases bs with _ | ⟨_, _ | ⟨_, _ | ⟨_, _ | ⟨_, _ | ⟨_, _ | ⟨_, _ | _⟩⟩⟩⟩⟩⟩ <;> cases h
    exact ⟨rfl, Nat.le_of_ble_eq_true rfl⟩
  | profileStage =>
    rcases bs with _ | ⟨_, _ | ⟨_, _ | ⟨_, _ | ⟨_, _ | ⟨_, _ | ⟨_, _ | ⟨_, _ | ⟨_, _ | ⟨_, _ | ⟨_, _ | ⟨_, _ |
      ⟨_, _ | ⟨_, _ | _⟩⟩⟩⟩⟩⟩⟩⟩⟩⟩⟩⟩⟩ <;> cases h
    exact ⟨rfl, Nat.le_of_ble_eq_true rfl⟩
  | noteSend =>
    cases bs with
    | nil => cases h
    | cons q bytes =>
      obtain ⟨fits, h⟩ := Option.ite_none_right_eq_some.1 h
      cases h
      exact ⟨Bool.and_eq_true_iff.2 ⟨decide_eq_true fits.1, decide_eq_true fits.2⟩, by simp only [List.length_cons]; omega⟩
  | chordLoad =>
    cases bs with
    | nil => cases h
    | cons l chords =>
      obtain ⟨fits, h⟩ := Option.ite_none_right_eq_some.1 h
      cases h
      exact ⟨decide_eq_true (beWords_length fits), by simp only [List.length_cons]; omega⟩
  | gainLoad =>
    rcases bs with _ | ⟨l, _ | ⟨e, gains⟩⟩
    · cases h
    · cases h
    · obtain ⟨fits, h⟩ := Option.ite_none_right_eq_some.1 h
      cases h
      exact ⟨decide_eq_true ((List.length_map _).trans fits), by simp only [List.length_cons]; omega⟩
  | mapRestore =>
    obtain ⟨⟨whole, low, high⟩, h⟩ := Option.ite_none_right_eq_some.1 h
    cases h
    have entries := restoreEntries_length (bs := bs) (n := bs.length / 5) (by omega)
    refine ⟨Bool.and_eq_true_iff.2 ⟨decide_eq_true ?_, decide_eq_true ?_⟩, by omega⟩ <;> omega
  | remoteHold =>
    rcases bs with _ | ⟨l, _ | ⟨x, _ | _⟩⟩
    · cases h
    · obtain ⟨carrier, h⟩ := Option.ite_none_right_eq_some.1 h
      cases h
      exact ⟨laneCode_absent carrier, Nat.le_of_ble_eq_true rfl⟩
    · obtain ⟨station, h⟩ := Option.ite_none_left_eq_some.1 h
      cases h
      exact ⟨laneCode_present (Bool.eq_false_iff.2 station), Nat.le_of_ble_eq_true rfl⟩
    · cases h
  | resume =>
    rcases bs with _ | ⟨l, _ | _⟩
    · obtain ⟨carrier, h⟩ := Option.ite_none_right_eq_some.1 h
      cases h
      exact ⟨laneCode_absent carrier, Nat.le_of_ble_eq_true rfl⟩
    · obtain ⟨station, h⟩ := Option.ite_none_left_eq_some.1 h
      cases h
      exact ⟨laneCode_present (Bool.eq_false_iff.2 station), Nat.le_of_ble_eq_true rfl⟩
    · cases h

/-- The payload of a well-formed request reads back as that request. -/
theorem Request.ofPayload_payload {p : Port} {r : Request} (h : r.wf p = true) :
    Request.ofPayload p r.kind r.payload = some r := by
  have byte := fun {n : Nat} => toNat_ofNat_of_fitsByte (n := n)
  have word := fun {n : Nat} => beNat_of_fitsWord (n := n)
  cases r with
  | identRead | noticesRead | noteTake | padReset | hubClaim | hubRelease | hubForceRelease | touchdown | release
  | condReset | tripClear | stationRestart => rfl
  | statusRead page =>
    cases page with
    | none => rfl
    | some page => exact congrArg (fun n => some (Request.statusRead (some n))) (byte h)
  | condMode m => exact congrArg (fun n => some (Request.condMode n)) (byte h)
  | lineStart l => exact congrArg (fun n => some (Request.lineStart n)) (byte h)
  | lineRestart l => exact congrArg (fun n => some (Request.lineRestart n)) (byte h)
  | lineStop l => exact congrArg (fun n => some (Request.lineStop n)) (byte h)
  | feedSelect l => exact congrArg (fun n => some (Request.feedSelect n)) (byte h)
  | remoteTrip x => exact congrArg (fun n => some (Request.remoteTrip n)) (byte h)
  | diskReset c => exact congrArg (fun n => some (Request.diskReset n)) (beNat_beBytes_of_lt (w := 3) (of_decide_eq_true h))
  | get i n =>
    obtain ⟨item, inst⟩ := Bool.and_eq_true_iff.1 h
    exact congrArg₂ (fun x y => some (Request.get x y)) (byte item) (byte inst)
  | mapRead f c =>
    obtain ⟨first, count⟩ := Bool.and_eq_true_iff.1 h
    exact congrArg₂ (fun x y => some (Request.mapRead x y)) (byte first) (byte count)
  | set i n v =>
    simp only [Request.wf, Bool.and_eq_true, decide_eq_true_eq] at h
    obtain ⟨⟨item, inst⟩, value⟩ := h
    have read := beNat_beBytes_of_lt (w := 4) value
    show some (Request.set (BitVec.ofNat 8 i).toNat (BitVec.ofNat 8 n).toNat (beNat (beBytes 4 v))) = _
    rw [byte item, byte inst, read]
  | noteSend q bytes =>
    simp only [Request.wf, Bool.and_eq_true, decide_eq_true_eq] at h
    obtain ⟨⟨recipient, low⟩, high⟩ := h
    show (if 1 ≤ bytes.length ∧ bytes.length ≤ 16 then some (Request.noteSend (BitVec.ofNat 8 q).toNat bytes) else none) = _
    rw [if_pos ⟨low, high⟩, byte recipient]
  | mapRestore es =>
    simp only [Request.wf, Bool.and_eq_true, decide_eq_true_eq] at h
    obtain ⟨⟨low, high⟩, fits⟩ := h
    have length : (es.flatMap RestoreEntry.bytes).length = 5 * es.length :=
      flatMap_length_eq (f := RestoreEntry.bytes) (fun _ => rfl) es
    have read : restoreEntries (es.flatMap RestoreEntry.bytes) = es := restoreEntries_flatMap fits
    have spelled : ∀ bs, Request.ofPayload p .mapRestore bs =
        if bs.length % 5 = 0 ∧ 5 ≤ bs.length ∧ bs.length ≤ 35 then some (.mapRestore (restoreEntries bs)) else none :=
      fun _ => rfl
    refine (spelled (es.flatMap RestoreEntry.bytes)).trans ?_
    rw [if_pos (by omega), read]
  | chordLoad l cs =>
    simp only [Request.wf, Bool.and_eq_true, decide_eq_true_eq] at h
    obtain ⟨⟨lane, twenty⟩, fits⟩ := h
    have length : (cs.flatMap (beBytes 2)).length = 2 * cs.length := flatMap_length_eq (beBytes_length 2) cs
    show (if (cs.flatMap (beBytes 2)).length = 40 then
      some (Request.chordLoad (BitVec.ofNat 8 l).toNat (beWords (cs.flatMap (beBytes 2)))) else none) = _
    rw [if_pos (by omega), byte lane, beWords_flatMap fits]
  | gainLoad l e gs =>
    simp only [Request.wf, Bool.and_eq_true, decide_eq_true_eq] at h
    obtain ⟨⟨⟨lane, enable⟩, eight⟩, fits⟩ := h
    have length : (gs.flatMap (beBytes 1)).length = 1 * gs.length := flatMap_length_eq (beBytes_length 1) gs
    show (if (gs.flatMap (beBytes 1)).length = 8 then
      some (Request.gainLoad (BitVec.ofNat 8 l).toNat (BitVec.ofNat 8 e).toNat ((gs.flatMap (beBytes 1)).map BitVec.toNat))
        else none) = _
    rw [if_pos (by omega), byte lane, byte enable, map_toNat_flatMap fits]
  | profileStage t m =>
    simp only [Request.wf, Six.toList, List.all_cons, List.all_nil, Bool.and_true, Bool.and_eq_true] at h
    obtain ⟨⟨z1, z2, z3, z4, z5, ring⟩, mode⟩ := h
    have read : Request.ofPayload p .profileStage (Request.profileStage t m).payload = some (.profileStage
        ⟨beNat [BitVec.ofNat 8 (t.z1 / 256), BitVec.ofNat 8 t.z1], beNat [BitVec.ofNat 8 (t.z2 / 256), BitVec.ofNat 8 t.z2],
          beNat [BitVec.ofNat 8 (t.z3 / 256), BitVec.ofNat 8 t.z3], beNat [BitVec.ofNat 8 (t.z4 / 256), BitVec.ofNat 8 t.z4],
          beNat [BitVec.ofNat 8 (t.z5 / 256), BitVec.ofNat 8 t.z5],
          beNat [BitVec.ofNat 8 (t.ring / 256), BitVec.ofNat 8 t.ring]⟩ (BitVec.ofNat 8 m).toNat) := rfl
    rw [word z1, word z2, word z3, word z4, word z5, word ring, byte mode] at read
    exact read
  | rateSet rate w =>
    simp only [Request.wf, Three.toList, List.all_cons, List.all_nil, Bool.and_true, Bool.and_eq_true] at h
    obtain ⟨flow, inner, middle, outer⟩ := h
    show some (Request.rateSet (beNat [BitVec.ofNat 8 (rate / 256), BitVec.ofNat 8 rate])
      ⟨(BitVec.ofNat 8 w.inner).toNat, (BitVec.ofNat 8 w.middle).toNat, (BitVec.ofNat 8 w.outer).toNat⟩) = _
    rw [word flow, byte inner, byte middle, byte outer]
  | remoteHold lane x =>
    obtain ⟨named, action⟩ := Bool.and_eq_true_iff.1 h
    cases lane with
    | none =>
      show (if p.lane?.isSome then some (Request.remoteHold none (BitVec.ofNat 8 x).toNat) else none) = _
      rw [if_pos (show p.lane?.isSome = true from named), byte action]
    | some l =>
      obtain ⟨station, code⟩ := Bool.and_eq_true_iff.1 named
      show (if p.lane?.isSome then none else
        some (Request.remoteHold (some (BitVec.ofNat 8 l).toNat) (BitVec.ofNat 8 x).toNat)) = _
      rw [if_neg (Option.not_isSome_iff_eq_none.2 (Option.isNone_iff_eq_none.1 station)), byte code, byte action]
  | resume lane =>
    cases lane with
    | none => exact if_pos h
    | some l =>
      obtain ⟨station, code⟩ := Bool.and_eq_true_iff.1 h
      show (if p.lane?.isSome then none else some (Request.resume (some (BitVec.ofNat 8 l).toNat))) = _
      rw [if_neg (Option.not_isSome_iff_eq_none.2 (Option.isNone_iff_eq_none.1 station)), byte code]

end Sys2Proof.Machine

/-!
The law of the ports (O57): the requests that change a notice set or a note box by more than filings, the slots, and every
step.
-/

namespace Sys2Proof.Machine
open Sys2Proof

/-! ### SET -/

theorem Item.files_changed (item : Item) (before s : State) : s.files (item.changed before s) := by
  have silence : ∀ l (u : State), u.files (u.silenceTimeChanged l) := fun l u => by
    unfold State.silenceTimeChanged
    split
    · exact u.files_silenceExpiry l
    · exact .refl u
  cases item with
  | stallLimit =>
    simp only [Item.changed, State.stallLimitChanged]
    (repeat' split)
    · exact s.files_enterStalled
    · exact .refl s
    · exact .refl s
  | stopTimeout k =>
    simp only [Item.changed, State.stopTimeoutChanged]
    split
    · exact s.files_lineStops k
    · exact .refl s
  | invertMask | mask => exact State.files_takeTargets _ _
  | linkSilence => exact (silence .a _).trans (silence .b _)
  | windowLower | windowUpper => exact s.files_evaluateWindow
  | diskLifeLimit => exact s.files_evaluateSpent.trans (State.files_actIfParked _)
  | hubSize | laneReach | condReach => exact State.files_of_links s.evaluateAllInside_links
  | limit | softHold | downforceLimit | maxFlow | recirculation | primeFlow | barMax | outletMax =>
    exact State.files_of_links rfl
  | _ => exact .refl s

theorem State.files_applySetting (item : Item) (v : Nat) (s : State) : s.files (s.applySetting item v) := by
  unfold State.applySetting
  split
  · exact .refl s
  · exact item.files_changed s (s.modSettings _)

/-! ### Requests -/

/-- The kinds whose requests change a notice set or a note box by more than a filing. -/
def changesBoxes : Kind → Bool
  | .noticesRead | .noteSend | .noteTake | .stationRestart => true
  | _ => false

theorem decideRequest_files (p : Port) (r : Request) (s : State) (h : changesBoxes r.kind = false) :
    s.files (decideRequest p s r).state := by
  cases r with
  | noticesRead | noteSend | noteTake | stationRestart => cases h
  | identRead => exact .refl s
  | statusRead | get | mapRead =>
    simp only [decideRequest, decideStatusRead, decideGet, decideMapRead]
    (repeat' split) <;> exact .refl s
  | set =>
    simp only [decideRequest, decideSet]
    (repeat' split)
    · exact .refl s
    · exact .refl s
    · exact s.files_applySetting _ _
  | mapRestore | padReset | chordLoad =>
    simp only [decideRequest, decideMapRestore, State.mapRestore, decidePadReset, decideChordLoad]
    (repeat' split) <;> exact .refl s
  | hubClaim =>
    simp only [decideRequest, decideHubClaim]
    split
    · exact .refl s
    · exact State.files_of_links (State.claimHub_links _ s)
  | hubRelease =>
    simp only [decideRequest, decideHubRelease]
    split
    · exact .refl s
    · exact s.files_releaseHub _
  | hubForceRelease =>
    simp only [decideRequest, decideHubForceRelease]
    (repeat' split)
    · exact .refl s
    · exact .refl s
    · exact s.files_endGrant.trans (State.files_tellLoss _ _)
  | profileStage | touchdown | release | gainLoad =>
    simp only [decideRequest, decideProfileStage, decideTouchdown, State.touchdown, decideRelease, decideGainLoad]
    (repeat' split) <;> exact .refl s
  | lineStart | lineRestart | lineStop | feedSelect | rateSet =>
    simp only [decideRequest, decideLineStart, decideLineRestart, decideLineStartFrom, State.startLine, decideLineStop,
      decideFeedSelect, decideRateSet]
    (repeat' split) <;> exact .refl s
  | condMode =>
    simp only [decideRequest, decideCondMode]
    split
    · exact .refl s
    · split
      · exact .refl s
      · split
        · exact .refl s
        · exact State.files_modeChanged (s.modCond _)
  | condReset =>
    simp only [decideRequest, decideCondReset]
    split <;> exact .refl s
  | diskReset =>
    simp only [decideRequest, decideDiskReset]
    (repeat' split)
    · exact .refl s
    · exact (State.files_evaluateSpent (s.modCond _)).trans (State.files_actIfParked _)
    · exact .refl s
  | remoteHold =>
    simp only [decideRequest, decideRemoteHold, State.setRemoteHold]
    (repeat' split)
    · exact State.files_addCause _ _ (s.modMatrix _)
    · exact .refl s
    · exact .refl s
    · exact .refl s
  | remoteTrip =>
    simp only [decideRequest, decideRemoteTrip]
    split
    · exact State.files_onRise (s := s.modMatrix _) _ _ (State.files_tripCause _ _)
    · exact .refl s
    · exact .refl s
  | resume =>
    have resumed : ∀ l, (s.resume l).1.links = s.links := fun l => by
      simp only [State.resume, State.resumeFeed, State.resumeBar]
      (repeat' split) <;> rfl
    simp only [decideRequest, decideResume]
    (repeat' split)
    · exact .refl s
    · exact .refl s
    · exact .refl s
    · exact State.files_of_links (resumed _)
  | tripClear =>
    simp only [decideRequest, decideTripClear]
    (repeat' split) <;> exact .refl s

/-! ### The law of the ports -/

theorem State.linksLawful_modPort {p : Port} {f : PortLink → PortLink} {s : State} (hs : s.linksLawful)
    (h : (f (s.port p)).lawful p) : (s.modPort p f).linksLawful := fun q => by
  rw [State.modPort_port]
  split
  · next hq => exact hq ▸ h
  · exact hs q

theorem State.files_reevaluateLane (l : Lane) (s : State) : s.files (s.reevaluateLane l) :=
  (State.files_onRise _ _ (State.files_addCauseUntold _ _ _)).trans
    (State.files_onRise _ _ (State.files_addCauseUntold _ _ _))

theorem State.linksLawful_restarted {s : State} (hs : s.linksLawful) : s.restarted.linksLawful := fun p => by
  rw [s.restarted_port]
  exact ⟨List.nodup_nil, nofun, (hs p).2.2⟩

theorem linksLawful_noteSend (p : Port) (n : Nat) {bytes : List Byte} {s : State} (h : 1 ≤ bytes.length ∧ bytes.length ≤ 16)
    (hs : s.linksLawful) : (decideNoteSend p n bytes s).state.linksLawful := by
  unfold decideNoteSend
  (repeat' split)
  · exact hs
  · exact hs
  · exact hs
  · next q _ other _ =>
    obtain ⟨once, -, slots⟩ := hs q
    refine (State.files_file q .noteArrived _).lawful (State.linksLawful_modPort hs ⟨once, fun n hn => ?_, slots⟩)
    cases hn
    exact ⟨Ne.symm other, h⟩

theorem linksLawful_noteTake (p : Port) {s : State} (hs : s.linksLawful) : (decideNoteTake p s).state.linksLawful := by
  unfold decideNoteTake
  split
  · exact hs
  · obtain ⟨once, -, slots⟩ := hs p
    exact (State.files_file _ .noteTaken _).lawful (State.linksLawful_modPort hs ⟨once, nofun, slots⟩)

/-- Every request whose length its kind allows keeps the law of the ports. -/
theorem linksLawful_request (p : Port) {r : Request} {s : State} (h : lengthOk p r = true) (hs : s.linksLawful) :
    (decideRequest p s r).state.linksLawful := by
  cases hk : changesBoxes r.kind with
  | false => exact (decideRequest_files p r s hk).lawful hs
  | true =>
    cases r with
    | noticesRead =>
      obtain ⟨-, box, slots⟩ := hs p
      exact State.linksLawful_modPort hs ⟨List.nodup_nil, box, slots⟩
    | noteSend n bytes =>
      obtain ⟨low, high⟩ := Bool.and_eq_true_iff.1 h
      exact linksLawful_noteSend p n ⟨of_decide_eq_true low, of_decide_eq_true high⟩ hs
    | noteTake => exact linksLawful_noteTake p hs
    | stationRestart =>
      simp only [decideRequest, decideStationRestart]
      (repeat' split)
      · exact hs
      · exact hs
      · exact ((State.files_reevaluateLane .a _).trans (State.files_reevaluateLane .b _)).lawful
          (State.linksLawful_restarted hs)
    | _ => cases hk

theorem linksLawful_dispatch (p : Port) (r : Request) {s : State} (hs : s.linksLawful) :
    (dispatch p r s).state.linksLawful := by
  unfold dispatch
  (repeat' split)
  · exact hs
  · exact hs
  · next h => exact linksLawful_request p (by simpa using h) hs

theorem linksLawful_dispatchBytes (p : Port) (b : Byte) (bs : List Byte) {s : State} (hs : s.linksLawful) :
    (dispatchBytes p b bs s).state.linksLawful := by
  unfold dispatchBytes
  (repeat' split)
  · exact hs
  · exact hs
  · exact hs
  · next r hr => exact linksLawful_request p (Request.ofPayload_fits hr).1 hs

/-! ### Frames and slots (R167) -/

theorem linksLawful_compose {a : Answer} (p : Port) (b : Byte) (h : a.state.linksLawful) : (a.compose p b).linksLawful :=
  State.linksLawful_modPort h (h p)

theorem linksLawful_answerRequest (p : Port) (r : Request) {s : State} (hs : s.linksLawful) :
    (answerRequest p r s).linksLawful :=
  linksLawful_compose p _ (linksLawful_dispatch p r (((s.files_hearFrame p).trans (State.files_settledFor _ _)).lawful hs))

theorem State.linksLawful_takeRequest (p : Port) (q : SlotRequest) {s : State} (hs : s.linksLawful) :
    (s.takeRequest p q).linksLawful := by
  obtain ⟨once, box, -⟩ := hs p
  have occupied : (s.modPort p fun k => { k with inProcess := some q }).linksLawful :=
    State.linksLawful_modPort hs ⟨once, box, fun _ => rfl⟩
  have answered := linksLawful_compose p q.kind
    (linksLawful_dispatchBytes p q.kind q.payload ((State.files_settledFor (Kind.ofByte q.kind) _).lawful occupied))
  exact State.linksLawful_modPort answered (answered p)

theorem State.linksLawful_frame (p : Port) (q : SlotRequest) (crc : BitVec 16) {s : State} (hs : s.linksLawful) :
    (s.frame p q crc).linksLawful := by
  unfold State.frame
  split
  · exact State.linksLawful_modPort hs (hs p)
  · have heard : ((s.modPort p fun k => { k with collecting := false }).hearFrame p).linksLawful :=
      (State.files_hearFrame p _).lawful (State.linksLawful_modPort hs (hs p))
    obtain ⟨once, box, -⟩ := heard p
    unfold State.handToSlots
    split
    · exact State.linksLawful_takeRequest p q heard
    · next x occupied _ =>
      refine State.linksLawful_modPort heard ⟨once, box, fun _ => ?_⟩
      exact Option.isSome_of_eq_some occupied
    · exact State.linksLawful_modPort heard (heard p)

theorem State.linksLawful_replySent (p : Port) {s : State} (hs : s.linksLawful) : (s.replySent p).linksLawful := by
  obtain ⟨once, box, -⟩ := hs p
  have emptied : (s.modPort p fun k => { k with sending := none, inProcess := none, waiting := none }).linksLawful :=
    State.linksLawful_modPort hs ⟨once, box, nofun⟩
  unfold State.replySent
  simp only
  (repeat' split)
  · exact State.linksLawful_takeRequest p _ emptied
  · exact emptied
  · exact hs

/-! ### Commands and steps -/

theorem State.linksLawful_reset : State.reset.linksLawful := fun p => by
  cases p <;> exact ⟨List.nodup_nil, nofun, nofun⟩

theorem exec_linksLawful {c : Instr} {s t : State} (hs : s.linksLawful) (h : exec c s = .next t) : t.linksLawful := by
  have row : ∀ {f : State → State}, (∀ u, State.files u (f u)) →
      (.next (f s.settled) : Host.Outcome State Fault Refusal) = .next t → t.linksLawful := fun hf ht =>
    Host.Outcome.next.inj ht ▸ (s.files_settled.trans (hf _)).lawful hs
  have event : ∀ e : Event, exec e.command s = .next t → t.linksLawful := fun e he => (files_eventRow he).lawful hs
  cases hq : c.request? with
  | some pr =>
    obtain ⟨p, r⟩ := pr
    rw [Instr.eq_command hq, exec_request] at h
    exact Host.Outcome.next.inj h ▸ linksLawful_answerRequest p r hs
  | none =>
    cases c with
    | hardReset => cases h; exact State.linksLawful_reset
    | validFrame p => cases h; exact State.linksLawful_frame p _ _ hs
    | replySent p => cases h; exact State.linksLawful_replySent p hs
    | frameError p | syncByte p => cases h; exact State.linksLawful_modPort hs (hs p)
    | resetAsserted =>
      cases h
      intro p
      have lawful := hs p
      cases p <;> exact lawful
    | interByteTimeout p =>
      cases h
      unfold State.interByteTimeout
      split
      · exact State.linksLawful_modPort hs (hs p)
      · exact hs
    | hubEntry m => exact event (.hubEntry m) h
    | hubExit m => exact event (.hubExit m) h
    | condMapUpdated => exact event (.condMapUpdated default) h
    | gainRecompute => exact event (.gainRecompute default) h
    | dryCountUpdate => exact event (.dryCountUpdate default) h
    | indexProfileApply => exact event .indexProfileApply h
    | hardHoldVent l => exact event (.hardHoldVent l) h
    | softHoldCap l => exact event (.softHoldCap l) h
    | hardHoldBarEmpty l => exact event (.hardHoldBarEmpty l) h
    | hardHoldWithdraw l => exact event (.hardHoldWithdraw l) h
    | tripBarEmpty => exact event .tripBarEmpty h
    | condTripHalt => exact event .condTripHalt h
    | condTripClear => exact event .condTripClear h
    | mapReplaced => exact event .mapReplaced h
    | condGrant => exact event .condGrant h
    | condGrantLost => exact event .condGrantLost h
    | slurryStop => exact event .slurryStop h
    | moveArrival => cases h; exact s.files_moveArrival.lawful hs
    | platenEncoderCount e => exact row (State.files_platenCount e) h
    | indexEdge n => exact row (State.files_indexEdge n) h
    | stallTimerExpiry => exact row State.files_stallExpiry h
    | armEncoderCount m e => exact row (State.files_armCount m e) h
    | homeSwitchEdge m => exact row (State.files_homeEdge m) h
    | silenceTimerExpiry l => exact row (State.files_silenceExpiry l) h
    | pressureUpdate adc supply => exact row (State.files_pressureUpdate adc supply) h
    | touchdownDone l => exact row (State.files_touchdownDone l) h
    | releaseDone l => exact row (State.files_releaseDone l) h
    | supplyTimeExpiry => exact row State.files_supplyTimeExpiry h
    | deviationTimeExpiry l c => exact row (State.files_deviationExpiry l c) h
    | condStep => exact row State.files_condStep h
    | settleTimeout => exact row State.files_settleTimeout h
    | liftTimeout => exact row State.files_liftTimeout h
    | homingTimeout => exact row State.files_homingTimeout h
    | downforceFault => exact row State.files_downforceFault h
    | downforceUpdate adc up => exact row (State.files_downforceUpdate adc up) h
    | loweringComplete => exact row (fun u => State.files_of_links u.loweringComplete_links) h
    | liftComplete => exact row State.files_liftComplete h
    | flowMeterPulse k => exact row (State.files_flowPulse k) h
    | stopTimeoutExpiry k => exact row (State.files_stopTimeout k) h
    | flowWindowEnd => exact row (fun u => State.files_of_links (t := u.windowEnd) rfl) h
    | homingStep b =>
      have stepped : ∀ u : State, u.files (u.homingStep b) := fun u => by
        unfold State.homingStep
        split <;> exact .refl u
      exact row stepped h
    | interlockPinChange i b => exact row (State.files_pinChange i b) h
    | debounceExpiry i => exact row (State.files_debounceExpiry i) h
    | _ => cases hq

/-- Settles O57: every command but a request and the receiver's rows changes the ports by filings alone, a request changes a
box only as R173 and R174 give, and the slots take a waiting request into process. -/
theorem linksStayLawful : Obligations.LinksStayLawful := by
  intro s t hs h
  exact keeps_step (P := State.linksLawful) (fun _ _ hu => hu) (fun _ _ _ => exec_linksLawful)
    (fun u hu => (u.files_settled.trans (State.files_tick _)).lawful hu) hs h

end Sys2Proof.Machine

/-!
Dispatch and replies (O7): what each refusal looks for, and what a composed reply leaves of the port.
-/

namespace Sys2Proof.Machine
open Sys2Proof

/-! ### Kind bytes (10.1) -/

@[simp] theorem Kind.ofByte_byte (k : Kind) : Kind.ofByte k.byte = some k := by cases k <;> rfl

/-- A byte is the kind byte of a kind from 1 to 31, and otherwise unknown. -/
theorem Kind.ofByte_unknown {b : Byte} (h : b.toNat = 0 ∨ 31 < b.toNat) : Kind.ofByte b = none := by
  unfold Kind.ofByte
  split
  · rfl
  · next pos =>
    have beyond : Kind.all.length ≤ b.toNat - 1 := Nat.le_sub_one_of_lt (h.resolve_left pos)
    exact List.getElem?_eq_none beyond

/-! ### The role table (R169) -/

theorem permitted_of_station {p : Port} {k : Kind} (hp : p ≠ .s)
    (hk : k ∈ [Kind.set, .mapRestore, .padReset, .chordLoad, .hubForceRelease, .gainLoad, .condMode, .condReset,
      .diskReset, .lineStart, .lineRestart, .lineStop, .remoteTrip, .tripClear, .stationRestart]) :
    permitted p k = false := by
  have role : permitted p k = decide (p = .s) := by fin_cases hk <;> rfl
  rw [role, decide_eq_false hp]

theorem permitted_of_carrier {k : Kind}
    (hk : k ∈ [Kind.hubClaim, .hubRelease, .profileStage, .touchdown, .release, .feedSelect, .rateSet]) :
    permitted .s k = false := by
  fin_cases hk <;> rfl

/-! ### Dispatch by its first test that fails (R169) -/

section
variable {p : Port} {k : Kind} {r : Request} {bs : List Byte} {s : State}

theorem dispatch_role (h : permitted p r.kind = false) : dispatch p r s = refuse .role s :=
  if_pos (Bool.not_eq_true' _ ▸ h)

theorem dispatch_length (hp : permitted p r.kind = true) (hl : lengthOk p r = false) :
    dispatch p r s = refuse .length s := by
  rw [dispatch, hp, hl]
  rfl

theorem dispatch_decided (hp : permitted p r.kind = true) (hl : lengthOk p r = true) :
    dispatch p r s = decideRequest p s r := by
  rw [dispatch, hp, hl]
  rfl

theorem dispatchBytes_unknown {b : Byte} (h : Kind.ofByte b = none) : dispatchBytes p b bs s = refuse .unknownKind s := by
  rw [dispatchBytes, h]

theorem dispatchBytes_role (h : permitted p k = false) : dispatchBytes p k.byte bs s = refuse .role s := by
  rw [dispatchBytes, Kind.ofByte_byte]
  exact if_pos (Bool.not_eq_true' _ ▸ h)

theorem dispatchBytes_length (hp : permitted p k = true) (hl : Request.ofPayload p k bs = none) :
    dispatchBytes p k.byte bs s = refuse .length s := by
  rw [dispatchBytes, Kind.ofByte_byte]
  simp only [hp, hl]
  rfl

theorem dispatchBytes_decided (hp : permitted p k = true) (hr : Request.ofPayload p k bs = some r) :
    dispatchBytes p k.byte bs s = decideRequest p s r := by
  rw [dispatchBytes, Kind.ofByte_byte]
  simp only [hp, hr]
  rfl

/-- Bytes that spell a request are dispatched as it is. -/
theorem dispatchBytes_eq_dispatch (hl : lengthOk p r = true) (hr : Request.ofPayload p r.kind bs = some r) :
    dispatchBytes p r.kind.byte bs s = dispatch p r s := by
  cases hp : permitted p r.kind with
  | false => rw [dispatchBytes_role hp, dispatch_role hp]
  | true => rw [dispatchBytes_decided hp hr, dispatch_decided hp hl]

/-- A request row whose dispatch refuses it. -/
theorem exec_request_refused {s₀ : State} {result : Result} (hs : s₀.heardFor p r.kind = s)
    (h : dispatch p r s = refuse result s) : exec (r.command p) s₀ = .next (replied p r.kind result [] s) := by
  rw [exec_request, answerRequest, hs, h, compose_refuse]

end

/-! ### A port put twice -/

theorem State.modPort_modPort (p : Port) (f g : PortLink → PortLink) (s : State) :
    (s.modPort p f).modPort p g = s.modPort p fun k => g (f k) := by
  cases p <;> rfl

theorem State.modPort_congr {p : Port} {f g : PortLink → PortLink} {s : State} (h : f (s.port p) = g (s.port p)) :
    s.modPort p f = s.modPort p g :=
  congrArg (fun k => s.modLinks fun links => { links with ports := links.ports.set p k }) h

/-- A port put as it is leaves the state as it is. -/
theorem State.modPort_same {p : Port} {f : PortLink → PortLink} {s : State} (h : f (s.port p) = s.port p) :
    s.modPort p f = s :=
  (State.modPort_congr (g := id) h).trans (by cases p <;> rfl)

/-- Settles O7: each refusal is the first test of R169 that fails, and a reply is composed from its answer. -/
theorem dispatchAndReply : Obligations.DispatchAndReply := by
  refine ⟨fun p r s₀ s hs => ⟨fun hp hk => ?_, fun hp hk => ?_, fun hp hl => ?_, fun kind payload h => ?_,
    fun k payload hp => dispatchBytes_role hp, fun k payload hp hl => dispatchBytes_length hp hl,
    fun payload _ hl hr => dispatchBytes_eq_dispatch hl hr⟩, fun a p kind => ?reply⟩
  · exact exec_request_refused hs (dispatch_role (permitted_of_station hp hk))
  · subst hp
    exact exec_request_refused hs (dispatch_role (permitted_of_carrier hk))
  · exact exec_request_refused hs (dispatch_length hp hl)
  · exact dispatchBytes_unknown (Kind.ofByte_unknown h)
  case reply =>
    have composed : (a.compose p kind).port p =
        { a.state.port p with overrun := false, crcSeen := false, reply := some (a.reply p kind) } :=
      State.modPort_port_self _ _ _
    have attention : (!(a.state.port p).notices.isEmpty) = decide ((a.state.port p).notices ≠ []) := by
      cases (a.state.port p).notices <;> rfl
    rw [composed]
    refine ⟨?_, rfl, rfl, ?_⟩
    · rw [← attention]
      rfl
    · rw [Answer.compose, State.modPort_modPort, State.modPort_same rfl]

end Sys2Proof.Machine

/-!
Frames and slots (O5, O6): the bytes of a reply frame, and what a frame, the end of a reply and the receiver's other rows make
of a port.
-/

namespace Sys2Proof.Machine
open Sys2Proof

/-! ### The bytes of frames (R166, R168) -/

/-- The CRC's two bytes, high byte first. -/
theorem crcBytes_eq (c : BitVec 16) : crcBytes c = [(c >>> 8).truncate 8, c.truncate 8] := by
  have high : BitVec.ofNat 8 (c.toNat / 256) = (c >>> 8).truncate 8 := by
    apply BitVec.eq_of_toNat_eq
    simp [Nat.shiftRight_eq_div_pow]
  have low : BitVec.ofNat 8 c.toNat = c.truncate 8 := by
    apply BitVec.eq_of_toNat_eq
    simp
  rw [← high, ← low]
  rfl

/-- The bits of the flags byte, by their weights. -/
theorem ReplyFlags.byte_eq (f : ReplyFlags) :
    let bit := fun (b : Bool) (weight : Nat) => if b then weight else 0
    f.byte = BitVec.ofNat 8 (bit f.overrun 1 + bit f.crcSeen 2 + bit f.attention 4 + bit f.clamped 8 + bit f.noWeight 16 +
      bit f.feedNotRestored 32) := by
  have bit : ∀ (b : Bool) (weight : Nat), (if b then weight else 0) = weight * b.toNat := fun b weight => by
    cases b <;> simp
  simp only [ReplyFlags.byte, bitField, bit]
  congr 1
  ring

/-! ### Hearing a frame (R177) -/

theorem State.modPort_hearFrame (p q : Port) (f : PortLink → PortLink) (s : State) :
    (s.modPort p f).hearFrame q = (s.hearFrame q).modPort p f := by
  cases q <;> rfl

@[simp] theorem State.hearFrame_port (p q : Port) (s : State) : (s.hearFrame p).port q = s.port q := by cases p <;> rfl

@[simp] theorem State.hearFrame_resetAsserted (p : Port) (s : State) :
    (s.hearFrame p).resetAsserted = s.resetAsserted := by
  cases p <;> rfl

theorem State.hearFrame_hearFrame (p : Port) (s : State) : (s.hearFrame p).hearFrame p = s.hearFrame p := by
  cases p <;> rfl

/-! ### No request touches the RESET input -/

@[simp] theorem State.settledFor_resetAsserted (k : Option Kind) (s : State) :
    (s.settledFor k).resetAsserted = s.resetAsserted := by
  unfold State.settledFor
  split
  · exact s.sameGround_settledBeforeMap.resetAsserted
  · exact s.settled_resetAsserted

theorem Item.changed_resetAsserted (item : Item) (before s : State) :
    (item.changed before s).resetAsserted = s.resetAsserted := by
  have silence : ∀ l (u : State), (u.silenceTimeChanged l).resetAsserted = u.resetAsserted := fun l u => by
    unfold State.silenceTimeChanged
    split
    · exact (u.sameGround_silenceExpiry l).resetAsserted
    · rfl
  cases item with
  | stallLimit =>
    simp only [Item.changed, State.stallLimitChanged, State.enterStalled]
    (repeat' split) <;> simp
  | stopTimeout k =>
    simp only [Item.changed, State.stopTimeoutChanged]
    split <;> simp
  | linkSilence => exact (silence .b _).trans (silence .a s)
  | windowLower | windowUpper | hubSize | laneReach | condReach | diskLifeLimit | invertMask | mask =>
    simp [Item.changed]
  | _ => rfl

theorem decideRequest_resetAsserted (p : Port) (r : Request) (s : State) :
    (decideRequest p s r).state.resetAsserted = s.resetAsserted := by
  cases hk : changesGround r.kind with
  | false => exact (decideRequest_sameGround p r s hk).resetAsserted
  | true =>
    cases r with
    | set id inst v =>
      have applied : ∀ item, (s.applySetting item v).resetAsserted = s.resetAsserted := fun item => by
        unfold State.applySetting
        split
        · rfl
        · exact item.changed_resetAsserted s _
      simp only [decideRequest, decideSet]
      (repeat' split)
      · rfl
      · rfl
      · exact applied _
    | mapRestore | padReset | chordLoad =>
      simp only [decideRequest, decideMapRestore, State.mapRestore, decidePadReset, decideChordLoad]
      (repeat' split) <;> rfl
    | _ => cases hk

theorem dispatchBytes_resetAsserted (p : Port) (b : Byte) (bs : List Byte) (s : State) :
    (dispatchBytes p b bs s).state.resetAsserted = s.resetAsserted := by
  rcases dispatchBytes_cases p b bs s with h | ⟨r, -, h⟩ <;> rw [h]
  exact decideRequest_resetAsserted p r s

/-! ### Taking a request into process (R167) -/

/-- A request in process is taken in the state with its slot occupied and what was outstanding taken, and its reply goes out
except while RESET is asserted. -/
theorem State.takeRequest_eq (p : Port) (q : SlotRequest) (s : State) : s.takeRequest p q =
    ((dispatchBytes p q.kind q.payload
      (State.settledFor (Kind.ofByte q.kind) (s.modPort p fun k => { k with inProcess := some q }))).compose p q.kind).modPort p
        fun k => { k with sending := if s.resetAsserted then none else k.reply.map (replyFrame q.tag) } := by
  set found := State.settledFor (Kind.ofByte q.kind) (s.modPort p fun k => { k with inProcess := some q })
  have reset : ((dispatchBytes p q.kind q.payload found).compose p q.kind).resetAsserted = s.resetAsserted :=
    (dispatchBytes_resetAsserted p q.kind q.payload found).trans (State.settledFor_resetAsserted _ _)
  rw [← reset]
  rfl

/-- The same for the bytes of a well-formed request. -/
theorem State.takeRequest_wf {p : Port} {r : Request} (h : r.wf p = true) (tag : Byte) (s : State) :
    s.takeRequest p ⟨tag, r.kind.byte, r.payload⟩ =
    ((dispatch p r (State.settledFor (some r.kind) (s.modPort p fun k =>
      { k with inProcess := some ⟨tag, r.kind.byte, r.payload⟩ }))).compose p r.kind.byte).modPort p
        fun k => { k with sending := if s.resetAsserted then none else k.reply.map (replyFrame tag) } := by
  have read := Request.ofPayload_payload h
  rw [State.takeRequest_eq, Kind.ofByte_byte, dispatchBytes_eq_dispatch (Request.ofPayload_fits read).1 read]

/-! ### Frames (R166, R167, R177) -/

/-- The port as a whole frame finds it, its link heard and its receiver hunting. -/
def State.received (p : Port) (s : State) : State := (s.hearFrame p).modPort p fun k => { k with collecting := false }

section
variable {p : Port} {q : SlotRequest} {s : State}

/-- A frame within its length and with its CRC goes to the slots. -/
theorem State.frame_valid (h : q.payload.length ≤ 60) :
    s.frame p q (requestCrc q.tag q.kind q.payload) = (s.received p).handToSlots p q := by
  unfold State.frame
  rw [if_neg (not_or.2 ⟨Nat.not_lt.2 h, not_not.2 rfl⟩), State.modPort_hearFrame]
  rfl

theorem State.frame_bad {crc : BitVec 16} (h : 60 < q.payload.length ∨ crc ≠ requestCrc q.tag q.kind q.payload) :
    s.frame p q crc = s.frameError p := if_pos h

theorem State.received_port : (s.received p).port p = { s.port p with collecting := false } := by
  rw [State.received, State.modPort_port_self, State.hearFrame_port]

theorem State.handToSlots_idle (h : (s.port p).inProcess = none) : s.handToSlots p q = s.takeRequest p q := by
  unfold State.handToSlots
  rw [h]

theorem State.handToSlots_waits {x : SlotRequest} (h : (s.port p).inProcess = some x) (hw : (s.port p).waiting = none) :
    s.handToSlots p q = s.modPort p fun k => { k with waiting := some q } := by
  unfold State.handToSlots
  rw [h, hw]

theorem State.handToSlots_overrun {x y : SlotRequest} (h : (s.port p).inProcess = some x)
    (hw : (s.port p).waiting = some y) : s.handToSlots p q = s.modPort p fun k => { k with overrun := true } := by
  unfold State.handToSlots
  rw [h, hw]

/-- A frame on an idle port is taken at once. -/
theorem State.frame_taken (h : q.payload.length ≤ 60) (hp : (s.port p).inProcess = none) :
    s.frame p q (requestCrc q.tag q.kind q.payload) = (s.received p).takeRequest p q := by
  rw [State.frame_valid h]
  exact State.handToSlots_idle (by rw [State.received_port]; exact hp)

theorem State.frame_waits {x : SlotRequest} (h : q.payload.length ≤ 60) (hp : (s.port p).inProcess = some x)
    (hw : (s.port p).waiting = none) : s.frame p q (requestCrc q.tag q.kind q.payload) =
      (s.hearFrame p).modPort p fun k => { k with collecting := false, waiting := some q } := by
  have slots := s.received_port (p := p)
  rw [State.frame_valid h, State.handToSlots_waits (by rw [slots]; exact hp) (by rw [slots]; exact hw), State.received,
    State.modPort_modPort]

theorem State.frame_overrun {x y : SlotRequest} (h : q.payload.length ≤ 60) (hp : (s.port p).inProcess = some x)
    (hw : (s.port p).waiting = some y) : s.frame p q (requestCrc q.tag q.kind q.payload) =
      (s.hearFrame p).modPort p fun k => { k with collecting := false, overrun := true } := by
  have slots := s.received_port (p := p)
  rw [State.frame_valid h, State.handToSlots_overrun (by rw [slots]; exact hp) (by rw [slots]; exact hw), State.received,
    State.modPort_modPort]

/-- The state in which a frame's request is dispatched, before what is outstanding is taken: the link heard, the receiver
hunting and the slot occupied. -/
theorem State.received_occupied : ((s.received p).modPort p fun k => { k with inProcess := some q }) =
    (s.hearFrame p).modPort p fun k => { k with collecting := false, inProcess := some q } := by
  rw [State.received, State.modPort_modPort]

theorem State.received_resetAsserted : (s.received p).resetAsserted = s.resetAsserted := s.hearFrame_resetAsserted p

end

/-- Settles O5: a frame by the slots it finds, and the bytes of a reply as `replyFrame` writes them. -/
theorem framesAndSlots : Obligations.FramesAndSlots := by
  refine ⟨⟨fun _ _ _ => rfl, fun tag r => ?bytes⟩, fun p tag r s hr awake idle _ => ?request,
    fun p tag kind payload s short idle => ?taken, fun p tag kind payload s q => ⟨fun short busy free => ?_,
      fun short busy full => ?_, fun crc bad => ?_⟩⟩
  case bytes =>
    have flags := r.flags.byte_eq
    simp only [replyFrame, crcBytes_eq, flags]
    rfl
  case request =>
    set q : SlotRequest := ⟨tag, r.kind.byte, r.payload⟩
    set u := (s.hearFrame p).modPort p fun k => { k with collecting := false, inProcess := some q } with hu
    have short := (Request.ofPayload_fits (Request.ofPayload_payload hr)).2
    have heard : u.heardFor p r.kind = u.settledFor (some r.kind) := by
      rw [State.heardFor, hu, State.modPort_hearFrame, State.hearFrame_hearFrame]
    have row : exec (r.frame p tag) s = .next ((s.received p).takeRequest p q) :=
      congrArg _ (State.frame_taken (q := q) short idle)
    refine ⟨u, _, rfl, exec_request p r u, row.trans ?_⟩
    rw [State.takeRequest_wf hr, State.received_occupied, State.received_resetAsserted, awake, answerRequest, heard]
    rfl
  case taken =>
    set q : SlotRequest := ⟨tag, kind, payload⟩
    have row : exec (.validFrame p tag kind payload (requestCrc tag kind payload)) s =
        .next ((s.received p).takeRequest p q) := congrArg _ (State.frame_taken (q := q) short idle)
    refine ⟨_, _, rfl, rfl, row.trans ?_⟩
    rw [State.takeRequest_eq, State.received_occupied, State.received_resetAsserted]
  · exact congrArg _ (State.frame_waits (q := ⟨tag, kind, payload⟩) short busy free)
  · obtain ⟨y, waits⟩ := Option.isSome_iff_exists.1 full
    exact congrArg _ (State.frame_overrun (q := ⟨tag, kind, payload⟩) short busy waits)
  · exact congrArg _ (State.frame_bad (q := ⟨tag, kind, payload⟩) bad)

/-! ### The end of a reply (R167) -/

section
variable {p : Port} {s : State}

theorem State.replySent_silent (h : (s.port p).sending = none) : s.replySent p = s := by
  unfold State.replySent
  rw [h]
  rfl

theorem State.replySent_empty (h : (s.port p).sending.isSome = true) (hw : (s.port p).waiting = none) :
    s.replySent p = s.modPort p fun k => { k with sending := none, inProcess := none } := by
  unfold State.replySent
  rw [if_pos h, hw]
  exact State.modPort_congr (congrArg (fun w => { s.port p with sending := none, inProcess := none, waiting := w }) hw.symm)

theorem State.replySent_waiting {q : SlotRequest} (h : (s.port p).sending.isSome = true)
    (hw : (s.port p).waiting = some q) : s.replySent p =
      (s.modPort p fun k => { k with sending := none, inProcess := none, waiting := none }).takeRequest p q := by
  unfold State.replySent
  rw [if_pos h, hw]

end

/-- Settles O6: the receiver's rows put the port alone, and the end of a reply takes the request that waits. -/
theorem receiverAndSlotEvents : Obligations.ReceiverAndSlotEvents := by
  intro p s
  refine ⟨fun _ => rfl, fun collecting => congrArg _ (if_pos collecting),
    fun hunting => congrArg _ (if_neg (Bool.eq_false_iff.1 hunting)), rfl,
    fun silent => congrArg _ (State.replySent_silent silent),
    fun sent free => congrArg _ (State.replySent_empty sent free), fun tag r sent awake hr waits => ?wellFormed,
    fun q sent waits => ?bytes⟩
  case wellFormed =>
    refine ⟨_, _, rfl, rfl, (congrArg _ (State.replySent_waiting sent waits)).trans ?_⟩
    rw [State.takeRequest_wf hr, State.modPort_modPort, State.modPort_resetAsserted, awake]
    rfl
  case bytes =>
    refine ⟨_, _, rfl, rfl, (congrArg _ (State.replySent_waiting sent waits)).trans ?_⟩
    rw [State.takeRequest_eq, State.modPort_modPort, State.modPort_resetAsserted]

end Sys2Proof.Machine

/-!
Notes (O9): NOTE SEND and NOTE TAKE by their cases.
-/

namespace Sys2Proof.Machine
open Sys2Proof

theorem portOfCode_above {n : Nat} (h : 2 < n) : portOfCode n = none := by
  obtain ⟨m, rfl⟩ := Nat.exists_eq_add_of_le' h
  rfl

/-- A notice filed with a port changes that port alone. -/
theorem State.file_frame (p : Port) (n : Notice) (s : State) : s.file p n = s.modPort p fun _ => (s.file p n).port p := by
  rw [State.file_port, if_pos rfl]
  rfl

/-! ### NOTE SEND (R173) -/

/-- The state after a note has been put in the box of port `q` and filed there. -/
def State.noteSent (p q : Port) (bytes : List Byte) (s : State) : State :=
  (s.modPort q fun k => { k with noteBox := some { sender := p, bytes := bytes } }).file q .noteArrived

section
variable {p q : Port} {bytes : List Byte} {s : State}

theorem decideNoteSend_stored (other : q ≠ p) (free : (s.port q).noteBox = none) :
    decideNoteSend p (portCode q) bytes s = done (s.noteSent p q bytes) := by
  rw [decideNoteSend, portOfCode_portCode]
  simp only [if_neg other, free]
  rfl

theorem decideNoteSend_own : decideNoteSend p (portCode p) bytes s = refuse .range s := by
  rw [decideNoteSend, portOfCode_portCode]
  exact if_pos rfl

theorem decideNoteSend_badCode {n : Nat} (h : 2 < n) : decideNoteSend p n bytes s = refuse .range s := by
  rw [decideNoteSend, portOfCode_above h]

theorem decideNoteSend_full (other : q ≠ p) (full : (s.port q).noteBox ≠ none) :
    decideNoteSend p (portCode q) bytes s = refuse .boxFull s := by
  rw [decideNoteSend, portOfCode_portCode]
  simp only [if_neg other, if_pos (Option.isSome_iff_ne_none.2 full)]

theorem State.noteSent_port : (s.noteSent p q bytes).port q =
    { s.port q with noteBox := some ⟨p, bytes⟩, notices := fileInto .noteArrived (s.port q).notices } := by
  rw [State.noteSent, State.file_port, if_pos rfl, State.modPort_port_self]

theorem State.noteSent_frame : s.noteSent p q bytes = s.modPort q fun _ => (s.noteSent p q bytes).port q := by
  rw [State.noteSent_port, State.noteSent, State.file, State.modPort_modPort]
  exact State.modPort_congr rfl

/-! ### NOTE TAKE (R174) -/

/-- The state after port `p` has emptied its box, with NOTE_TAKEN filed with the sender. -/
def State.noteTaken (p sender : Port) (s : State) : State :=
  (s.modPort p fun k => { k with noteBox := none }).file sender .noteTaken

theorem decideNoteTake_empty (h : (s.port p).noteBox = none) : decideNoteTake p s = refuse .boxEmpty s := by
  rw [decideNoteTake, h]

theorem decideNoteTake_note {n : Note} (h : (s.port p).noteBox = some n) : decideNoteTake p s =
    { state := s.noteTaken p n.sender, result := .ok, payload := [BitVec.ofNat 8 (portCode n.sender)] ++ n.bytes } := by
  rw [decideNoteTake, h]
  rfl

theorem State.noteTaken_port (h : q ≠ p) : (s.noteTaken p q).port q =
    { s.port q with notices := fileInto .noteTaken (s.port q).notices } := by
  rw [State.noteTaken, State.file_port, if_pos rfl, State.modPort_port, if_neg h]

theorem State.noteTaken_frame : s.noteTaken p q =
    (s.modPort p fun k => { k with noteBox := none }).modPort q fun _ => (s.noteTaken p q).port q :=
  State.file_frame _ _ _

end

/-- Settles O9: a note stored in an empty box of another port and taken from the own, with the notice filed; else refused. -/
theorem notes : Obligations.Notes := by
  refine ⟨fun p q bytes s₀ s hs low high => ?send, fun p s₀ s hs => ?take⟩
  case send =>
    have length : ∀ n, lengthOk p (.noteSend n bytes) = true := fun _ =>
      Bool.and_eq_true_iff.2 ⟨decide_eq_true low, decide_eq_true high⟩
    have row : ∀ {n result t}, decideNoteSend p n bytes s = { state := t, result := result } →
        exec (.noteSend p n bytes) s₀ = .next (replied p .noteSend result [] t) := fun h =>
      exec_request_replied p (.noteSend _ bytes) hs rfl (by cases p <;> rfl) (length _) h
    refine ⟨fun other free => ⟨s.noteSent p q bytes, row (decideNoteSend_stored other free), State.noteSent_frame, ?_, ?_⟩,
      row decideNoteSend_own, fun n hn => row (decideNoteSend_badCode hn),
      fun other full => row (decideNoteSend_full other full)⟩
    · rw [State.noteSent_port]
    · intro n
      rw [State.noteSent_port]
      exact mem_fileInto _ _ _
  case take =>
    have row : ∀ {result payload t}, decideNoteTake p s = { state := t, result := result, payload := payload } →
        exec (.noteTake p) s₀ = .next (replied p .noteTake result payload t) := fun h =>
      exec_request_replied p .noteTake hs rfl (by cases p <;> rfl) rfl h
    refine ⟨fun empty => row (decideNoteTake_empty empty), fun n box other =>
      ⟨s.noteTaken p n.sender, row (decideNoteTake_note box), State.noteTaken_frame, ?_, fun x => ?_⟩⟩
    · rw [State.noteTaken_port other]
    · rw [State.noteTaken_port other]
      exact mem_fileInto _ _ _

end Sys2Proof.Machine

/-!
The settings (O10): the table of section 10.4, GET, and the refusals of SET.
-/

namespace Sys2Proof.Machine
open Sys2Proof

/-! ### The ids and instances of section 10.4 -/

theorem single_eq (item : Item) (n : Nat) : single item n = [item][n]? := by
  rcases n with _ | n <;> rfl

theorem laneItem_eq (f : Lane → Item) (n : Nat) : laneItem f n = [f .a, f .b][n]? := by
  rcases n with _ | _ | n <;> rfl

theorem lineItem_eq (f : Line → Item) (n : Nat) : lineItem f n = [f .l1, f .l2, f .l3][n]? := by
  rcases n with _ | _ | _ | n <;> rfl

theorem maskItem_eq (n : Nat) :
    maskItem n = [Item.mask .holdA, .mask .holdB, .mask .stationTrip, .mask .slurryStop][n]? := by
  rcases n with _ | _ | _ | _ | n <;> rfl

theorem polarityItem_eq (n : Nat) :
    polarityItem n = [Item.polarity .armStop, .polarity .slurryShutoff, .polarity .stationReady][n]? := by
  rcases n with _ | _ | _ | n <;> rfl

theorem chanOfIndex_eq (n : Nat) : chanOfIndex n = [Chan.z1, .z2, .z3, .z4, .z5, .ring][n]? := by
  rcases n with _ | _ | _ | _ | _ | _ | n <;> rfl

theorem outletOfIndex_eq (n : Nat) : outletOfIndex n = [Outlet.inner, .middle, .outer][n]? := by
  rcases n with _ | _ | _ | n <;> rfl

/-- The channels of lane A, then those of lane B. -/
theorem channelItem_eq (n : Nat) :
    channelItem n = ([Chan.z1, .z2, .z3, .z4, .z5, .ring].map (.limit .a) ++
      [Chan.z1, .z2, .z3, .z4, .z5, .ring].map (.limit .b))[n]? := by
  unfold channelItem
  split
  next low => rw [chanOfIndex_eq, ← List.getElem?_map, List.getElem?_append_left (by simpa using by omega)]
  next high => rw [chanOfIndex_eq, ← List.getElem?_map, List.getElem?_append_right (by simpa using by omega)]; rfl

/-- The outlets of bar A, then those of bar B. -/
theorem outletItem_eq (f : Lane → Outlet → Item) (n : Nat) :
    outletItem f n = ([Outlet.inner, .middle, .outer].map (f .a) ++ [Outlet.inner, .middle, .outer].map (f .b))[n]? := by
  unfold outletItem
  split
  next low => rw [outletOfIndex_eq, ← List.getElem?_map, List.getElem?_append_left (by simpa using by omega)]
  next high => rw [outletOfIndex_eq, ← List.getElem?_map, List.getElem?_append_right (by simpa using by omega)]; rfl

/-- The ids of section 10.4, each with its instances in order. -/
def settingTable : List (Nat × List Item) :=
  let lanes := fun f : Lane → Item => [f .a, f .b]
  let lines := fun f : Line → Item => [f .l1, f .l2, f .l3]
  let chans := [Chan.z1, .z2, .z3, .z4, .z5, .ring]
  let outlets := fun f : Lane → Outlet → Item =>
    [Outlet.inner, .middle, .outer].map (f .a) ++ [Outlet.inner, .middle, .outer].map (f .b)
  [(0x01, [.glazeWarn]), (0x02, [.glazeLimit]), (0x03, [.condStart]), (0x04, [.condStop]), (0x05, [.cutGain]),
    (0x06, [.heightGain]), (0x07, [.padLife]),
    (0x10, [.stallLimit]), (0x11, [.windowLower]), (0x12, [.windowUpper]), (0x13, lanes .homePreset), (0x14, [.hubSize]),
    (0x15, lanes .laneReach), (0x16, [.condReach]),
    (0x20, chans.map (.limit .a) ++ chans.map (.limit .b)), (0x21, lanes .rampRate), (0x22, lanes .softHold),
    (0x23, [.supplyMin]), (0x24, [.supplyTime]), (0x25, [.tolerance]), (0x26, [.deviationTime]),
    (0x30, [.policy]), (0x31, [.parkRadius]), (0x32, [.sweepSpeed]), (0x33, [.sweepInner]), (0x34, [.sweepOuter]),
    (0x35, [.downforce]), (0x36, [.downforceLimit]), (0x37, [.dwellLimit]), (0x38, [.diskLifeLimit]),
    (0x40, lines .maxFlow), (0x41, lines .recirculation), (0x42, lines .primeCount), (0x43, lines .primeFlow),
    (0x44, lines .stopTimeout), (0x45, lines .fallback), (0x46, lines .pulsesPerLitre), (0x47, lanes .barMax),
    (0x48, outlets .outletFirst), (0x49, outlets .outletCount), (0x4A, outlets .outletMax),
    (0x50, [.debounceTime]), (0x51, [.invertMask]),
    (0x52, [.mask .holdA, .mask .holdB, .mask .stationTrip, .mask .slurryStop]), (0x53, lanes .severity),
    (0x54, [.dryLimit]), (0x55, [.polarity .armStop, .polarity .slurryShutoff, .polarity .stationReady]),
    (0x60, [.linkSilence])]

/-- An id and an index name what the table holds under them. -/
theorem Item.ofCode_eq_lookup (id inst : Nat) :
    Item.ofCode id inst = (settingTable.lookup id).bind fun items => items[inst]? := by
  simp only [Item.ofCode, single_eq, laneItem_eq, lineItem_eq, channelItem_eq, outletItem_eq, maskItem_eq, polarityItem_eq]
  split
  case h_49 =>
    have unlisted : settingTable.lookup id = none := List.lookup_eq_none_iff.2 (by simpa [settingTable] using by grind)
    rw [unlisted]
    rfl
  all_goals rfl

/-! ### Ranges and constraints -/

theorem between_iff {lo hi v : Nat} : between lo hi v = true ↔ lo ≤ v ∧ v ≤ hi := by
  simp [between]

theorem Settings.consistent_iff (g : Settings) : g.consistent = true ↔
    g.map.condStop < g.map.condStart ∧ g.map.condStart ≤ g.map.glazeLimit ∧ g.map.glazeWarn ≤ g.map.glazeLimit ∧
      g.tracker.windowLower ≤ g.tracker.windowUpper ∧ g.cond.sweepInner < g.cond.sweepOuter ∧
      ∀ k, g.slurry.recirculation.get k ≤ g.slurry.maxFlow.get k ∧ g.slurry.fallback.get k ≠ some k := by
  have lines : (∀ k, g.slurry.lineConsistent k = true) ↔
      ∀ k, g.slurry.recirculation.get k ≤ g.slurry.maxFlow.get k ∧ g.slurry.fallback.get k ≠ some k := by
    simp [SlurrySettings.lineConsistent]
  have three : (∀ k, g.slurry.lineConsistent k = true) ↔ g.slurry.lineConsistent .l1 = true ∧
      g.slurry.lineConsistent .l2 = true ∧ g.slurry.lineConsistent .l3 = true :=
    ⟨fun h => ⟨h _, h _, h _⟩, fun ⟨h1, h2, h3⟩ k => by cases k <;> assumption⟩
  rw [← lines, three]
  simp [Settings.consistent, MapSettings.ordered, and_assoc]

/-- A recirculation flow replaced leaves consistent settings consistent exactly at or below the line's max flow. -/
theorem Settings.put_recirculation_consistent {g : Settings} (h : g.consistent = true) (k : Line) (v : Nat) :
    (g.put (.recirculation k) v).consistent = true ↔ v ≤ g.slurry.maxFlow.get k := by
  obtain ⟨stop, start, warn, window, sweep, lines⟩ := g.consistent_iff.1 h
  rw [Settings.consistent_iff]
  constructor
  · rintro ⟨-, -, -, -, -, putLines⟩
    simpa [Settings.put, SlurrySettings.put] using (putLines k).1
  · intro hv
    refine ⟨stop, start, warn, window, sweep, fun j => ⟨?_, (lines j).2⟩⟩
    by_cases hj : j = k
    · subst hj
      simpa [Settings.put, SlurrySettings.put] using hv
    · simpa [Settings.put, SlurrySettings.put, Lines.get_set_ne _ _ _ _ hj] using (lines j).1

/-! ### GET and SET -/

section
variable {id inst v : Nat} {item : Item} {s : State}

theorem decideGet_known (h : Item.ofCode id inst = some item) : decideGet id inst s =
    { state := s, result := .ok, payload := settingReply id inst (item.value s.settings) } := by
  rw [decideGet, h]

theorem decideGet_unknown (h : Item.ofCode id inst = none) : decideGet id inst s = refuse .range s := by
  rw [decideGet, h]

theorem decideSet_unknown (h : Item.ofCode id inst = none) : decideSet id inst v s = refuse .range s := by
  rw [decideSet, h]

theorem decideSet_refused {r : Result} (h : Item.ofCode id inst = some item) (refusal : s.setRefusal item v = some r) :
    decideSet id inst v s = refuse r s := by
  rw [decideSet, h]
  simp only [refusal]

theorem State.setRefusal_range (h : item.inRange v = false ∨ (s.settings.put item v).consistent = false) :
    s.setRefusal item v = some .range :=
  if_pos (by simpa using h)

theorem State.setRefusal_busy (range : item.inRange v = true) (consistent : (s.settings.put item v).consistent = true)
    (loud : item.quiet s = false) : s.setRefusal item v = some .busy := by
  simp [State.setRefusal, range, consistent, loud]

end

section
variable {p : Port} {id inst v : Nat} {s₀ s : State}

theorem exec_get_answered {result : Result} {payload : List Byte} (hs : s₀.heard p = s)
    (h : decideGet id inst s = { state := s, result := result, payload := payload }) :
    exec (.get p id inst) s₀ = .next (replied p .get result payload s) :=
  exec_request_replied p (.get id inst) hs rfl rfl rfl h

theorem exec_set_refused {r : Result} (hs : s₀.heard .s = s) (h : decideSet id inst v s = refuse r s) :
    exec (.set .s id inst v) s₀ = .next (replied .s .set r [] s) :=
  exec_request_replied .s (.set id inst v) hs rfl rfl rfl h

end

theorem Hub.quiet_iff (h : Hub) : h.quiet = true ↔ h.holder = none ∧ h.waitList = [] := by
  simp [Hub.quiet]

section
variable {item : Item} (s : State)

theorem Item.quiet_map_iff
    (h : item ∈ [.glazeWarn, .glazeLimit, .condStart, .condStop, .cutGain, .heightGain, .padLife]) :
    item.quiet s = true ↔ s.cond.mode = .off := by
  simp only [List.mem_cons, List.not_mem_nil, or_false] at h
  obtain rfl | rfl | rfl | rfl | rfl | rfl | rfl := h
  all_goals exact decide_eq_true_iff

theorem Item.quiet_laneReach_iff (l : Lane) : (Item.laneReach l).quiet s = true ↔
    (s.hub.holder = none ∧ s.hub.waitList = []) ∧ (s.lane l).state = .raised := by
  rw [Item.quiet, Bool.and_eq_true, Hub.quiet_iff, State.laneRaised_iff]

theorem Item.quiet_condReach_iff : Item.condReach.quiet s = true ↔
    (s.hub.holder = none ∧ s.hub.waitList = []) ∧ s.cond.state = .parked := by
  rw [Item.quiet, Bool.and_eq_true, Hub.quiet_iff, decide_eq_true_iff]

theorem Item.quiet_parkRadius_iff : Item.parkRadius.quiet s = true ↔
    s.cond.state = .unreferenced ∨ s.cond.state = .fault := by
  rw [Item.quiet, Bool.or_eq_true, decide_eq_true_iff, decide_eq_true_iff]

/-- An item that section 10.4 gives no quiet condition is always quiet. -/
theorem Item.quiet_of_unconditional
    (plain : item ∉ [.glazeWarn, .glazeLimit, .condStart, .condStop, .cutGain, .heightGain, .padLife, .hubSize, .condReach,
      .parkRadius, .sweepInner, .sweepOuter])
    (indexed : ∀ l o k, item ≠ .laneReach l ∧ item ≠ .primeCount k ∧ item ≠ .outletFirst l o ∧ item ≠ .outletCount l o) :
    item.quiet s = true := by
  cases item
  case laneReach l => exact absurd rfl (indexed l .inner .l1).1
  case primeCount k => exact absurd rfl (indexed .a .inner k).2.1
  case outletFirst l o => exact absurd rfl (indexed l o .l1).2.2.1
  case outletCount l o => exact absurd rfl (indexed l o .l1).2.2.2
  case glazeWarn | glazeLimit | condStart | condStop | cutGain | heightGain | padLife | hubSize | condReach | parkRadius |
      sweepInner | sweepOuter => exact absurd (by decide) plain
  all_goals rfl

end

/-- Settles O10: the table by cases on the id and on the item, the constraints written out, and GET and SET by the cases of
their decision, each answered from the state the request finds. -/
theorem getAndSetRefusals : Obligations.GetAndSetRefusals := by
  unfold Obligations.GetAndSetRefusals
  intro lanes lines outlets table row
  refine ⟨Item.ofCode_eq_lookup, fun item v => ⟨fun other => ?range, fun k => decide_eq_true_iff⟩,
    fun k v g hg => ?recirculation, fun item => ?defaults, Settings.consistent_iff, fun item s => ?quiet,
    fun p id inst s₀ s hs => ?get, fun id inst v s₀ s hs => ?set⟩
  case range =>
    cases item
    case recirculation k => exact absurd rfl (other k).1
    case primeCount k => exact absurd rfl (other k).2
    all_goals exact between_iff
  case recirculation =>
    have consistent := Settings.put_recirculation_consistent hg k v
    exact ⟨fun h => consistent.1 h.2, fun h => ⟨rfl, consistent.2 h⟩⟩
  case defaults =>
    cases item
    case limit l x | outletFirst l x | outletCount l x | outletMax l x => cases l <;> cases x <;> rfl
    case homePreset x | laneReach x | rampRate x | softHold x | barMax x | severity x | maxFlow x | recirculation x |
        primeCount x | primeFlow x | stopTimeout x | fallback x | pulsesPerLitre x | mask x | polarity x =>
      cases x <;> rfl
    all_goals rfl
  case quiet =>
    refine ⟨Item.quiet_map_iff s, ?_, ?_, ?_, ?_, ?_, ?_, ?_, Item.quiet_of_unconditional s⟩
    · rintro rfl; exact Hub.quiet_iff s.hub
    · rintro l rfl; exact Item.quiet_laneReach_iff s l
    · rintro rfl; exact Item.quiet_condReach_iff s
    · rintro rfl; exact Item.quiet_parkRadius_iff s
    · rintro (rfl | rfl) <;> exact decide_eq_true_iff
    · rintro k rfl; exact decide_eq_true_iff
    · rintro l o (rfl | rfl) <;> exact Option.isNone_iff_eq_none
  case get =>
    exact ⟨fun item h => exec_get_answered hs (decideGet_known h), fun h => exec_get_answered hs (decideGet_unknown h)⟩
  case set =>
    exact ⟨fun h => exec_set_refused hs (decideSet_unknown h), fun item h =>
      ⟨fun bad => exec_set_refused hs (decideSet_refused h (State.setRefusal_range bad)),
       fun range consistent loud =>
        exec_set_refused hs (decideSet_refused h (State.setRefusal_busy range consistent loud))⟩⟩

end Sys2Proof.Machine
